-- ==== Sys2Proof/Word.lean ====
section
/-! DEFINITION. Words, lane enables, and the one container for a fixed number of like things. -/

namespace Sys2Proof

/-- A word of sample memory: 32 bits (00, Conventions). -/
abbrev Word := BitVec 32

/-- The four lane enables of a written word, one per byte (00, Conventions). -/
abbrev Lanes := BitVec 4

/-- A fixed number of like things (the 64 zones, the 48 samples of a period), with its length in the type's
proof field, so that no later statement has to carry it. Reading past the end answers cell 0 and writing past the
end changes nothing; every index the machine forms is inside. -/
structure Bank (n : Nat) (α : Type) where
  cells : List α
  size : cells.length = n
  deriving DecidableEq, Repr

namespace Bank

variable {n : Nat} {α β γ : Type}

/-- Every cell the same. -/
def fill (n : Nat) (a : α) : Bank n α := ⟨List.replicate n a, List.length_replicate⟩

/-- Cell 0. -/
def first [NeZero n] (b : Bank n α) : α :=
  b.cells.head (fun h => NeZero.ne n (by rw [← b.size, h]; rfl))

/-- Cell `i`. -/
def get [NeZero n] (b : Bank n α) (i : Nat) : α := b.cells.getD i b.first

/-- The bank with cell `i` replaced. -/
def set (b : Bank n α) (i : Nat) (a : α) : Bank n α :=
  ⟨b.cells.set i a, by rw [List.length_set]; exact b.size⟩

/-- The bank with cell `i` changed by `f`. -/
def modify [NeZero n] (b : Bank n α) (i : Nat) (f : α → α) : Bank n α := b.set i (f (b.get i))

/-- Every cell changed by `f`. -/
def map (f : α → β) (b : Bank n α) : Bank n β :=
  ⟨b.cells.map f, by rw [List.length_map]; exact b.size⟩

/-- Cell `i` is `f i`. -/
def ofFn (n : Nat) (f : Nat → α) : Bank n α :=
  ⟨(List.range n).map f, by rw [List.length_map, List.length_range]⟩

/-- How many cells satisfy `p`. -/
def count (p : α → Bool) (b : Bank n α) : Nat := b.cells.countP p

end Bank

end Sys2Proof
end

