-- ==== Sys2Proof/Syntax.lean ====
section
/-! DEFINITION. The commands of the part: one constructor of `Instr` per row of spec/opcode_table.json, and the
operands they carry. -/

namespace Sys2Proof

/-- One word of a WRITE: 32 bits of data and four lane enables (R1). -/
structure WriteWord where
  data : Word
  lanes : Lanes
  deriving DecidableEq, Repr, Inhabited

/-- The status memory gives a response (R1). -/
inductive MemStatus
  | ok
  | fault
  deriving DecidableEq, Repr, Inhabited

/-- A response of memory: DATA to a READ or DONE to a WRITE (R1). -/
inductive MemAnswer
  | data (status : MemStatus) (words : List Word)
  | done (status : MemStatus)
  deriving DecidableEq, Repr

/-- What made a full reset (R24). -/
inductive ResetCause
  | power
  | line
  deriving DecidableEq, Repr, Inhabited

/-- The nine tables of the port (section 2.4). -/
inductive PortTable
  | config | zone | station | group | cue | pattern | pin | stream | counter
  deriving DecidableEq, Repr, Inhabited

/-- The increment mode of the port selector (R36). -/
inductive IncMode
  | none
  | readAndWrite
  | writeOnly
  deriving DecidableEq, Repr, Inhabited

/-- The three engines that can be BUSY (R43, R44). -/
inductive Engine
  | stream
  | intercom
  | showEngine
  deriving DecidableEq, Repr, Inhabited

/-- The blocks that work at a tick (R71). -/
inductive TickBlock
  | stream
  | intercom
  | alarm
  | showEngine
  deriving DecidableEq, Repr

/-- The order in which the blocks are taken at one tick. R194 fixes none; R101 fixes only that a group's offer finds
the stream records as their own steps left them, so the intercom engine is taken after the stream engine. The
order is therefore an operand of every command that can make a tick, and any of these (log 7). -/
inductive TickOrder
  | streamIntercomAlarmShow | streamIntercomShowAlarm
  | streamAlarmIntercomShow | streamShowIntercomAlarm
  | streamAlarmShowIntercom | streamShowAlarmIntercom
  | alarmStreamIntercomShow | showStreamIntercomAlarm
  | alarmStreamShowIntercom | showStreamAlarmIntercom
  | alarmShowStreamIntercom | showAlarmStreamIntercom
  deriving DecidableEq, Repr, Inhabited

/-- The orders the manual leaves open inside one timebase step: that of the blocks at its tick (R194), and whether a
mark event made at the same step comes before the tick (log 7). -/
structure Interleave where
  blocks : TickOrder
  markFirst : Bool
  deriving DecidableEq, Repr, Inhabited

/-- What brings the clock unit forward: the next step of the source in charge (under LINE the next sample clock edge,
whose gap is given in millionths of the nominal sample interval, log 6), or the expiry of three intervals without
an edge (R69, R70, R72). -/
inductive TimeEvent
  | nextStep (gap : Nat) (order : Interleave)
  | gapExpiry (order : Interleave)
  deriving DecidableEq, Repr, Inhabited

/-- An event at which a stream record can become FREE or an engine leave the busy set: one in time, or a DATA
response under an own tag (R93, R105, R191). -/
inductive DrainEvent
  | time (event : TimeEvent)
  | response (tag : Nat) (status : MemStatus) (words : List Word)
  deriving DecidableEq, Repr

/-- A zone set: zones 0–31 in the low word, 32–63 in the high word (00, Conventions). -/
structure ZoneSet where
  lo : Word
  hi : Word
  deriving DecidableEq, Repr, Inhabited

/-- How the host reaches a control window word: the tag of its WRITE, and the base at which it takes the control
window to lie. Where that is not the part's window, the burst is the write it is at those addresses (log 4). -/
structure HostAccess where
  tag : Nat
  window : Nat
  deriving DecidableEq, Repr, Inhabited

/-- A table write: one burst that sets the selector, with this mode, and then offers a port data word (10.2; log 4). -/
structure PortAccess where
  host : HostAccess
  mode : IncMode
  deriving DecidableEq, Repr, Inhabited

/-- A command record's own header fields (11.3): one burst writes the whole record (log 4). -/
structure CommandHead where
  host : HostAccess
  sequence : Nat
  answer : Bool
  deriving DecidableEq, Repr, Inhabited

/-- The kind of space a zone serves (R47). -/
inductive ZoneKind
  | publicZone
  | cabinZone
  | crewZone
  | theatreZone
  deriving DecidableEq, Repr, Inhabited

/-- The fields of ZONE word 0 beside the mapped flag (R49). -/
structure ZoneShape where
  kind : ZoneKind
  ringPeriods : Nat
  sensePresent : Bool
  senseLag : Nat
  deriving DecidableEq, Repr, Inhabited

/-- The eight words of an anchor record (11.2). -/
structure AnchorRecord where
  format : Word
  window : Word
  pageRing : Word
  word3 : Word
  word4 : Word
  word5 : Word
  word6 : Word
  trailer : Word
  deriving DecidableEq, Repr, Inhabited

/-- The commands of the part: every row of spec/opcode_table.json, in the table's order. -/
inductive Instr
  /-- READ_REQUEST (R7). -/
  | readRequest (tag addr count : Nat)
  /-- WRITE_REQUEST (R5). -/
  | writeRequest (tag addr : Nat) (words : List WriteWord)
  /-- ARBITER_ISSUE (R19). -/
  | arbiterIssue
  /-- DATA_RESPONSE (R7). -/
  | dataResponse (tag : Nat) (status : MemStatus) (words : List Word)
  /-- DONE_RESPONSE (R6). -/
  | doneResponse (tag : Nat) (status : MemStatus)
  /-- OWN_RESPONSE (R89). -/
  | ownResponse (tag : Nat) (status : MemStatus) (words : List Word)
  /-- UNMATCHED_RESPONSE (R3). -/
  | unmatchedResponse (tag : Nat) (answer : MemAnswer)
  /-- PORT_DATA_READ (R34): the DATA response to a one-word READ of port data. -/
  | portDataRead (tag : Nat) (status : MemStatus) (word : Word)
  /-- FULL_RESET (R20). -/
  | fullReset (cause : ResetCause)
  /-- RESET_RELEASE (R80). -/
  | resetRelease
  /-- DRAIN_RESPONSE (R20). -/
  | drainResponse (tag : Nat) (answer : MemAnswer)
  /-- ANCHOR_RECORD (R12). -/
  | anchorRecord (tag : Nat) (record : AnchorRecord)
  /-- NOTICE_ACKNOWLEDGE (R41). -/
  | noticeAcknowledge (a : HostAccess) (w : WriteWord)
  /-- PORT_SELECTOR_WRITE (R33). -/
  | portSelectorWrite (a : HostAccess) (w : WriteWord)
  /-- CONTROL_WORD_WRITE (R22): a write of control window word `k`. -/
  | controlWordWrite (a : HostAccess) (k : Nat) (w : WriteWord)
  /-- CONFIG_WRITE (R38). -/
  | configWrite (p : PortAccess) (index : Nat) (data : Word)
  /-- ZONE_MAP (R51). -/
  | zoneMap (p : PortAccess) (zone : Nat) (shape : ZoneShape)
  /-- ZONE_UNMAP (R55). -/
  | zoneUnmap (p : PortAccess) (zone : Nat) (shape : ZoneShape)
  /-- ZONE_FIELD_WRITE (R53): word 0–7 of the zone's entry. -/
  | zoneFieldWrite (p : PortAccess) (zone word : Nat) (data : Word)
  /-- STATION_ACTIVATE (R112). -/
  | stationActivate (p : PortAccess) (station ringPeriods : Nat)
  /-- STATION_DEACTIVATE (R113). -/
  | stationDeactivate (p : PortAccess) (station ringPeriods : Nat)
  /-- STATION_FIELD_WRITE (R111): word 0–5 of the station's entry. -/
  | stationFieldWrite (p : PortAccess) (station word : Nat) (data : Word)
  /-- GROUP_DEFINE (R115): the defined flag written as 1. -/
  | groupDefine (p : PortAccess) (group : Nat) (essential : Bool)
  /-- GROUP_UNDEFINE (R115): the defined flag written as 0. -/
  | groupUndefine (p : PortAccess) (group : Nat) (essential : Bool)
  /-- GROUP_GAIN_WRITE (R114): word 1, or one of the refused words 2 and 3. -/
  | groupGainWrite (p : PortAccess) (group word : Nat) (data : Word)
  /-- CUE_WRITE (R170): word 0–3 of the cue. -/
  | cueWrite (p : PortAccess) (cue word : Nat) (data : Word)
  /-- LIST_LENGTH_WRITE (R171). -/
  | listLengthWrite (p : PortAccess) (data : Word)
  /-- PATTERN_WRITE (R144): word 0–16. -/
  | patternWrite (p : PortAccess) (word : Nat) (data : Word)
  /-- READ_ONLY_TABLE_WRITE (R35): a port data write to a read-only table, or one with a lane clear. -/
  | readOnlyTableWrite (p : PortAccess) (table : PortTable) (index : Nat) (w : WriteWord)
  /-- ANS with source CLIP (R87). -/
  | ansClip (h : CommandHead) (priority : Nat) (zones : ZoneSet) (clipBase clipPeriods repeats : Nat)
  /-- ANS with source LIVE (R87). -/
  | ansLive (h : CommandHead) (priority : Nat) (zones : ZoneSet)
  /-- ANS with source GROUP (R87). -/
  | ansGroup (h : CommandHead) (priority : Nat) (zones : ZoneSet) (group : Nat)
  /-- ANX (R94). -/
  | anx (h : CommandHead) (index : Nat)
  /-- PGC (R99). -/
  | pgc (h : CommandHead)
  /-- ICT (R125): the group field is 0–15, or 31 for none. -/
  | ict (h : CommandHead) (station group : Nat)
  /-- ICL (R126): the group set as its word carries it. -/
  | icl (h : CommandHead) (station : Nat) (groups : Word)
  /-- ALS (R132). -/
  | als (h : CommandHead)
  /-- ASI (R133). -/
  | asi (h : CommandHead)
  /-- AEN (R134). -/
  | aen (h : CommandHead)
  /-- SVR (R164). -/
  | svr (h : CommandHead) (zones : ZoneSet)
  /-- SHG (R172). -/
  | shg (h : CommandHead)
  /-- SHH (R186). -/
  | shh (h : CommandHead)
  /-- SHR (R189). -/
  | shr (h : CommandHead)
  /-- SHS (R173). -/
  | shs (h : CommandHead)
  /-- PIN (R16). -/
  | pin (h : CommandHead) (base length : Nat)
  /-- UNP (R17). -/
  | unp (h : CommandHead) (entry : Nat)
  /-- RST with scope ALL (R105). -/
  | rstAll (h : CommandHead)
  /-- RST with scope INTERCOM (R128). -/
  | rstIntercom (h : CommandHead)
  /-- RST with scope SHOW (R191). -/
  | rstShow (h : CommandHead)
  /-- CNC (R45). -/
  | cnc (h : CommandHead) (zones : ZoneSet) (stations : Word) (page : Nat)
  /-- BUSY_END (R44): the event at which the engine leaves the busy set. -/
  | busyEnd (engine : Engine) (event : DrainEvent)
  /-- STREAM_FREE (R93): the event at which the record becomes FREE. -/
  | streamFree (record : Nat) (event : DrainEvent)
  /-- SAMPLE_CLOCK_EDGE (R69): an edge, with its gap in millionths of the nominal interval (log 6). -/
  | sampleClockEdge (gap : Nat) (order : Interleave)
  /-- GAP_EXPIRY (R72). -/
  | gapExpiry (order : Interleave)
  /-- INTERNAL_STEP (R70). -/
  | internalStep (order : Interleave)
  /-- TICK (R71): the event at which the tick phase reaches 48. -/
  | tick (event : TimeEvent)
  /-- CLIP_COMPLETE (R91). -/
  | clipComplete (record : Nat) (event : TimeEvent)
  /-- PAGE_TIMEOUT (R100). -/
  | pageTimeout (record : Nat) (event : TimeEvent)
  /-- SEGMENT_ADVANCE (R145). -/
  | segmentAdvance (event : TimeEvent)
  /-- ZONE_SILENT (R149). -/
  | zoneSilent (zone : Nat) (event : TimeEvent)
  /-- PANEL_LINE_CHANGE (R136): the levels of lines A and B after the edge; true is high. -/
  | panelLineChange (lineA lineB : Bool)
  /-- LINE_STATE_SEEN (R137). -/
  | lineStateSeen (event : TimeEvent)
  /-- ATTENTION_WINDOW_EXPIRY (R139). -/
  | attentionWindowExpiry (event : TimeEvent)
  /-- SHOW_MARK (R76). -/
  | showMark
  /-- LOCK_EXPIRY (R77). -/
  | lockExpiry (event : TimeEvent)
  /-- HOLDOVER_WINDOW_CLOSE (R78). -/
  | holdoverWindowClose (event : TimeEvent)
  /-- FOLLOW_EXPIRY (R177). -/
  | followExpiry (event : TimeEvent)
  /-- LEVEL_RAMP_END (R184). -/
  | levelRampEnd (zone : Nat) (event : TimeEvent)
  deriving DecidableEq, Repr

end Sys2Proof
end

