-- ==== Sys2Proof/Decode.lean ====
section
/-! DEFINITION. The part has no instruction words: no row of spec/opcode_table.json gives bits. A command reaches the
queue as an event of a port or a line; the words of a command RECORD are read by `Machine.parseCommand`. -/

namespace Sys2Proof

/-- No word spells a command, since the table gives no row any bits. -/
def decodeTableWord (_nbits _w : Nat) : Option Instr := none

end Sys2Proof
end

