-- ==== Sys2Proof/Config.lean ====
section
/-! DEFINITION. What one implementation of the part fixes and the manual leaves open. -/

namespace Sys2Proof

/-- FREE VALUE (R83, R97; log 9): the number by which a new slot's buffer is chosen among the record's buffers that no slot of
its queue holds. The manual says that the queue is made from the four buffers and that an unwritten position keeps what
the buffer held before, and not which buffer a slot takes. `draw` counts the slots made so far. -/
opaque Config.bufferChoice : (draw : Nat) → Nat

end Sys2Proof
end

