-- ==== Sys2Proof/Machine/State.lean ====
section
/-! DEFINITION. The state of the part as plain data, block by block, and its value right after reset. -/

namespace Sys2Proof.Machine

/-! ## Transit unit (chapter 1) -/

/-- An entry of the P-port tag table: the kind, the first word's address and the count (R3). -/
structure TagEntry where
  isWrite : Bool
  addr : Nat
  count : Nat
  deriving DecidableEq, Repr, Inhabited

/-- A request in the forwarded queue, as the host presented it (R5, R7, R19). -/
inductive Forwarded
  | read (tag addr count : Nat)
  | write (tag addr : Nat) (words : List WriteWord)
  deriving DecidableEq, Repr

/-- An own request: a READ of 16 words made for one stream record, with the label its response is placed by and
which of the period's three reads it is (R18, R88, R89). -/
structure OwnRequest where
  stream : Nat
  pass : Nat
  period : Nat
  part : Nat
  addr : Nat
  deriving DecidableEq, Repr, Inhabited

/-- The arbiter's turn (R19). -/
inductive Turn
  | forwarded
  | own
  deriving DecidableEq, Repr, Inhabited

/-- The two bases an accepted anchor record gives (R12). -/
structure Anchor where
  window : Nat
  pageRing : Nat
  deriving DecidableEq, Repr, Inhabited

/-- An entry of the pin table (R14). -/
structure PinEntry where
  inUse : Bool
  base : Nat
  length : Nat
  deriving DecidableEq, Repr, Inhabited

structure TransitUnit where
  tags : Bank 32 (Option TagEntry)
  /-- Entry `k` is own tag `32 + k`. -/
  ownTags : Bank 32 (Option OwnRequest)
  forwarded : List Forwarded
  ownQueue : List OwnRequest
  turn : Turn
  anchor : Option Anchor
  pins : Bank 8 PinEntry
  drain : Nat
  deriving DecidableEq, Repr

/-! ## Control unit (chapter 2) -/

/-- The flags of the error accumulator (R32). -/
inductive ErrorFlag
  | check | length | code | tornSlot | busy | refused | portRefused | portRange | anchor | noticeMismatch
  deriving DecidableEq, Repr, Inhabited

/-- The nine notice kinds (section 2.5). -/
inductive NoticeKind
  | alarm | silent | supervision | clock | stream | showNotice | cue | counter | command
  deriving DecidableEq, Repr, Inhabited

/-- The reasons of a refused take (R27). -/
inductive Reason
  | state | argument | noStream | notPinned | contention | alarm
  deriving DecidableEq, Repr, Inhabited

/-- What a take comes to (R27); the detail of the outcome word is the value or the reason (11.4). -/
inductive TakeResult
  | accepted (value : Nat)
  | refused (reason : Reason)
  | rejected
  | busy
  deriving DecidableEq, Repr

/-- The outcome word's fields (R30, 11.4). -/
structure OutcomeWord where
  sequence : Nat
  code : Nat
  result : TakeResult
  deriving DecidableEq, Repr

/-- The port selector (R33). -/
structure Selector where
  table : PortTable
  index : Nat
  mode : IncMode
  deriving DecidableEq, Repr, Inhabited

structure ControlUnit where
  captured : Bank 16 Word
  freshHeader : Bool
  /-- The accumulator; flag `f` at its bit of the published word (11.4). -/
  errors : Bank 10 Bool
  outcome : OutcomeWord
  published : Bank 10 Bool
  selector : Selector
  /-- Kind number `n` (1–9) at index `n − 1`; likewise the mask. -/
  pendingNotices : Bank 9 Bool
  /-- The notice line is asserted exactly while this is some kind (R40). -/
  inService : Option NoticeKind
  mask : Bank 9 Bool
  pageTimeout : Nat
  passThreshold : Nat
  busyStream : Bool
  busyIntercom : Bool
  busyShow : Bool
  resetCause : ResetCause
  deriving DecidableEq, Repr

/-! ## Zones (chapters 3, 7, 8, 9) -/

/-- A supervision verdict (R155). -/
inductive Verdict
  | unchecked
  | passing
  | failing
  deriving DecidableEq, Repr, Inhabited

/-- A level ramp in progress (R184). -/
structure Ramp where
  step : Int
  ticksLeft : Nat
  deriving DecidableEq, Repr, Inhabited

/-- A zone: its configuration (R47) and its run-time state (R48), whoever owns it. -/
structure ZoneEntry where
  mapped : Bool
  kind : ZoneKind
  ringPeriods : Nat
  sensePresent : Bool
  senseLag : Nat
  playoutBase : Nat
  senseBase : Nat
  programGain : Nat
  duckGain : Nat
  overlayGain : Nat
  alarmGain : Nat
  minPriority : Nat
  watchLimit : Nat
  fallbackGroup : Option Nat
  pilotLevel : Nat
  pilotPattern : Nat
  /-- The stream the zone is bound to; a stream's zone set is the zones that name it (R84). -/
  bound : Option Nat
  level : Nat
  levelTarget : Nat
  ramp : Option Ramp
  watch : Nat
  silent : Bool
  seen : Bank 48 Bool
  tally : Nat
  passRun : Nat
  failRun : Nat
  verdict : Verdict
  silentEvents : Nat
  failingPeriods : Nat
  deriving DecidableEq, Repr

/-! ## Clock unit (chapter 4) -/

inductive ClockSource
  | line
  | reference
  deriving DecidableEq, Repr, Inhabited

/-- The show clock's lock state (R76 to R78). -/
inductive LockState
  | free
  | acquiring
  | locked
  | holdover
  deriving DecidableEq, Repr, Inhabited

structure ClockUnit where
  source : ClockSource
  tickPhase : Nat
  offRun : Nat
  goodRun : Nat
  /-- An edge has come since full reset, so that the next one has a gap (R72). -/
  edgeSeen : Bool
  tickCount : Nat
  lock : LockState
  stepCount : Nat
  acquisitionRun : Nat
  previousInterval : Nat
  lockedInterval : Nat
  synthesized : Nat
  markCount : Nat
  deriving DecidableEq, Repr, Inhabited

/-! ## Stream engine (chapter 5) -/

inductive StreamState
  | free
  | starting
  | playing
  | paused
  | ending
  deriving DecidableEq, Repr, Inhabited

inductive StreamSource
  | clip
  | live
  | group
  deriving DecidableEq, Repr, Inhabited

/-- Who started a stream (R82). -/
inductive StreamOwner
  | announce
  | showCue (cue : Nat)
  deriving DecidableEq, Repr

inductive EndCause
  | none | complete | aborted | preempted | alarm | pageTimeout | fetchError | stopped | restart
  deriving DecidableEq, Repr, Inhabited

/-- A slot: one period of stream audio (R83). `parts` counts the fetch parts returned of a FILLING clip slot, and the 48 samples
are those of the record's buffer number `buffer`. -/
structure Slot where
  ready : Bool
  pass : Nat
  period : Nat
  parts : Nat
  ringPeriod : Nat
  buffer : Nat
  deriving DecidableEq, Repr

/-- A stream record (R82). Its bound zone set is the zones whose entry names it (R84). -/
structure StreamRecord where
  state : StreamState
  source : StreamSource
  owner : StreamOwner
  priority : Nat
  clipBase : Nat
  clipPeriods : Nat
  passUnderFetch : Nat
  repeatsLeft : Nat
  nextFetch : Nat
  periodsLeft : Nat
  group : Nat
  closing : Bool
  queue : List Slot
  /-- The head of the queue is marked current (R83). -/
  current : Bool
  starvedCount : Nat
  starvedRun : Nat
  droppedCount : Nat
  endCause : EndCause
  /-- The record has had its first tick in ENDING (R93). -/
  drained : Bool
  /-- The four slot buffers the record owns, in the queue or not; they keep what they hold (R83, R97, R108). -/
  buffers : Bank 4 (Bank 48 Word)
  deriving DecidableEq, Repr

/-- The page ring record and the page counters (R95, R98, R107). -/
structure PageRingRecord where
  capture : Option Nat
  stray : Option Nat
  dropped : Nat
  strayCount : Nat
  deriving DecidableEq, Repr, Inhabited

/-- The last ended stream word (R92, R106). -/
structure LastEnded where
  index : Nat
  cause : EndCause
  owner : StreamOwner
  deriving DecidableEq, Repr

/-! ## Intercom engine (chapter 6) -/

/-- A station record (R109). -/
structure StationRecord where
  active : Bool
  ringPeriods : Nat
  micBase : Nat
  earBase : Nat
  alarmGain : Nat
  talk : Option Nat
  listen : Bank 16 Bool
  ownFilling : Bank 48 Int
  written : Bank 48 Bool
  ownReady : Bank 48 Int
  readyGroup : Option Nat
  heard : Nat
  torn : Nat
  deriving DecidableEq, Repr

/-- A group record (R110). -/
structure GroupRecord where
  defined : Bool
  essential : Bool
  gain : Nat
  filling : Bank 48 Int
  ready : Bank 48 Int
  deriving DecidableEq, Repr

/-! ## Alarm unit (chapter 7) -/

inductive AlarmState
  | quiet
  | sounding
  | muster
  deriving DecidableEq, Repr, Inhabited

inductive AlarmSource
  | command
  | panel
  deriving DecidableEq, Repr, Inhabited

inductive DecoderState
  | idle
  | attended
  | latched
  deriving DecidableEq, Repr, Inhabited

/-- A segment of the pattern table: frequency 0 is a rest (R143). -/
structure Segment where
  frequency : Nat
  duration : Nat
  deriving DecidableEq, Repr, Inhabited

structure AlarmUnit where
  state : AlarmState
  source : Option AlarmSource
  entryTick : Nat
  panelAbort : Bool
  decoder : DecoderState
  holdCount : Nat
  window : Nat
  segments : Bank 16 Segment
  patternLength : Nat
  segment : Nat
  elapsed : Nat
  phase : Nat
  fallback : Bank 8 Bool
  deriving DecidableEq, Repr

/-! ## Show engine (chapter 9) -/

inductive ShowState
  | idle
  | stopped
  | running
  | held
  deriving DecidableEq, Repr, Inhabited

inductive HoldCause
  | command
  | alarm
  deriving DecidableEq, Repr, Inhabited

inductive Trigger
  | go
  | mark
  | follow
  deriving DecidableEq, Repr, Inhabited

inductive CueAction
  | note
  | fade
  | play
  | halt
  | endShow
  deriving DecidableEq, Repr, Inhabited

inductive CueState
  | waiting
  | fired
  | skipped
  | faulted
  deriving DecidableEq, Repr, Inhabited

/-- A cue: the fields of word 0, words 1 to 3 whole (their fields are the action's, R169), and the cue state. -/
structure Cue where
  trigger : Trigger
  value : Nat
  action : CueAction
  notify : Bool
  repeats : Nat
  word1 : Word
  word2 : Word
  word3 : Word
  state : CueState
  deriving DecidableEq, Repr, Inhabited

/-- The hold snapshot (R188): each zone's level target, or no entry, and the follow remaining. -/
structure HoldSnapshot where
  levels : Bank 64 (Option Nat)
  follow : Nat
  deriving DecidableEq, Repr

/-- The last fired cue word (R179). -/
structure LastFired where
  cue : Nat
  state : CueState
  mark : Nat
  deriving DecidableEq, Repr, Inhabited

structure ShowRecord where
  state : ShowState
  length : Nat
  pointer : Nat
  markBase : Nat
  follow : Nat
  holdCause : Option HoldCause
  cues : Bank 256 Cue
  snapshot : Option HoldSnapshot
  lastFired : Option LastFired
  deriving DecidableEq, Repr

/-! ## Lines and ports -/

/-- The input lines that hold a level: the reset line, and the panel contacts (true is high, an open contact). -/
structure InputLines where
  resetAsserted : Bool
  panelA : Bool
  panelB : Bool
  deriving DecidableEq, Repr, Inhabited

/-- The status of an answer to the host (R1). -/
inductive HostStatus
  | okStatus
  | faultStatus
  | protectedStatus
  | tagFaultStatus
  deriving DecidableEq, Repr, Inhabited

/-- A response on the P-port (R1). -/
inductive HostAnswer
  | data (tag : Nat) (status : HostStatus) (words : List Word)
  | done (tag : Nat) (status : HostStatus)
  deriving DecidableEq, Repr

/-- A request on the M-port (R19). -/
inductive MemRequest
  | read (tag addr count : Nat)
  | write (tag addr : Nat) (words : List WriteWord)
  deriving DecidableEq, Repr

/-- The MODEL's own record of the event in hand: what it put on the two ports (log 2), and the highest stream record
it moved into ENDING (R92; log 22). Cleared as each event begins. -/
structure EventRecord where
  toHost : Option HostAnswer
  toMemory : Option MemRequest
  ended : Option Nat
  deriving DecidableEq, Repr

/-- The part. -/
structure State where
  transit : TransitUnit
  control : ControlUnit
  zones : Bank 64 ZoneEntry
  clock : ClockUnit
  streams : Bank 8 StreamRecord
  page : PageRingRecord
  lastEnded : Option LastEnded
  stations : Bank 32 StationRecord
  groups : Bank 16 GroupRecord
  alarm : AlarmUnit
  theatre : ShowRecord
  lines : InputLines
  event : EventRecord
  /-- The MODEL's counter of free values drawn (log 9). -/
  freeDraws : Nat
  /-- The commands waiting, first in, first out (log 1). -/
  pending : List Instr
  deriving DecidableEq, Repr

/-! ## Stops -/

/-- The reasons the part stops with a fault: it has none. Everything that goes wrong in the part is an answer, a flag or
a state (INVENTORY, Faults). -/
inductive Fault
  deriving DecidableEq, Repr

/-- Why a command has no meaning. -/
inductive Refusal
  /-- Raised by `exec` for a row that has no meaning yet; no row is such (safe). -/
  | notModelled (mnemonic : String)
  deriving DecidableEq, Repr

/-! ## The values after full reset -/

/-- R21: everything empty, unanchored, the turn FORWARDED, with this drain count. -/
def TransitUnit.reset (drain : Nat) : TransitUnit :=
  { tags := Bank.fill 32 none, ownTags := Bank.fill 32 none, forwarded := [], ownQueue := [], turn := .forwarded,
    anchor := none, pins := Bank.fill 8 { inUse := false, base := 0, length := 0 }, drain := drain }

/-- R46. -/
def ControlUnit.reset (cause : ResetCause) : ControlUnit :=
  { captured := Bank.fill 16 0#32, freshHeader := false, errors := Bank.fill 10 false,
    outcome := { sequence := 0, code := 0, result := .accepted 0 }, published := Bank.fill 10 false,
    selector := { table := .config, index := 0, mode := .none }, pendingNotices := Bank.fill 9 false,
    inService := none, mask := Bank.fill 9 false, pageTimeout := 250, passThreshold := 36,
    busyStream := false, busyIntercom := false, busyShow := false, resetCause := cause }

/-- R47, R48, R155. -/
def ZoneEntry.reset : ZoneEntry :=
  { mapped := false, kind := .publicZone, ringPeriods := 2, sensePresent := false, senseLag := 0, playoutBase := 0,
    senseBase := 0, programGain := 4096, duckGain := 1024, overlayGain := 4096, alarmGain := 4096, minPriority := 1,
    watchLimit := 20, fallbackGroup := none, pilotLevel := 0, pilotPattern := 0, bound := none, level := 0,
    levelTarget := 0, ramp := none, watch := 0, silent := false, seen := Bank.fill 48 false, tally := 0, passRun := 0,
    failRun := 0, verdict := .unchecked, silentEvents := 0, failingPeriods := 0 }

/-- R80. -/
def ClockUnit.reset : ClockUnit :=
  { source := .reference, tickPhase := 0, offRun := 0, goodRun := 0, edgeSeen := false, tickCount := 0, lock := .free,
    stepCount := 0, acquisitionRun := 0, previousInterval := 0, lockedInterval := 0, synthesized := 0, markCount := 0 }

/-- R108. -/
def StreamRecord.reset : StreamRecord :=
  { state := .free, source := .clip, owner := .announce, priority := 0, clipBase := 0, clipPeriods := 0,
    passUnderFetch := 0, repeatsLeft := 0, nextFetch := 0, periodsLeft := 0, group := 0, closing := false, queue := [],
    current := false, starvedCount := 0, starvedRun := 0, droppedCount := 0, endCause := .none, drained := false,
    buffers := Bank.fill 4 (Bank.fill 48 0#32) }

/-- R108. -/
def PageRingRecord.reset : PageRingRecord := { capture := none, stray := none, dropped := 0, strayCount := 0 }

/-- R109, R129. -/
def StationRecord.reset : StationRecord :=
  { active := false, ringPeriods := 2, micBase := 0, earBase := 0, alarmGain := 4096, talk := none,
    listen := Bank.fill 16 false, ownFilling := Bank.fill 48 0, written := Bank.fill 48 false,
    ownReady := Bank.fill 48 0, readyGroup := none, heard := 0, torn := 0 }

/-- R110, R129. -/
def GroupRecord.reset : GroupRecord :=
  { defined := false, essential := false, gain := 4096, filling := Bank.fill 48 0, ready := Bank.fill 48 0 }

/-- Segment `i` of the default pattern: seven short blasts and one long (R143). -/
def defaultSegment (i : Nat) : Segment :=
  if i = 14 then { frequency := 800, duration := 5000 }
  else if i = 15 then { frequency := 0, duration := 2000 }
  else if i % 2 = 0 then { frequency := 800, duration := 1000 }
  else { frequency := 0, duration := 1000 }

/-- R153. -/
def AlarmUnit.reset : AlarmUnit :=
  { state := .quiet, source := none, entryTick := 0, panelAbort := false, decoder := .idle, holdCount := 0, window := 0,
    segments := Bank.ofFn 16 defaultSegment, patternLength := 16, segment := 0, elapsed := 0, phase := 0,
    fallback := Bank.fill 8 false }

/-- Zero content (R169). -/
def Cue.reset : Cue :=
  { trigger := .go, value := 0, action := .note, notify := false, repeats := 0, word1 := 0#32, word2 := 0#32,
    word3 := 0#32, state := .waiting }

/-- R167, R192. -/
def ShowRecord.reset : ShowRecord :=
  { state := .idle, length := 0, pointer := 0, markBase := 0, follow := 0, holdCause := none,
    cues := Bank.fill 256 Cue.reset, snapshot := none, lastFired := none }

def EventRecord.none : EventRecord := { toHost := Option.none, toMemory := Option.none, ended := Option.none }

/-- Every block at its full-reset value, with what a full reset leaves open: the cause, the drain count, the levels of the
input lines, and the model's own counter and queue. -/
def State.resetWith (cause : ResetCause) (drain : Nat) (lines : InputLines) (freeDraws : Nat) (pending : List Instr) :
    State :=
  { transit := TransitUnit.reset drain, control := ControlUnit.reset cause, zones := Bank.fill 64 ZoneEntry.reset,
    clock := ClockUnit.reset, streams := Bank.fill 8 StreamRecord.reset, page := PageRingRecord.reset,
    lastEnded := none, stations := Bank.fill 32 StationRecord.reset, groups := Bank.fill 16 GroupRecord.reset,
    alarm := AlarmUnit.reset, theatre := ShowRecord.reset, lines := lines, event := EventRecord.none,
    freeDraws := freeDraws, pending := pending }

/-- The part right after its power-up reset: the reset line released, the drain count 0 (R20), both panel contacts open
(DESIGN CHOICE, log 11: the contacts are the ship's, and the pull-ups make an open one high). -/
def State.reset : State :=
  State.resetWith .power 0 { resetAsserted := false, panelA := true, panelB := true } 0 []

end Sys2Proof.Machine
end

