-- ==== Sys2Proof/Machine/Layout.lean ====
section
/-! DEFINITION. Fields of words, the numbers that stand for named values, and the words put together from fields
(chapter 11). -/

namespace Sys2Proof.Machine

/-! ## Fields -/

/-- The unsigned number in `width` bits of `w` from bit `lo` up (chapter 11). -/
def field (w : Word) (lo width : Nat) : Nat := w.toNat / 2 ^ lo % 2 ^ width

/-- Bit `i` of `w`. -/
def flag (w : Word) (i : Nat) : Bool := w.getLsbD i

/-- A field to be written: its value, its low bit and its width. -/
structure FieldValue where
  value : Nat
  lo : Nat
  width : Nat

def FieldValue.weight (f : FieldValue) : Nat := f.value % 2 ^ f.width * 2 ^ f.lo

/-- The word with these fields, every other bit 0 (R196). -/
def pack (fs : List FieldValue) : Word := BitVec.ofNat 32 (fs.map FieldValue.weight).sum

def bit (b : Bool) : Nat := if b then 1 else 0

/-- The word with bit `i` set where `p i` holds, for `i` below 32. -/
def flagsWord (p : Nat → Bool) : Word :=
  pack ((List.range 32).map fun i => { value := bit (p i), lo := i, width := 1 })

/-! ## Samples (00, Conventions) -/

/-- The sample a word carries: its low 24 bits, read as a signed number (R57). -/
def sampleOf (w : Word) : Int := (w.setWidth 24).toInt

/-- Replace a value outside the sample range by the nearer end (00, Samples). -/
def clamp (v : Int) : Int := if v < -8388608 then -8388608 else if 8388607 < v then 8388607 else v

/-- The word of a clamped value, sign-extended (R62). -/
def sampleWord (v : Int) : Word := BitVec.ofInt 32 (clamp v)

/-- A gained sample: multiply, and divide by 4096 rounding toward zero (R60). -/
def gained (v : Int) (gain : Nat) : Int := (v * (gain : Int)).tdiv 4096

/-! ## Numbers of named values (chapter 11) -/

def zoneKindOf (n : Nat) : ZoneKind :=
  match n with
  | 0 => .publicZone
  | 1 => .cabinZone
  | 2 => .crewZone
  | _ => .theatreZone

def zoneKindNumber : ZoneKind → Nat
  | .publicZone => 0
  | .cabinZone => 1
  | .crewZone => 2
  | .theatreZone => 3

def verdictNumber : Verdict → Nat
  | .unchecked => 0
  | .passing => 1
  | .failing => 2

def streamStateNumber : StreamState → Nat
  | .free => 0
  | .starting => 1
  | .playing => 2
  | .paused => 3
  | .ending => 4

def streamSourceNumber : StreamSource → Nat
  | .clip => 0
  | .live => 1
  | .group => 2

def endCauseNumber : EndCause → Nat
  | .none => 0
  | .complete => 1
  | .aborted => 2
  | .preempted => 3
  | .alarm => 4
  | .pageTimeout => 5
  | .fetchError => 6
  | .stopped => 7
  | .restart => 8

/-- The owner bit: 0 ANNOUNCE, 1 SHOW. -/
def ownerNumber : StreamOwner → Nat
  | .announce => 0
  | .showCue _ => 1

/-- The cue index of a SHOW owner, 0 otherwise. -/
def ownerCue : StreamOwner → Nat
  | .announce => 0
  | .showCue cue => cue

def alarmStateNumber : AlarmState → Nat
  | .quiet => 0
  | .sounding => 1
  | .muster => 2

def alarmSourceNumber : Option AlarmSource → Nat
  | none => 0
  | some .command => 1
  | some .panel => 2

def decoderStateNumber : DecoderState → Nat
  | .idle => 0
  | .attended => 1
  | .latched => 2

def clockSourceNumber : ClockSource → Nat
  | .reference => 0
  | .line => 1

def lockStateNumber : LockState → Nat
  | .free => 0
  | .acquiring => 1
  | .locked => 2
  | .holdover => 3

/-- The show state with HELD told apart by its cause (11.4). -/
def showStateNumber (s : ShowState) (cause : Option HoldCause) : Nat :=
  match s, cause with
  | .idle, _ => 0
  | .stopped, _ => 1
  | .running, _ => 2
  | .held, some .alarm => 4
  | .held, _ => 3

def triggerOf (n : Nat) : Option Trigger :=
  match n with
  | 0 => some .go
  | 1 => some .mark
  | 2 => some .follow
  | _ => none

def triggerNumber : Trigger → Nat
  | .go => 0
  | .mark => 1
  | .follow => 2

def cueActionOf (n : Nat) : Option CueAction :=
  match n with
  | 0 => some .note
  | 1 => some .fade
  | 2 => some .play
  | 3 => some .halt
  | 4 => some .endShow
  | _ => none

def cueActionNumber : CueAction → Nat
  | .note => 0
  | .fade => 1
  | .play => 2
  | .halt => 3
  | .endShow => 4

def cueStateNumber : CueState → Nat
  | .waiting => 0
  | .fired => 1
  | .skipped => 2
  | .faulted => 3

/-- A number that may be absent, written with the value that means none. -/
def optNumber (o : Option Nat) (absent : Nat) : Nat := o.getD absent

def resetCauseNumber : ResetCause → Nat
  | .power => 1
  | .line => 2

def reasonNumber : Reason → Nat
  | .state => 1
  | .argument => 2
  | .noStream => 3
  | .notPinned => 4
  | .contention => 5
  | .alarm => 6

def portTableOf (n : Nat) : Option PortTable :=
  match n with
  | 1 => some .config
  | 2 => some .zone
  | 3 => some .station
  | 4 => some .group
  | 5 => some .cue
  | 6 => some .pattern
  | 7 => some .pin
  | 8 => some .stream
  | 9 => some .counter
  | _ => none

def portTableNumber : PortTable → Nat
  | .config => 1
  | .zone => 2
  | .station => 3
  | .group => 4
  | .cue => 5
  | .pattern => 6
  | .pin => 7
  | .stream => 8
  | .counter => 9

def incModeOf (n : Nat) : Option IncMode :=
  match n with
  | 0 => some .none
  | 1 => some .readAndWrite
  | 2 => some .writeOnly
  | _ => Option.none

def incModeNumber : IncMode → Nat
  | .none => 0
  | .readAndWrite => 1
  | .writeOnly => 2

/-- The last word index of each table (section 2.4). -/
def lastIndex : PortTable → Nat
  | .config => 2
  | .zone => 511
  | .station => 191
  | .group => 63
  | .cue => 1024
  | .pattern => 16
  | .pin => 15
  | .stream => 31
  | .counter => 96

/-! ## Sets carried in words -/

/-- Zone `z` is present in the set. -/
def zoneIn (zs : ZoneSet) (z : Nat) : Bool := if z < 32 then flag zs.lo z else flag zs.hi (z - 32)

/-- The members of a set of 64 zones. -/
def zonesOf (zs : ZoneSet) : List Nat := (List.range 64).filter (zoneIn zs)

/-- The stations of a station set. -/
def stationsOf (w : Word) : List Nat := (List.range 32).filter (flag w)

/-! ## Words the host writes -/

/-- ZONE word 0 (11.5). -/
def zoneWord0 (mapped : Bool) (z : ZoneShape) : Word :=
  pack [⟨bit mapped, 0, 1⟩, ⟨zoneKindNumber z.kind, 1, 2⟩, ⟨z.ringPeriods, 8, 6⟩, ⟨bit z.sensePresent, 16, 1⟩,
    ⟨z.senseLag, 24, 6⟩]

/-- The shape fields of a written ZONE word 0. -/
def zoneShapeOf (w : Word) : ZoneShape :=
  { kind := zoneKindOf (field w 1 2), ringPeriods := field w 8 6, sensePresent := flag w 16, senseLag := field w 24 6 }

/-- STATION word 0 (11.5). -/
def stationWord0 (active : Bool) (ringPeriods : Nat) : Word := pack [⟨bit active, 0, 1⟩, ⟨ringPeriods, 8, 6⟩]

/-- GROUP word 0 (11.5). -/
def groupWord0 (defined essential : Bool) : Word := pack [⟨bit defined, 0, 1⟩, ⟨bit essential, 1, 1⟩]

/-- The port selector (11.5). -/
def selectorWord (sel : Selector) : Word :=
  pack [⟨portTableNumber sel.table, 0, 4⟩, ⟨sel.index, 8, 11⟩, ⟨incModeNumber sel.mode, 24, 2⟩]

/-- The selector a written word names, if it passes the tests of R33 on its fields. -/
def selectorOf (w : Word) : Option Selector :=
  match portTableOf (field w 0 4), incModeOf (field w 24 2) with
  | some table, some mode =>
    if field w 8 11 ≤ lastIndex table then some { table := table, index := field w 8 11, mode := mode } else none
  | _, _ => none

/-! ## Command records (11.3) -/

/-- The header word. -/
def headerWord (code sequence : Nat) (answer : Bool) (length : Nat) : Word :=
  pack [⟨code, 0, 5⟩, ⟨sequence, 8, 8⟩, ⟨bit answer, 16, 1⟩, ⟨length, 24, 5⟩]

/-- A command as its record carries it; `ansNone` is an ANS whose word 1 names no source. -/
inductive Command
  | ansClip (priority : Nat) (zones : ZoneSet) (clipBase clipPeriods repeats : Nat)
  | ansLive (priority : Nat) (zones : ZoneSet)
  | ansGroup (priority : Nat) (zones : ZoneSet) (group : Nat)
  | ansNone
  | anx (index : Nat)
  | pgc
  | ict (station group : Nat)
  | icl (station : Nat) (groups : Word)
  | als
  | asi
  | aen
  | svr (zones : ZoneSet)
  | shg
  | shh
  | shr
  | shs
  | pin (base length : Nat)
  | unp (entry : Nat)
  | rst (scope : Nat)
  | cnc (zones : ZoneSet) (stations : Word) (page : Nat)
  deriving DecidableEq, Repr

/-- The command code (11.3). -/
def Command.code : Command → Nat
  | .ansClip .. => 1
  | .ansLive .. => 1
  | .ansGroup .. => 1
  | .ansNone => 1
  | .anx _ => 2
  | .pgc => 3
  | .ict .. => 4
  | .icl .. => 5
  | .als => 6
  | .asi => 7
  | .aen => 8
  | .svr _ => 9
  | .shg => 10
  | .shh => 11
  | .shr => 12
  | .shs => 13
  | .pin .. => 14
  | .unp _ => 15
  | .rst _ => 16
  | .cnc .. => 17

/-- The payload words 1 to L (11.3). -/
def Command.payload : Command → List Word
  | .ansClip priority zones base periods repeats =>
    [pack [⟨1, 0, 4⟩, ⟨priority, 8, 4⟩], zones.lo, zones.hi, BitVec.ofNat 32 base,
      pack [⟨periods, 0, 16⟩, ⟨repeats, 16, 8⟩]]
  | .ansLive priority zones => [pack [⟨2, 0, 4⟩, ⟨priority, 8, 4⟩], zones.lo, zones.hi]
  | .ansGroup priority zones group => [pack [⟨3, 0, 4⟩, ⟨priority, 8, 4⟩, ⟨group, 16, 8⟩], zones.lo, zones.hi]
  | .ansNone => []
  | .anx index => [BitVec.ofNat 32 index]
  | .pgc => []
  | .ict station group => [pack [⟨station, 0, 8⟩, ⟨group, 8, 5⟩]]
  | .icl station groups => [pack [⟨station, 0, 8⟩], groups]
  | .als => []
  | .asi => []
  | .aen => []
  | .svr zones => [zones.lo, zones.hi]
  | .shg => []
  | .shh => []
  | .shr => []
  | .shs => []
  | .pin base length => [BitVec.ofNat 32 base, BitVec.ofNat 32 length]
  | .unp entry => [BitVec.ofNat 32 entry]
  | .rst scope => [BitVec.ofNat 32 scope]
  | .cnc zones stations page => [zones.lo, zones.hi, stations, BitVec.ofNat 32 page]

/-- The payload length L a command must have; none for an ANS that names no source (R29, 11.3). -/
def Command.payloadLength : Command → Option Nat
  | .ansNone => none
  | c => some c.payload.length

/-- An ANS by the source word 1 names (11.3). -/
def parseAns (w : Nat → Word) : Command :=
  let zones : ZoneSet := { lo := w 2, hi := w 3 }
  let priority := field (w 1) 8 4
  match field (w 1) 0 4 with
  | 1 => .ansClip priority zones (w 4).toNat (field (w 5) 0 16) (field (w 5) 16 8)
  | 2 => .ansLive priority zones
  | 3 => .ansGroup priority zones (field (w 1) 16 8)
  | _ => .ansNone

/-- The command that code `code` and the captured words `w` give; none for a code outside 1–17 (R27, 11.3). The words are
read whatever L is: check 6 judges L afterwards (R29). -/
def parseCommand (code : Nat) (w : Nat → Word) : Option Command :=
  match code with
  | 1 => some (parseAns w)
  | 2 => some (.anx (w 1).toNat)
  | 3 => some .pgc
  | 4 => some (.ict (field (w 1) 0 8) (field (w 1) 8 5))
  | 5 => some (.icl (field (w 1) 0 8) (w 2))
  | 6 => some .als
  | 7 => some .asi
  | 8 => some .aen
  | 9 => some (.svr { lo := w 1, hi := w 2 })
  | 10 => some .shg
  | 11 => some .shh
  | 12 => some .shr
  | 13 => some .shs
  | 14 => some (.pin (w 1).toNat (w 2).toNat)
  | 15 => some (.unp (w 1).toNat)
  | 16 => some (.rst (w 1).toNat)
  | 17 => some (.cnc { lo := w 1, hi := w 2 } (w 3) (w 4).toNat)
  | _ => none

/-! ## CRC-16 (R195) -/

/-- One bit through the register. -/
def crcBit (r : BitVec 16) (b : Bool) : BitVec 16 :=
  if b != r.getLsbD 15 then (r <<< 1) ^^^ 0x1021#16 else r <<< 1

/-- A word: bits 0 to 31 in turn, which is least significant byte first and each byte least significant bit first. -/
def crcWord (r : BitVec 16) (w : Word) : BitVec 16 := (List.range 32).foldl (fun r i => crcBit r (w.getLsbD i)) r

/-- The CRC of a run of words. -/
def crc16 (ws : List Word) : BitVec 16 := ws.foldl crcWord 0xFFFF#16

/-- A run of words followed by its trailer, the CRC in the low half (11.2, 11.3). -/
def withCrc (ws : List Word) : List Word := ws ++ [(crc16 ws).setWidth 32]

end Sys2Proof.Machine
end

