-- ==== Sys2Proof/Machine/Flags.lean ====
section
/-! DEFINITION. The error accumulator, the notices and the counters (R32, R37, R39 to R42, R193). -/

namespace Sys2Proof.Machine

/-! ## Error accumulator -/

/-- A flag's bit of the published error set word (11.4). -/
def ErrorFlag.index : ErrorFlag → Nat
  | .check => 0
  | .length => 1
  | .code => 2
  | .tornSlot => 3
  | .busy => 4
  | .refused => 5
  | .portRefused => 6
  | .portRange => 7
  | .anchor => 8
  | .noticeMismatch => 9

/-- Add a flag to the accumulator; one already present leaves it as it was (R32). -/
def ControlUnit.addError (c : ControlUnit) (f : ErrorFlag) : ControlUnit :=
  { c with errors := c.errors.set f.index true }

def State.addError (s : State) (f : ErrorFlag) : State := { s with control := s.control.addError f }

/-! ## Notices -/

/-- A kind's number (section 2.5). -/
def NoticeKind.number : NoticeKind → Nat
  | .alarm => 1
  | .silent => 2
  | .supervision => 3
  | .clock => 4
  | .stream => 5
  | .showNotice => 6
  | .cue => 7
  | .counter => 8
  | .command => 9

/-- A kind's place in the pending set and the mask. -/
def NoticeKind.index (k : NoticeKind) : Nat := k.number - 1

/-- The kinds in the order of their numbers. -/
def noticeKinds : List NoticeKind :=
  [.alarm, .silent, .supervision, .clock, .stream, .showNotice, .cue, .counter, .command]

/-- Post a kind: its pending flag is set, and repeats coalesce (R39). -/
def ControlUnit.post (c : ControlUnit) (k : NoticeKind) : ControlUnit :=
  { c with pendingNotices := c.pendingNotices.set k.index true }

def State.post (s : State) (k : NoticeKind) : State := { s with control := s.control.post k }

/-- Pending and not masked (R40). -/
def ControlUnit.latchable (c : ControlUnit) (k : NoticeKind) : Bool :=
  c.pendingNotices.get k.index && !c.mask.get k.index

/-- With no kind in service, the lowest-numbered pending, unmasked kind is latched (R40). -/
def ControlUnit.latch (c : ControlUnit) : ControlUnit :=
  match c.inService with
  | some _ => c
  | none => { c with inService := noticeKinds.find? c.latchable }

def State.latch (s : State) : State := { s with control := s.control.latch }

/-- The notice line is asserted exactly while a kind is in service (R40). -/
def State.noticeLine (s : State) : Bool := s.control.inService.isSome

/-- A write of the acknowledge word (R41). The latching that follows is the event's own (R193). -/
def ControlUnit.acknowledge (c : ControlUnit) (w : WriteWord) : ControlUnit :=
  match c.inService with
  | none => c.addError .noticeMismatch
  | some k =>
    if w.lanes = 15#4 ∧ w.data.toNat = k.number then
      { c with pendingNotices := c.pendingNotices.set k.index false, inService := none }
    else c.addError .noticeMismatch

/-! ## Events -/

/-- One event: the record of what it does begins empty, its work is done, and the latching of R40 is judged once on
what the whole event leaves (R193). -/
def State.run (s : State) (work : State → State) : State :=
  (work { s with event := EventRecord.none }).latch

/-! ## Counters -/

/-- A counter at its event: it rises by one and stays at 255 (R37). -/
def bump (n : Nat) : Nat := if n < 255 then n + 1 else n

/-- COUNTER is posted when a counter that stood at `before` passes from 127 to 128 (R37). -/
def State.countedFrom (s : State) (before : Nat) : State := if before = 127 then s.post .counter else s

end Sys2Proof.Machine
end

