-- ==== Sys2Proof/Machine/Ops.lean ====
section
/-! DEFINITION. Named operations over the parts of the state: one home for reading and changing a zone, a stream, a
station, a group; the derived sets and counts; the spans of memory that exist as regions. -/

namespace Sys2Proof.Machine

/-! ## Reading and changing one of many -/

def State.zone (s : State) (z : Nat) : ZoneEntry := s.zones.get z

def State.setZone (s : State) (z : Nat) (e : ZoneEntry) : State := { s with zones := s.zones.set z e }

def State.stream (s : State) (n : Nat) : StreamRecord := s.streams.get n

def State.setStream (s : State) (n : Nat) (r : StreamRecord) : State := { s with streams := s.streams.set n r }

def State.station (s : State) (n : Nat) : StationRecord := s.stations.get n

def State.setStation (s : State) (n : Nat) (r : StationRecord) : State := { s with stations := s.stations.set n r }

def State.group (s : State) (g : Nat) : GroupRecord := s.groups.get g

def State.setGroup (s : State) (g : Nat) (r : GroupRecord) : State := { s with groups := s.groups.set g r }

/-- Do `f` for each of the numbers in turn. -/
def State.forEach (s : State) (ns : List Nat) (f : Nat → State → State) : State := ns.foldl (fun s n => f n s) s

/-! ## Lines -/

/-- The line state the two panel lines give (R136). -/
inductive LineState
  | rest
  | attention
  | sound
  | silence
  deriving DecidableEq, Repr

def lineStateOf (a b : Bool) : LineState :=
  match a, b with
  | true, true => .rest
  | false, true => .attention
  | false, false => .sound
  | true, false => .silence

def State.lineState (s : State) : LineState := lineStateOf s.lines.panelA s.lines.panelB

/-- The host has P-port credit: the reset line is released and every response from before it has come (R20). -/
def State.portOpen (s : State) : Bool := !s.lines.resetAsserted && s.transit.drain == 0

/-! ## Streams -/

/-- STARTING, PLAYING or PAUSED: the states a stream can be ended from (R92). -/
def StreamRecord.live (r : StreamRecord) : Bool :=
  match r.state with
  | .starting => true
  | .playing => true
  | .paused => true
  | .free => false
  | .ending => false

/-- STARTING or PLAYING. -/
def StreamRecord.sounding (r : StreamRecord) : Bool :=
  match r.state with
  | .starting => true
  | .playing => true
  | .paused => false
  | .free => false
  | .ending => false

def StreamRecord.showOwned (r : StreamRecord) : Bool :=
  match r.owner with
  | .announce => false
  | .showCue _ => true

/-- Zone `z` is bound to stream `n` (R84). -/
def State.boundTo (s : State) (n z : Nat) : Bool := (s.zone z).bound == some n

/-- The bound zone set of stream `n` (R82, R84). -/
def State.zoneSetOf (s : State) (n : Nat) : List Nat := (List.range 64).filter (s.boundTo n)

/-- Own requests of stream `n` in flight: the ones in the own-tag table (R18, R93). -/
def State.inFlight (s : State) (n : Nat) : Nat :=
  s.transit.ownTags.count fun o => match o with
    | some r => r.stream == n
    | none => false

/-- The last word of a clip range: clip base plus clip periods × 48 minus 1 (R17, R85). -/
def clipLast (base periods : Nat) : Nat := base + periods * 48 - 1

/-! ## Counts of the intercom (R110) -/

def State.talkerCount (s : State) (g : Nat) : Nat := s.stations.count fun r => r.talk == some g

def State.listenerCount (s : State) (g : Nat) : Nat := s.stations.count fun r => r.active && r.listen.get g

def State.streamCount (s : State) (g : Nat) : Nat :=
  s.streams.count fun r => r.state != .free && r.source == .group && r.group == g

/-- A group is muted while the alarm is SOUNDING or MUSTER and it is not essential (R121). -/
def State.muted (s : State) (g : Nat) : Bool := s.alarm.state != .quiet && !(s.group g).essential

/-! ## Mapped THEATRE zones -/

def ZoneEntry.theatre (e : ZoneEntry) : Bool := e.mapped && e.kind == .theatreZone

/-! ## Spans and regions (R4) -/

/-- A run of `length` words from `base`. -/
structure Span where
  base : Nat
  length : Nat
  deriving DecidableEq, Repr

def Span.holds (p : Span) (addr : Nat) : Bool := p.base ≤ addr && addr < p.base + p.length

def Span.overlaps (p q : Span) : Bool := p.base < q.base + q.length && q.base < p.base + p.length

/-- `p` lies wholly inside `q`. -/
def Span.inside (p q : Span) : Bool := q.base ≤ p.base && p.base + p.length ≤ q.base + q.length

def anchorBlock : Span := { base := 0x80, length := 8 }

def Anchor.windowSpan (a : Anchor) : Span := { base := a.window, length := 1024 }

def Anchor.pageSpan (a : Anchor) : Span := { base := a.pageRing, length := 384 }

def ZoneEntry.playoutSpan (e : ZoneEntry) : Span := { base := e.playoutBase, length := e.ringPeriods * 48 }

def ZoneEntry.senseSpan (e : ZoneEntry) : Span := { base := e.senseBase, length := e.ringPeriods * 48 }

def StationRecord.micSpan (r : StationRecord) : Span := { base := r.micBase, length := r.ringPeriods * 48 }

def StationRecord.earSpan (r : StationRecord) : Span := { base := r.earBase, length := r.ringPeriods * 48 }

def PinEntry.span (p : PinEntry) : Span := { base := p.base, length := p.length }

/-- The rings of a zone that exist: none while it is unmapped, and a sense ring only where it has one (R4). -/
def ZoneEntry.spans (e : ZoneEntry) : List Span :=
  if e.mapped then (if e.sensePresent then [e.playoutSpan, e.senseSpan] else [e.playoutSpan]) else []

/-- The rings of a station that exist (R4). -/
def StationRecord.spans (r : StationRecord) : List Span := if r.active then [r.micSpan, r.earSpan] else []

def PinEntry.spans (p : PinEntry) : List Span := if p.inUse then [p.span] else []

def anchorSpans (a : Option Anchor) : List Span :=
  match a with
  | none => []
  | some a => [a.windowSpan, a.pageSpan]

/-- Every region but plain memory that exists now (R4): the anchor block, the window and the page ring, the rings of
mapped zones and active stations, the pinned regions. -/
def State.regions (s : State) : List Span :=
  anchorBlock :: anchorSpans s.transit.anchor ++ s.zones.cells.flatMap ZoneEntry.spans
    ++ s.stations.cells.flatMap StationRecord.spans ++ s.transit.pins.cells.flatMap PinEntry.spans

/-- `p` meets no region that exists. -/
def State.clearOf (s : State) (p : Span) : Bool := s.regions.all fun q => !p.overlaps q

/-- What a word address is (R4). An offset is counted from the base of the region. -/
inductive Region
  | anchorBlock (offset : Nat)
  | window (word : Nat)
  | playout (zone offset : Nat)
  | sense (zone offset : Nat)
  | microphone (station offset : Nat)
  | earpiece (station offset : Nat)
  | pageRing (offset : Nat)
  | pinned (entry : Nat)
  | plain
  deriving DecidableEq, Repr

def State.classifyAnchor (s : State) (addr : Nat) : Option Region :=
  if Machine.anchorBlock.holds addr then some (.anchorBlock (addr - 0x80))
  else match s.transit.anchor with
    | none => none
    | some a =>
      if a.windowSpan.holds addr then some (.window (addr - a.window))
      else if a.pageSpan.holds addr then some (.pageRing (addr - a.pageRing))
      else none

def State.classifyZone (s : State) (addr z : Nat) : Option Region :=
  let e := s.zone z
  if e.mapped && e.playoutSpan.holds addr then some (.playout z (addr - e.playoutBase))
  else if e.mapped && e.sensePresent && e.senseSpan.holds addr then some (.sense z (addr - e.senseBase))
  else none

def State.classifyStation (s : State) (addr n : Nat) : Option Region :=
  let r := s.station n
  if r.active && r.micSpan.holds addr then some (.microphone n (addr - r.micBase))
  else if r.active && r.earSpan.holds addr then some (.earpiece n (addr - r.earBase))
  else none

def State.classifyPin (s : State) (addr e : Nat) : Option Region :=
  let p := s.transit.pins.get e
  if p.inUse && p.span.holds addr then some (.pinned e) else none

/-- The region of a word address against the regions that exist now (R4). They are disjoint, so the order of the search
does not matter. -/
def State.classify (s : State) (addr : Nat) : Region :=
  ((s.classifyAnchor addr).or
    (((List.range 64).findSome? (s.classifyZone addr)).or
      (((List.range 32).findSome? (s.classifyStation addr)).or
        ((List.range 8).findSome? (s.classifyPin addr))))).getD .plain

end Sys2Proof.Machine
end

