-- ==== Sys2Proof/WellFormed.lean ====
section
/-! DEFINITION. Which commands the part's ports and lines can carry: the ranges the requests, records and table words
of the manual leave to their operands. -/

namespace Sys2Proof

/-- The largest word address of sample memory (00, Conventions). -/
def topAddress : Nat := 268435455

/-- A tag of the processor port is 0–63 (R2). -/
def tagOk (tag : Nat) : Bool := tag ≤ 63

/-- A burst has 1 to 16 words and begins at a word of memory (R1). -/
def burstOk (addr count : Nat) : Bool := addr ≤ topAddress && 1 ≤ count && count ≤ 16

/-- The window base a host may take is one the anchor record could hold (R12). -/
def HostAccess.ok (a : HostAccess) : Bool := tagOk a.tag && a.window + 1023 ≤ topAddress

def PortAccess.ok (p : PortAccess) : Bool := p.host.ok

/-- The sequence number is eight bits (11.3). -/
def CommandHead.ok (h : CommandHead) : Bool := h.host.ok && h.sequence ≤ 255

/-- A response carries at most the 16 words of a burst (R1). -/
def MemAnswer.ok : MemAnswer → Bool
  | .data _ words => words.length ≤ 16
  | .done _ => true

def ZoneShape.ok (z : ZoneShape) : Bool := z.ringPeriods ≤ 63 && z.senseLag ≤ 63

def wordOk (n : Nat) : Bool := n < 4294967296

def DrainEvent.ok : DrainEvent → Bool
  | .time _ => true
  | .response tag _ words => tagOk tag && words.length ≤ 16

/-- The ranges of each command's operands. -/
def Instr.wellFormed : Instr → Bool
  | .readRequest tag addr count => tagOk tag && burstOk addr count
  | .writeRequest tag addr words => tagOk tag && burstOk addr words.length
  | .arbiterIssue => true
  | .dataResponse tag _ words => tagOk tag && words.length ≤ 16
  | .doneResponse tag _ => tagOk tag
  | .ownResponse tag _ words => tagOk tag && words.length ≤ 16
  | .unmatchedResponse tag answer => tagOk tag && answer.ok
  | .portDataRead tag _ _ => tagOk tag
  | .fullReset _ => true
  | .resetRelease => true
  | .drainResponse tag answer => tagOk tag && answer.ok
  | .anchorRecord tag _ => tagOk tag
  | .noticeAcknowledge a _ => a.ok
  | .portSelectorWrite a _ => a.ok
  | .controlWordWrite a k _ => a.ok && k ≤ 1023
  | .configWrite p index _ => p.ok && index ≤ 2
  | .zoneMap p zone shape => p.ok && zone ≤ 63 && shape.ok
  | .zoneUnmap p zone shape => p.ok && zone ≤ 63 && shape.ok
  | .zoneFieldWrite p zone word _ => p.ok && zone ≤ 63 && word ≤ 7
  | .stationActivate p station periods => p.ok && station ≤ 31 && periods ≤ 63
  | .stationDeactivate p station periods => p.ok && station ≤ 31 && periods ≤ 63
  | .stationFieldWrite p station word _ => p.ok && station ≤ 31 && word ≤ 5
  | .groupDefine p group _ => p.ok && group ≤ 15
  | .groupUndefine p group _ => p.ok && group ≤ 15
  | .groupGainWrite p group word _ => p.ok && group ≤ 15 && 1 ≤ word && word ≤ 3
  | .cueWrite p cue word _ => p.ok && cue ≤ 255 && word ≤ 3
  | .listLengthWrite p _ => p.ok
  | .patternWrite p word _ => p.ok && word ≤ 16
  | .readOnlyTableWrite p _ index _ => p.ok && index ≤ 2047
  | .ansClip h priority _ base periods repeats =>
    h.ok && priority ≤ 15 && wordOk base && periods ≤ 65535 && repeats ≤ 255
  | .ansLive h priority _ => h.ok && priority ≤ 15
  | .ansGroup h priority _ group => h.ok && priority ≤ 15 && group ≤ 255
  | .anx h index => h.ok && wordOk index
  | .pgc h => h.ok
  | .ict h station group => h.ok && station ≤ 255 && group ≤ 31
  | .icl h station _ => h.ok && station ≤ 255
  | .als h => h.ok
  | .asi h => h.ok
  | .aen h => h.ok
  | .svr h _ => h.ok
  | .shg h => h.ok
  | .shh h => h.ok
  | .shr h => h.ok
  | .shs h => h.ok
  | .pin h base length => h.ok && wordOk base && wordOk length
  | .unp h entry => h.ok && wordOk entry
  | .rstAll h => h.ok
  | .rstIntercom h => h.ok
  | .rstShow h => h.ok
  | .cnc h _ _ page => h.ok && wordOk page
  | .busyEnd _ event => event.ok
  | .streamFree record event => record ≤ 7 && event.ok
  | .sampleClockEdge _ _ => true
  | .gapExpiry _ => true
  | .internalStep _ => true
  | .tick _ => true
  | .clipComplete record _ => record ≤ 7
  | .pageTimeout record _ => record ≤ 7
  | .segmentAdvance _ => true
  | .zoneSilent zone _ => zone ≤ 63
  | .panelLineChange _ _ => true
  | .lineStateSeen _ => true
  | .attentionWindowExpiry _ => true
  | .showMark => true
  | .lockExpiry _ => true
  | .holdoverWindowClose _ => true
  | .followExpiry _ => true
  | .levelRampEnd zone _ => zone ≤ 63

end Sys2Proof
end

