-- ==== Sys2Proof/Machine/Streams.lean ====
section
/-! DEFINITION. The stream engine (chapter 5): binding, fetch, the tick, ending, the live page, group offers, and what it
does for the show engine. -/

namespace Sys2Proof.Machine

/-! ## Ending (R92) -/

/-- The last ended stream word and the event's own record of it: of several records ended at one event the word shows the
highest index (R92). -/
def State.noteEnded (s : State) (n : Nat) (cause : EndCause) (owner : StreamOwner) : State :=
  if n < s.event.ended.getD 0 then s
  else { s with lastEnded := some { index := n, cause := cause, owner := owner },
                event := { s.event with ended := some n } }

/-- The own requests of stream `n` still waiting are withdrawn (R18). -/
def TransitUnit.withdraw (t : TransitUnit) (n : Nat) : TransitUnit :=
  { t with ownQueue := t.ownQueue.filter fun r => r.stream != n }

/-- The page window closes with a LIVE record: the capture state becomes none (R95). -/
def PageRingRecord.close (p : PageRingRecord) : PageRingRecord := { p with capture := none }

/-- Stream `n` enters ENDING with this cause, if it is STARTING, PLAYING or PAUSED; otherwise nothing changes (R92). -/
def State.endStream (cause : EndCause) (n : Nat) (s : State) : State :=
  let r := s.stream n
  if r.live then
    let s := s.setStream n { r with state := .ending, endCause := cause, drained := false }
    let s := { s with transit := s.transit.withdraw n }
    let s := if r.source = .live then { s with page := s.page.close } else s
    (s.noteEnded n cause r.owner).post .stream
  else s

/-! ## Leaving the busy set (R44, R105, R191) -/

def State.allFree (s : State) : Bool := s.streams.cells.all fun r => r.state == .free

def State.showDrained (s : State) : Bool := s.streams.cells.all fun r => !(r.state == .ending && r.showOwned)

/-- The stream engine leaves when all its records are FREE, the show engine when no show-owned record is ENDING. -/
def State.releaseBusy (s : State) : State :=
  { s with control := { s.control with
      busyStream := s.control.busyStream && !s.allFree,
      busyShow := s.control.busyShow && !s.showDrained } }

/-! ## Binding (R86) -/

/-- Whether zone `z` would be taken by a stream of priority `p`. -/
def State.takes (s : State) (p z : Nat) : Bool :=
  let e := s.zone z
  e.mapped && e.minPriority ≤ p && match e.bound with
    | none => true
    | some n => (s.stream n).state == .ending || (s.stream n).priority < p

def State.zonesTaken (s : State) (p : Nat) (zs : ZoneSet) : List Nat := (zonesOf zs).filter (s.takes p)

/-- Zone `z` moves to stream `n` (R84). -/
def State.bindZone (n z : Nat) (s : State) : State := s.setZone z { s.zone z with bound := some n }

/-- A live stream other than `n` left without zones is PREEMPTED. -/
def State.preemptIfEmpty (n m : Nat) (s : State) : State :=
  if m ≠ n ∧ s.zoneSetOf m = [] then s.endStream .preempted m else s

/-- The binding at the take: the zones move, then every other stream is examined (R86). -/
def State.bindZones (s : State) (n : Nat) (zs : List Nat) : State :=
  (s.forEach zs (State.bindZone n)).forEach (List.range 8) (State.preemptIfEmpty n)

/-! ## Fetch (R88) -/

def StreamRecord.filling (r : StreamRecord) : Bool := r.queue.any fun q => !q.ready

def StreamRecord.mayFetch (r : StreamRecord) : Bool :=
  r.live && r.source == .clip && r.queue.length < 4 && !r.filling && r.nextFetch < r.clipPeriods

/-- The record's buffers that no slot of its queue holds (R83). -/
def StreamRecord.freeBuffers (r : StreamRecord) : List Nat :=
  (List.range 4).filter fun b => !r.queue.any fun x => x.buffer == b

/-- The buffer a new slot takes: one of the free ones, and the manual does not say which (log 9). -/
def StreamRecord.chooseBuffer (r : StreamRecord) (draw : Nat) : Nat :=
  r.freeBuffers.getD (Config.bufferChoice draw % r.freeBuffers.length) 0

/-- Write a sample of a buffer. -/
def StreamRecord.writeSample (r : StreamRecord) (b i : Nat) (word : Word) : StreamRecord :=
  { r with buffers := r.buffers.modify b fun x => x.set i word }

/-- A FILLING clip slot for this pass and period, no part returned. -/
def Slot.fetching (pass period buffer : Nat) : Slot :=
  { ready := false, pass := pass, period := period, parts := 0, ringPeriod := 0, buffer := buffer }

/-- The next fetch period rises by one, wrapping into the next play of the clip while repeats are left. -/
def StreamRecord.advanceFetch (r : StreamRecord) : StreamRecord :=
  if r.nextFetch + 1 = r.clipPeriods ∧ 0 < r.repeatsLeft then
    { r with nextFetch := 0, repeatsLeft := r.repeatsLeft - 1, passUnderFetch := r.passUnderFetch + 1 }
  else { r with nextFetch := r.nextFetch + 1 }

/-- Own requests wait by stream index, lowest first, and within a stream in the order made (R19). -/
def insertOwn (q : List OwnRequest) (r : OwnRequest) : List OwnRequest :=
  match q with
  | [] => [r]
  | x :: rest => if x.stream ≤ r.stream then x :: insertOwn rest r else r :: x :: rest

/-- The three READs of one clip period. -/
def ownReads (n : Nat) (r : StreamRecord) : List OwnRequest :=
  [0, 1, 2].map fun k =>
    { stream := n, pass := r.passUnderFetch, period := r.nextFetch, part := k,
      addr := r.clipBase + 48 * r.nextFetch + 16 * k }

def TransitUnit.queueOwn (t : TransitUnit) (rs : List OwnRequest) : TransitUnit :=
  { t with ownQueue := rs.foldl insertOwn t.ownQueue }

/-- A fetch is made for stream `n` if R88 allows one. -/
def State.fetch (n : Nat) (s : State) : State :=
  let r := s.stream n
  if r.mayFetch then
    let slot := Slot.fetching r.passUnderFetch r.nextFetch (r.chooseBuffer s.freeDraws)
    { s.setStream n { r with queue := r.queue ++ [slot] }.advanceFetch with
      transit := s.transit.queueOwn (ownReads n r), freeDraws := s.freeDraws + 1 }
  else s

/-! ## Starting (R87, R103) -/

/-- What a start asks for. -/
inductive StartSource
  | clip (base periods repeats : Nat)
  | live
  | group (index : Nat)
  deriving DecidableEq, Repr

/-- The lowest-numbered FREE record. -/
def State.freeRecord (s : State) : Option Nat := (List.range 8).find? fun n => (s.stream n).state == .free

/-- A record set up afresh: fields its source does not use are 0, and its buffers are as they were (R82, R87). -/
def StreamRecord.setUp (old : StreamRecord) (owner : StreamOwner) (priority : Nat) (source : StartSource) :
    StreamRecord :=
  let base : StreamRecord :=
    { StreamRecord.reset with state := .starting, owner := owner, priority := priority, buffers := old.buffers }
  match source with
  | .clip b p k =>
    { base with source := .clip, clipBase := b, clipPeriods := p, repeatsLeft := k, periodsLeft := p * (k + 1) }
  | .live => { base with source := .live }
  | .group g => { base with source := .group, group := g }

/-- The page window opens: capture state and stray marker none (R95). -/
def PageRingRecord.opened (p : PageRingRecord) : PageRingRecord := { p with capture := none, stray := none }

/-- Stream `n` is set up, takes its zones, and begins by its source (R87). -/
def State.startStream (s : State) (n : Nat) (owner : StreamOwner) (priority : Nat) (source : StartSource)
    (zs : List Nat) : State :=
  let s := s.setStream n ((s.stream n).setUp owner priority source)
  let s := s.bindZones n zs
  match source with
  | .clip .. => s.fetch n
  | .live => { s with page := s.page.opened }
  | .group _ => s

/-- The start request of a PLAY cue (R103): none where the engine is BUSY, no record is FREE or no zone would be taken. -/
def State.startRequest (s : State) (cue base periods repeats : Nat) (zs : ZoneSet) : Option State :=
  if s.control.busyStream then none
  else match s.freeRecord with
    | none => none
    | some n =>
      match s.zonesTaken 2 zs with
      | [] => none
      | taken => some (s.startStream n (.showCue cue) 2 (.clip base periods repeats) taken)

/-! ## ANS, ANX and PGC -/

def startPriorityOk (p : Nat) : Bool := 1 ≤ p && p ≤ 7

/-- Order 1 of R85, for a command that names a source. -/
def State.ansArgumentsOk (s : State) (priority : Nat) (source : StartSource) : Bool :=
  startPriorityOk priority && match source with
    | .clip b p k => 1 ≤ p && p ≤ 65535 && k ≤ 15 && clipLast b p ≤ topAddress
    | .live => true
    | .group g => g ≤ 15 && (s.group g).defined

/-- A clip range lies wholly inside the region of one in-use pin entry (R85 order 3). -/
def State.clipPinned (s : State) (base periods : Nat) : Bool :=
  s.transit.pins.cells.any fun p => p.inUse && Span.inside { base := base, length := periods * 48 } p.span

def State.ansNotPinned (s : State) (priority : Nat) (source : StartSource) : Bool :=
  match source with
  | .clip b p _ => priority == 7 && !s.clipPinned b p
  | .live => false
  | .group _ => false

/-- Some LIVE record is not FREE (R85 order 4). -/
def State.liveTaken (s : State) : Bool := s.streams.cells.any fun r => r.source == .live && r.state != .free

/-- Check 6 of an ANS: the reason it is refused, or the record it takes and its zones (R85). -/
def State.ansJudge (s : State) (priority : Nat) (source : StartSource) (zs : ZoneSet) :
    Except Reason (Nat × List Nat) :=
  if !s.ansArgumentsOk priority source then .error .argument
  else if s.alarm.state = .sounding ∨ (s.alarm.state = .muster ∧ priority ≠ 7) then .error .alarm
  else if s.ansNotPinned priority source then .error .notPinned
  else if source = .live ∧ s.liveTaken then .error .state
  else match s.freeRecord with
    | none => .error .noStream
    | some n => if s.zonesTaken priority zs = [] then .error .argument else .ok (n, s.zonesTaken priority zs)

/-- An ANS (R85 to R87): the result value holds the stream index in bits 0–2 and the zones taken in bits 8–14 (11.3). -/
def State.takeAns (s : State) (priority : Nat) (source : StartSource) (zs : ZoneSet) : Except Reason (Nat × State) :=
  match s.ansJudge priority source zs with
  | .error reason => .error reason
  | .ok (n, taken) => .ok (n + 256 * taken.length, s.startStream n .announce priority source taken)

/-- ANX (R94). -/
def State.takeAnx (s : State) (index : Nat) : Except Reason (Nat × State) :=
  if 7 < index then .error .argument
  else if !(s.stream index).live then .error .state
  else if (s.stream index).showOwned then .error .state
  else .ok (index, s.endStream .aborted index)

/-- The LIVE record in STARTING or PLAYING with its closing flag clear: while there is one the page window is OPEN
(R95). -/
def State.openPage (s : State) : Option Nat :=
  (List.range 8).find? fun n =>
    (s.stream n).source == .live && (s.stream n).sounding && !(s.stream n).closing

/-- A FILLING slot at the tail is removed (R96, R99). -/
def dropFilling (q : List Slot) : List Slot := q.filter fun x => x.ready

/-- PGC (R99). -/
def State.takePgc (s : State) : Except Reason (Nat × State) :=
  match s.openPage with
  | none => .error .state
  | some n =>
    let r := s.stream n
    .ok (n, { s.setStream n { r with closing := true, queue := dropFilling r.queue } with page := s.page.close })

/-! ## The live page (R95 to R98) -/

/-- A dropped period: the record's dropped count and the page dropped counter rise (R96, R107). -/
def State.dropPeriod (n : Nat) (s : State) : State :=
  let r := s.stream n
  let before := s.page.dropped
  let s := s.setStream n { r with droppedCount := bump r.droppedCount }
  State.countedFrom { s with page := { s.page with dropped := bump before } } before

/-- A FILLING slot of ring period `p` (R96). -/
def Slot.capturing (p buffer : Nat) : Slot :=
  { ready := false, pass := 0, period := 0, parts := 0, ringPeriod := p, buffer := buffer }

/-- R96 step 3: a new period, or a dropped one where the queue is full. The other positions of the slot keep what its buffer held
before (R97). -/
def State.newPagePeriod (s : State) (n p : Nat) (word : Word) : State :=
  let r := s.stream n
  if r.queue.length < 4 then
    let b := r.chooseBuffer s.freeDraws
    { s.setStream n ({ r with queue := r.queue ++ [Slot.capturing p b] }.writeSample b 0 word) with
      page := { s.page with capture := some p }, freeDraws := s.freeDraws + 1 }
  else s.dropPeriod n

/-- A sample of the FILLING slot; there is at most one, the last (R83). -/
def StreamRecord.fill (r : StreamRecord) (i : Nat) (word : Word) : StreamRecord :=
  (r.queue.filter fun x => !x.ready).foldl (fun r x => r.writeSample x.buffer i word) r

/-- The FILLING slot becomes READY (R97). -/
def readyAll (q : List Slot) : List Slot := q.map fun x => { x with ready := true }

/-- A page word at position 0 while the window is OPEN (R96). -/
def State.pageStart (s : State) (n p : Nat) (word : Word) : State :=
  if s.page.capture = some p then
    s.setStream n ((s.stream n).fill 0 word)
  else if s.page.capture = none then s.newPagePeriod n p word
  else
    let r := s.stream n
    let s := s.setStream n { r with queue := dropFilling r.queue }
    let s := s.dropPeriod n
    { s with page := { s.page with capture := none } }.newPagePeriod n p word

/-- A page word at positions 1 to 47 while the window is OPEN (R97). -/
def State.pageSample (s : State) (n p i : Nat) (word : Word) : State :=
  if s.page.capture = some p then
    let r := (s.stream n).fill i word
    if i = 47 then { s.setStream n { r with queue := readyAll r.queue } with page := { s.page with capture := none } }
    else s.setStream n r
  else s

/-- A page word while the window is not OPEN (R98). -/
def State.pageStray (s : State) (p i : Nat) : State :=
  if i = 0 ∨ s.page.stray ≠ some p then
    let before := s.page.strayCount
    State.countedFrom { s with page := { s.page with stray := some p, strayCount := bump before } } before
  else s

/-- A page ring word, at this offset from the ring's base (R95 to R98). -/
def State.offerPage (s : State) (offset : Nat) (word : Word) : State :=
  let p := offset / 48
  let i := offset % 48
  match s.openPage with
  | none => s.pageStray p i
  | some n => if i = 0 then s.pageStart n p word else s.pageSample n p i word

/-! ## Responses to own requests (R89) -/

/-- A part of the slot has returned; the third makes it READY. -/
def Slot.arrive (x : Slot) : Slot := { x with parts := x.parts + 1, ready := x.parts == 2 }

/-- The FILLING slot a response is labelled for. -/
def Slot.labelled (x : Slot) (r : OwnRequest) : Bool := !x.ready && x.pass == r.pass && x.period == r.period

/-- The words of one fetch part are put into the slot it is labelled for, at its 16 positions (R89). -/
def StreamRecord.place (r : StreamRecord) (o : OwnRequest) (words : List Word) : StreamRecord :=
  let slots := r.queue.filter fun x => x.labelled o
  let r := slots.foldl (fun r x =>
    (words.take 16).zipIdx.foldl (fun r p => r.writeSample x.buffer (16 * o.part + p.2) p.1) r) r
  { r with queue := r.queue.map fun x => if x.labelled o then x.arrive else x }

/-- A record in ENDING that has had its first tick there and has nothing in flight becomes FREE (R93). -/
def State.freeIfDrained (n : Nat) (s : State) : State :=
  let r := s.stream n
  if r.state = .ending ∧ r.drained ∧ s.inFlight n = 0 then s.setStream n { r with state := .free } else s

/-- DATA for an own tag, after the tag is freed (R18, R89). -/
def State.ownData (s : State) (r : OwnRequest) (status : MemStatus) (words : List Word) : State :=
  let rec' := s.stream r.stream
  if rec'.live then
    match status with
    | .fault => s.endStream .fetchError r.stream
    | .ok => (s.setStream r.stream (rec'.place r words)).fetch r.stream
  else (s.freeIfDrained r.stream).releaseBusy

/-! ## The tick (R90, R91, R93, R99, R100) -/

def StreamRecord.headReady (r : StreamRecord) : Bool :=
  match r.queue with
  | [] => false
  | x :: _ => x.ready

/-- R90: a STARTING record whose head is READY begins to play. -/
def StreamRecord.begin (r : StreamRecord) : StreamRecord :=
  if r.headReady then { r with state := .playing, current := true } else r

/-- R91 step 1. -/
def StreamRecord.retire (r : StreamRecord) : StreamRecord :=
  if r.current then
    { r with queue := r.queue.tail, current := false,
             periodsLeft := if r.source = .clip then r.periodsLeft - 1 else r.periodsLeft }
  else r

/-- R91 step 2, for a record already retired: the clip is through, or a closing page is drained. -/
def StreamRecord.finished (r : StreamRecord) : Bool :=
  match r.source with
  | .clip => r.periodsLeft == 0
  | .live => r.closing && r.queue.isEmpty
  | .group => false

/-- R91 steps 3 and 4. -/
def StreamRecord.promote (r : StreamRecord) : StreamRecord :=
  if r.headReady then { r with current := true } else { r with current := false, starvedCount := bump r.starvedCount }

/-- R100, after the steps of R90 or R91. -/
def StreamRecord.countStarved (r : StreamRecord) : StreamRecord :=
  { r with starvedRun := if r.current then 0 else if r.starvedRun < 65535 then r.starvedRun + 1 else 65535 }

/-- The page timeout of a LIVE record that is not closing (R100). -/
def State.pageWatch (n : Nat) (s : State) : State :=
  let r := s.stream n
  if r.source = .live ∧ r.sounding ∧ !r.closing then
    let r := r.countStarved
    let s := s.setStream n r
    if s.control.pageTimeout ≤ r.starvedRun then s.endStream .pageTimeout n else s
  else s

/-- A STARTING record at a tick (R90, R99, R100). -/
def State.tickStarting (n : Nat) (s : State) : State :=
  let s := s.setStream n (s.stream n).begin
  let r := s.stream n
  if r.source = .live ∧ r.closing ∧ r.queue.isEmpty then s.endStream .complete n else s.pageWatch n

/-- A PLAYING record at a tick (R91, R99, R100): retire, complete, promote or starve; then a freed buffer may be filled. -/
def State.tickPlaying (n : Nat) (s : State) : State :=
  let s := s.setStream n (s.stream n).retire
  if (s.stream n).finished then s.endStream .complete n
  else ((s.setStream n (s.stream n).promote).pageWatch n).fetch n

/-- Every zone of stream `n` is unbound (R84, R93). -/
def State.unbindAll (n : Nat) (s : State) : State :=
  { s with zones := s.zones.map fun e => if e.bound == some n then { e with bound := none } else e }

/-- The first tick in ENDING (R93). -/
def State.tickEnding (n : Nat) (s : State) : State :=
  let r := s.stream n
  ((s.setStream n { r with queue := [], current := false, drained := true }).unbindAll n).freeIfDrained n

/-- One record at a tick, by its state. A record that entered ENDING at this very tick waits for the next one (R93, R194):
`before` is the state as the tick found it. -/
def State.tickRecord (before : State) (n : Nat) (s : State) : State :=
  match (s.stream n).state with
  | .free => s
  | .starting => if (before.stream n).state = .starting then s.tickStarting n else s
  | .playing => s.tickPlaying n
  | .paused => s
  | .ending => if (before.stream n).state = .ending then s.tickEnding n else s

/-- The stream engine's work at a tick. -/
def State.streamTick (before : State) (s : State) : State :=
  (s.forEach (List.range 8) (State.tickRecord before)).releaseBusy

/-! ## Group offers (R101) -/

/-- A READY slot of an offered period. -/
def Slot.offered (buffer : Nat) : Slot :=
  { ready := true, pass := 0, period := 0, parts := 0, ringPeriod := 0, buffer := buffer }

/-- The period of group `g` offered to record `n`. -/
def State.offerPeriod (g : Nat) (samples : Bank 48 Word) (n : Nat) (s : State) : State :=
  let r := s.stream n
  if r.sounding ∧ r.source = .group ∧ r.group = g ∧ !s.control.busyStream then
    if r.queue.length < 4 then
      let b := r.chooseBuffer s.freeDraws
      { s.setStream n { r with queue := r.queue ++ [Slot.offered b], buffers := r.buffers.set b samples } with
        freeDraws := s.freeDraws + 1 }
    else s.setStream n { r with droppedCount := bump r.droppedCount }
  else s

/-! ## Requests of other blocks -/

/-- Every live record ends with this cause (R102, R105). -/
def State.endAll (s : State) (cause : EndCause) : State := s.forEach (List.range 8) (State.endStream cause)

/-- Every show-owned record ends STOPPED (R104). -/
def State.endShowStreams (s : State) : State :=
  s.forEach (List.range 8) fun n s => if (s.stream n).showOwned then s.endStream .stopped n else s

/-- The record a cue started ends STOPPED (R104, R182). -/
def State.endCueStream (s : State) (cue : Nat) : State :=
  s.forEach (List.range 8) fun n s =>
    if (s.stream n).owner = .showCue cue then s.endStream .stopped n else s

/-- The pause request (R104). -/
def StreamRecord.pause (r : StreamRecord) : StreamRecord :=
  if r.showOwned ∧ r.sounding then { r with state := .paused } else r

/-- The resume request (R104). -/
def StreamRecord.resume (r : StreamRecord) : StreamRecord :=
  if r.showOwned ∧ r.state = .paused then
    { r with state := if r.current then .playing else .starting }
  else r

def State.pauseShowStreams (s : State) : State := { s with streams := s.streams.map StreamRecord.pause }

def State.resumeShowStreams (s : State) : State := { s with streams := s.streams.map StreamRecord.resume }

/-- GROUP records in STARTING or PLAYING end RESTART (R105, RST INTERCOM). -/
def State.endGroupStreams (s : State) : State :=
  s.forEach (List.range 8) fun n s =>
    if (s.stream n).source = .group ∧ (s.stream n).sounding then s.endStream .restart n else s

end Sys2Proof.Machine
end

