-- ==== Sys2Proof/Machine/Show.lean ====
section
/-! DEFINITION. The theatre show engine (chapter 9): levels and ramps, the cue list, firing and skipping, hold, resume and
stop. -/

namespace Sys2Proof.Machine

/-! ## Levels (R184, R185) -/

/-- Start a ramp to `target` over `r` ticks from the level as it stands (R184). -/
def ZoneEntry.startRamp (e : ZoneEntry) (target r : Nat) : ZoneEntry :=
  if r = 0 then { e with level := target, levelTarget := target, ramp := none }
  else { e with levelTarget := target,
                ramp := some { step := ((target : Int) - (e.level : Int)).tdiv (r : Int), ticksLeft := r } }

/-- One step of a ramp; the last tick takes the level to the target exactly (R184). -/
def ZoneEntry.stepRamp (e : ZoneEntry) : ZoneEntry :=
  match e.ramp with
  | none => e
  | some m =>
    if m.ticksLeft ≤ 1 then { e with level := e.levelTarget, ramp := none }
    else { e with level := ((e.level : Int) + m.step).toNat, ramp := some { m with ticksLeft := m.ticksLeft - 1 } }

/-- The level of a mapped THEATRE zone at its program gain, with no ramp (R173, R183, R191). -/
def ZoneEntry.houseLevel (e : ZoneEntry) : ZoneEntry :=
  if e.theatre then { e with level := e.programGain, levelTarget := e.programGain, ramp := none } else e

def State.houseLevels (s : State) : State := { s with zones := s.zones.map ZoneEntry.houseLevel }

/-- Every mapped THEATRE zone starts the hold ramp: to 0 over 24 ticks (R186, R187). -/
def ZoneEntry.holdRamp (e : ZoneEntry) : ZoneEntry := if e.theatre then e.startRamp 0 24 else e

/-! ## The show record -/

/-- The show mark number: mark count less mark base, modulo 16,777,216 (R167). -/
def State.markNumber (s : State) : Nat := (s.clock.markCount + 16777216 - s.theatre.markBase) % 16777216

def ShowRecord.cue (r : ShowRecord) (n : Nat) : Cue := r.cues.get n

def ShowRecord.setCueState (r : ShowRecord) (n : Nat) (c : CueState) : ShowRecord :=
  { r with cues := r.cues.set n { r.cue n with state := c } }

/-- Every cue becomes WAITING. -/
def ShowRecord.allWaiting (r : ShowRecord) : ShowRecord :=
  { r with cues := r.cues.map fun c => { c with state := .waiting } }

/-- The cue at `n` becomes the pointer cue: a FOLLOW cue's follow remaining is set (R177). -/
def ShowRecord.pointAt (r : ShowRecord) (n : Nat) : ShowRecord :=
  { r with pointer := n,
           follow := if n < r.length ∧ (r.cue n).trigger = .follow then (r.cue n).value else r.follow }

def State.setShow (s : State) (r : ShowRecord) : State := { s with theatre := r }

/-! ## Triggers (R174 to R177) -/

inductive CueVerdict
  | wait
  | fire
  | skip
  deriving DecidableEq, Repr

/-- The MARK test against the mark number D and the lock state (R176). -/
def markVerdict (lock : LockState) (d n : Nat) : CueVerdict :=
  match lock with
  | .free => .wait
  | .acquiring => .wait
  | .locked => if d < n then .wait else if d ≤ n + 2 then .fire else .skip
  | .holdover => if d < n then .wait else if d ≤ n + 2 then .fire else .skip

/-- What considering a cue comes to: a GO cue waits for an SHG, a FOLLOW cue for its ticks (R175 to R177). -/
def State.cueVerdict (s : State) (c : Cue) : CueVerdict :=
  match c.trigger with
  | .go => .wait
  | .mark => markVerdict s.clock.lock s.markNumber c.value
  | .follow => if s.theatre.follow = 0 then .fire else .wait

/-! ## Cue actions (R179 to R183) -/

/-- The zone set of a FADE or PLAY cue (11.5). -/
def Cue.zones (c : Cue) : ZoneSet := { lo := c.word1, hi := c.word2 }

/-- The zones of a set that are mapped THEATRE zones now. -/
def State.theatreZones (s : State) (zs : ZoneSet) : List Nat := (zonesOf zs).filter fun z => (s.zone z).theatre

/-- A zone set limited to the zones `p` holds of. -/
def limitZones (zs : ZoneSet) (p : Nat → Bool) : ZoneSet :=
  { lo := flagsWord fun i => flag zs.lo i && p i, hi := flagsWord fun i => flag zs.hi i && p (32 + i) }

/-- FADE (R180). -/
def State.fade (s : State) (c : Cue) : State × CueState :=
  let target := field c.word3 0 13
  if 4096 < target then (s, .faulted)
  else (s.forEach (s.theatreZones c.zones) fun z s => s.setZone z ((s.zone z).startRamp target (field c.word3 16 12)),
    .fired)

/-- PLAY (R181). -/
def State.play (s : State) (n : Nat) (c : Cue) : State × CueState :=
  let base := field c.word3 0 16 * 4096
  let periods := field c.word3 16 16
  if periods = 0 ∨ topAddress < clipLast base periods then (s, .faulted)
  else if s.theatreZones c.zones = [] then (s, .faulted)
  else match s.startRequest n base periods c.repeats (limitZones c.zones fun z => (s.zone z).theatre) with
    | none => (s, .faulted)
    | some s' => (s', .fired)

/-- The action of cue `n`; what END does after the pointer has passed it is `State.endShow` (R180 to R183). -/
def State.cueAction (s : State) (n : Nat) (c : Cue) : State × CueState :=
  match c.action with
  | .note => (s, .fired)
  | .fade => s.fade c
  | .play => s.play n c
  | .halt => (s.endCueStream (field c.word3 0 8), .fired)
  | .endShow => (s, .fired)

/-- The cue takes its new state and the pointer advances by one; a notifying cue sets the last fired cue word and posts
CUE (R176, R179). -/
def State.passCue (s : State) (n : Nat) (notify : Bool) (st : CueState) : State :=
  let s := s.setShow ((s.theatre.setCueState n st).pointAt (n + 1))
  if notify then
    (s.setShow { s.theatre with lastFired := some { cue := n, state := st, mark := s.markNumber % 65536 } }).post .cue
  else s

/-- What END does besides (R183). -/
def State.endShow (s : State) : State :=
  let s := s.endShowStreams.houseLevels
  (s.setShow { s.theatre with follow := 0, state := .stopped }).post .showNotice

/-- The pointer cue fires (R179). -/
def State.fireCue (s : State) : State :=
  let n := s.theatre.pointer
  let c := s.theatre.cue n
  let (s, st) := s.cueAction n c
  let s := s.passCue n c.notify st
  if c.action = .endShow then s.endShow else s

/-- The pointer cue is skipped (R176). -/
def State.skipCue (s : State) : State :=
  s.passCue s.theatre.pointer (s.theatre.cue s.theatre.pointer).notify .skipped

/-- Consider the pointer cue, and the ones after it while they fire or are skipped (R174). `fuel` bounds the chain: the
pointer rises at each link and the list has at most 256 cues. -/
def considerChain (fuel : Nat) (s : State) : State :=
  match fuel with
  | 0 => s
  | fuel + 1 =>
    if s.theatre.state = .running ∧ s.theatre.pointer < s.theatre.length then
      match s.cueVerdict (s.theatre.cue s.theatre.pointer) with
      | .wait => s
      | .fire => considerChain fuel s.fireCue
      | .skip => considerChain fuel s.skipCue
    else s

/-- The pointer cue is considered (R174). -/
def State.consider (s : State) : State := considerChain 257 s

/-! ## Hold and stop -/

/-- The snapshot of a hold: the level targets of the mapped THEATRE zones and the follow remaining (R188). -/
def State.holdSnapshot (s : State) : HoldSnapshot :=
  { levels := s.zones.map fun e => if e.theatre then some e.levelTarget else none, follow := s.theatre.follow }

/-- A RUNNING show is held (R186, R187). -/
def State.hold (s : State) (cause : HoldCause) : State :=
  let snap := s.holdSnapshot
  let s := { s with zones := s.zones.map ZoneEntry.holdRamp }
  (s.setShow { s.theatre with state := .held, holdCause := some cause, snapshot := some snap }).post .showNotice

/-- The show engine at the alarm's entry into SOUNDING (R187). -/
def State.alarmHold (s : State) : State :=
  match s.theatre.state, s.theatre.holdCause with
  | .running, _ => s.hold .alarm
  | .held, some .command => (s.setShow { s.theatre with holdCause := some .alarm }).post .showNotice
  | .held, _ => s
  | .stopped, _ => s
  | .idle, _ => s

/-- The clearing of SHS and of RST SHOW and RST ALL (R173, R191): a show in IDLE stays IDLE. -/
def State.clearShow (s : State) : State :=
  let was := s.theatre.state
  let s := s.endShowStreams.houseLevels
  let s := s.setShow { s.theatre.allWaiting with
    pointer := 0, follow := 0, snapshot := none, holdCause := none, state := if was = .idle then .idle else .stopped }
  if was = .running ∨ was = .held then s.post .showNotice else s

/-! ## SHG, SHH, SHR and SHS -/

/-- SHG (R172). -/
def State.takeShg (s : State) : Except Reason (Nat × State) :=
  match s.theatre.state with
  | .idle => .error .state
  | .held => .error .state
  | .stopped =>
    if s.alarm.state ≠ .quiet then .error .alarm
    else
      let r := { s.theatre.allWaiting with follow := 0, markBase := s.clock.markCount, state := .running }
      let s := ((s.setShow (r.pointAt 0)).post .showNotice).consider
      .ok (s.theatre.pointer, s)
  | .running =>
    if s.theatre.pointer < s.theatre.length ∧ (s.theatre.cue s.theatre.pointer).trigger = .go then
      let s := s.fireCue.consider
      .ok (s.theatre.pointer, s)
    else .error .state

/-- SHH (R186). -/
def State.takeShh (s : State) : Except Reason (Nat × State) :=
  if s.theatre.state = .running then .ok (s.theatre.pointer, (s.hold .command).pauseShowStreams) else .error .state

/-- The resume ramp of a zone with a snapshot entry: to it over 48 ticks (R189). -/
def State.resumeZone (snap : HoldSnapshot) (z : Nat) (s : State) : State :=
  match snap.levels.get z with
  | some target => if (s.zone z).theatre then s.setZone z ((s.zone z).startRamp target 48) else s
  | none => s

/-- A held show runs again: levels, follow remaining, streams, state (R189 steps 1 to 4). -/
def State.resumeShow (s : State) : State :=
  let s := match s.theatre.snapshot with
    | some snap =>
      let s := s.forEach (List.range 64) (State.resumeZone snap)
      s.setShow { s.theatre with follow := snap.follow, snapshot := none }
    | none => s
  let s := s.resumeShowStreams
  (s.setShow { s.theatre with state := .running, holdCause := none }).post .showNotice

/-- SHR (R189). -/
def State.takeShr (s : State) : Except Reason (Nat × State) :=
  if s.theatre.state ≠ .held then .error .state
  else if s.alarm.state ≠ .quiet then .error .alarm
  else
    let s := s.resumeShow.consider
    .ok (s.theatre.pointer, s)

/-- SHS (R173). -/
def State.takeShs (s : State) : Except Reason (Nat × State) :=
  if s.theatre.state = .idle then .error .state else .ok (0, s.clearShow)

/-! ## The tick (R178) and the mark event (R79) -/

/-- The follow stage (R177). -/
def ShowRecord.countFollow (r : ShowRecord) : ShowRecord :=
  if r.state = .running ∧ r.pointer < r.length ∧ (r.cue r.pointer).trigger = .follow ∧ 0 < r.follow then
    { r with follow := r.follow - 1 }
  else r

/-- The show engine's stages at a tick: ramps, follow, evaluation (R178). -/
def State.showTick (s : State) : State :=
  let s := { s with zones := s.zones.map ZoneEntry.stepRamp }
  (s.setShow s.theatre.countFollow).consider

end Sys2Proof.Machine
end

