-- ==== Sys2Proof/Machine/Tone.lean ====
section
/-! DEFINITION. The alarm tone sample (R146). -/

namespace Sys2Proof.Machine

/-- A rational just above π: 314159265358979323847 / 10^20. -/
def piNumerator : Nat := 314159265358979323847

/-- π times a phase of a quarter cycle, over 24,000: the angle is `angleNumerator q / angleDenominator`. -/
def angleNumerator (q : Nat) : Nat := piNumerator * q

def angleDenominator : Nat := 24000 * 10 ^ 20

/-- The sine series of `n / d` up to the 17th power over the common denominator `d^17 · 17!`, its nine terms split by
sign. It ends on a positive term and π is taken from above, so it errs upward, by less than 10^−12 (DEDUCED, log 19). -/
def sinePositive (n d : Nat) : Nat :=
  n * d ^ 16 * 355687428096000 + n ^ 5 * d ^ 12 * 2964061900800 + n ^ 9 * d ^ 8 * 980179200
    + n ^ 13 * d ^ 4 * 57120 + n ^ 17

def sineNegative (n d : Nat) : Nat :=
  n ^ 3 * d ^ 14 * 59281238016000 + n ^ 7 * d ^ 10 * 70572902400 + n ^ 11 * d ^ 6 * 8910720 + n ^ 15 * d ^ 2 * 272

def sineDenominator (d : Nat) : Nat := d ^ 17 * 355687428096000

/-- 8,388,607 × sin(π q ÷ 24,000), rounded to the nearest integer, halves up, for a quarter-cycle phase q of 0 to 12,000. -/
def quarterTone (q : Nat) : Nat :=
  let num := sinePositive (angleNumerator q) angleDenominator - sineNegative (angleNumerator q) angleDenominator
  let den := sineDenominator angleDenominator
  (2 * 8388607 * num + den) / (2 * den)

/-- 8,388,607 × sin(2π × phase ÷ 48,000), rounded to the nearest integer, halves away from zero (R146). -/
def toneOfPhase (phase : Nat) : Int :=
  if phase ≤ 12000 then (quarterTone phase : Int)
  else if phase ≤ 24000 then (quarterTone (24000 - phase) : Int)
  else if phase ≤ 36000 then -(quarterTone (phase - 24000) : Int)
  else -(quarterTone (48000 - phase) : Int)

/-- The tone sample at period position `i` of the current segment: 0 for a rest, else the sine at phase
(p0 + f × i) modulo 48,000 (R146). -/
def AlarmUnit.tone (a : AlarmUnit) (i : Nat) : Int :=
  let f := (a.segments.get a.segment).frequency
  if f = 0 then 0 else toneOfPhase ((a.phase + f * i) % 48000)

end Sys2Proof.Machine
end

