-- ==== Sys2Proof/Machine/Alarm.lean ====
section
/-! DEFINITION. The muster alarm (chapter 7): the alarm states, the panel decoder, the pattern, the playout watch, the
fallback lines. -/

namespace Sys2Proof.Machine

/-! ## Fallback lines (R151, R152) -/

/-- The zone is known not to hear the head-end's alarm: mapped, and silent or FAILING. -/
def ZoneEntry.unheard (e : ZoneEntry) : Bool := e.mapped && (e.silent || e.verdict == .failing)

/-- Some unheard zone has fallback group `g`. -/
def State.groupUnheard (s : State) (g : Nat) : Bool :=
  s.zones.cells.any fun e => e.unheard && e.fallbackGroup == some g

/-- The fallback evaluation: in SOUNDING or MUSTER the line of every group with an unheard zone is asserted, and no line is
ever released here (R151). -/
def State.evaluateFallback (s : State) : State :=
  if s.alarm.state = .quiet then s
  else { s with alarm := { s.alarm with
      fallback := Bank.ofFn 8 fun g => s.alarm.fallback.get g || s.groupUnheard g } }

/-! ## The alarm states (R130 to R134) -/

def AlarmUnit.restartPattern (a : AlarmUnit) : AlarmUnit := { a with segment := 0, elapsed := 0, phase := 0 }

/-- Entry into SOUNDING, with what every block does at that event (R131, R102, R187; muting and composition read the
state as it stands). -/
def State.enterSounding (s : State) (source : AlarmSource) : State :=
  let s := { s with alarm := { s.alarm.restartPattern with
      state := .sounding, source := some source, entryTick := s.clock.tickCount } }
  (s.post .alarm).evaluateFallback.endAll .alarm |>.alarmHold

/-- Entry into MUSTER: the pattern stops, nothing else changes and nothing is posted (R133). -/
def State.enterMuster (s : State) : State := { s with alarm := { s.alarm with state := .muster } }

/-- Return to QUIET: every fallback line is released (R134). -/
def State.enterQuiet (s : State) : State :=
  State.post { s with alarm := { s.alarm with state := .quiet, fallback := Bank.fill 8 false } } .alarm

/-- ALS (R132). -/
def State.takeAls (s : State) : Except Reason (Nat × State) :=
  if s.alarm.state = .sounding then .error .state
  else .ok (s.clock.tickCount % 65536, s.enterSounding .command)

/-- ASI (R133). -/
def State.takeAsi (s : State) : Except Reason (Nat × State) :=
  if s.alarm.state = .sounding then .ok (0, s.enterMuster) else .error .state

/-- AEN (R134). -/
def State.takeAen (s : State) : Except Reason (Nat × State) :=
  if s.alarm.state = .quiet then .error .state else .ok (0, s.enterQuiet)

/-! ## The panel decoder (R136 to R142) -/

/-- A sound request (R141): the panel-abort flag is cleared, and QUIET or MUSTER enters SOUNDING. -/
def State.soundRequest (s : State) : State :=
  let s := { s with alarm := { s.alarm with panelAbort := false } }
  if s.alarm.state = .sounding then s else s.enterSounding .panel

/-- A silence request (R141). -/
def State.silenceRequest (s : State) : State := if s.alarm.state = .sounding then s.enterMuster else s

/-- The decoder leaves ATTENDED or LATCHED for another state: the window is 0 there (R139). -/
def State.setDecoder (s : State) (d : DecoderState) (window : Nat) : State :=
  { s with alarm := { s.alarm with decoder := d, window := window } }

def State.abortPanel (s : State) : State := { s with alarm := { s.alarm with panelAbort := true } }

/-- The attention window's length (R138). -/
def attentionWindow : Nat := 3000

/-- A seen line state, by the decoder's state (R138 to R140). -/
def State.seeLine (s : State) : State :=
  match s.alarm.decoder, s.lineState with
  | .idle, .attention => s.setDecoder .attended attentionWindow
  | .idle, .silence => s.silenceRequest
  | .idle, .sound => s
  | .idle, .rest => s
  | .attended, .sound => (s.setDecoder .latched 0).soundRequest
  | .attended, .rest => (s.setDecoder .idle 0).abortPanel
  | .attended, .silence => s.silenceRequest
  | .attended, .attention => s
  | .latched, .rest => s.setDecoder .idle 0
  | .latched, .silence => s.silenceRequest
  | .latched, .sound => s
  | .latched, .attention => s

/-- The hold count at a tick; the 20th makes the seen event (R137). -/
def State.countHold (s : State) : State :=
  if s.alarm.holdCount < 20 then
    let s := { s with alarm := { s.alarm with holdCount := s.alarm.holdCount + 1 } }
    if s.alarm.holdCount = 20 then s.seeLine else s
  else s

/-- The window at a tick at which the decoder was ATTENDED before its seen event and still is: it falls by one, and at 0
expires (R139). -/
def State.countWindow (s : State) : State :=
  if s.alarm.window ≤ 1 then (s.setDecoder .idle 0).abortPanel
  else { s with alarm := { s.alarm with window := s.alarm.window - 1 } }

/-- The decoder step (R137, R139). -/
def State.decoderStep (s : State) : State :=
  let t := s.countHold
  if s.alarm.decoder = .attended ∧ t.alarm.decoder = .attended then t.countWindow else t

/-- An edge of the panel lines: where it gives a different line state the hold count returns to 0 (R136, R137). While the
reset line is asserted only the levels move, and the hold count is 0 already (R153). -/
def State.changePanel (s : State) (a b : Bool) : State :=
  if lineStateOf a b = s.lineState then s
  else { s with lines := { s.lines with panelA := a, panelB := b }, alarm := { s.alarm with holdCount := 0 } }

/-! ## The pattern (R143, R145) -/

/-- The pattern step of a tick taken in SOUNDING (R145). -/
def AlarmUnit.stepPattern (a : AlarmUnit) : AlarmUnit :=
  let seg := a.segments.get a.segment
  if a.elapsed + 1 = seg.duration then
    { a with segment := if a.segment + 1 = a.patternLength then 0 else a.segment + 1, elapsed := 0, phase := 0 }
  else { a with elapsed := a.elapsed + 1, phase := (a.phase + 48 * seg.frequency) % 48000 }

def State.patternStep (s : State) : State :=
  if s.alarm.state = .sounding then { s with alarm := s.alarm.stepPattern } else s

/-! ## The playout watch (R147 to R150) -/

/-- A mapped zone whose counter is 1 becomes silent at this tick (R149). -/
def ZoneEntry.fallsSilent (e : ZoneEntry) : Bool := e.mapped && e.watch == 1

/-- A mapped zone's watch at a tick (R149). -/
def ZoneEntry.stepWatch (e : ZoneEntry) : ZoneEntry :=
  if e.fallsSilent then { e with watch := 0, silent := true, silentEvents := bump e.silentEvents }
  else if e.mapped then { e with watch := e.watch - 1 }
  else e

/-- The notices of zone `e` falling silent: SILENT, and COUNTER where its count passes 127 (R149, R150). -/
def State.postSilent (e : ZoneEntry) (s : State) : State :=
  if e.fallsSilent then (s.post .silent).countedFrom e.silentEvents else s

/-- The watch step: every mapped zone's counter falls, the zones that reach 0 become silent, and the fallback evaluation
runs if any did (R149). -/
def State.watchStep (s : State) : State :=
  let t := s.zones.cells.foldl (fun t e => State.postSilent e t) { s with zones := s.zones.map ZoneEntry.stepWatch }
  if s.zones.cells.any ZoneEntry.fallsSilent then t.evaluateFallback else t

/-- An OK response that holds a playout word of zone `z` (R148). -/
def State.reloadWatch (z : Nat) (s : State) : State :=
  s.setZone z { s.zone z with watch := (s.zone z).watchLimit, silent := false }

/-! ## The tick (R137) -/

/-- The alarm unit's stages at a tick: pattern, watch, decoder. -/
def State.alarmTick (s : State) : State := s.patternStep.watchStep.decoderStep

end Sys2Proof.Machine
end

