-- ==== Sys2Proof/Machine/Intercom.lean ====
section
/-! DEFINITION. The crew intercom (chapter 6): microphone words, the tick swap, offers, talk and listen, RST. -/

namespace Sys2Proof.Machine

/-- Add the difference between a sample and the station's own-filling at a position to the group's filling sum (R116). -/
def GroupRecord.addAt (g : GroupRecord) (i : Nat) (v : Int) : GroupRecord :=
  { g with filling := g.filling.set i (g.filling.get i + v) }

/-- A microphone word of station `n` taken at position `i` for group `g` (R116). -/
def State.takeMic (s : State) (n g i : Nat) (w : Word) : State :=
  let r := s.station n
  let v := sampleOf w
  let s := s.setGroup g ((s.group g).addAt i (v - r.ownFilling.get i))
  s.setStation n { r with ownFilling := r.ownFilling.set i v, written := r.written.set i true }

/-- A torn microphone word (R117, R127). -/
def State.tearMic (s : State) (n : Nat) : State :=
  let r := s.station n
  (s.setStation n { r with torn := bump r.torn }).countedFrom r.torn

/-- A microphone word of station `n`, at this offset from its microphone ring base (R116, R117). -/
def State.offerMic (s : State) (n offset : Nat) (w : WriteWord) : State :=
  match (s.station n).talk with
  | none => s
  | some g =>
    if s.control.busyIntercom then s
    else if w.lanes = 15#4 then s.takeMic n g (offset % 48) w.data
    else s.tearMic n

/-! ## The tick (R118 to R120) -/

/-- A defined group's swap (R118). -/
def GroupRecord.swap (g : GroupRecord) : GroupRecord :=
  if g.defined then { g with ready := g.filling, filling := Bank.fill 48 0 } else g

/-- How many positions a set holds. -/
def setSize (b : Bank 48 Bool) : Nat := b.count id

/-- An active station's swap (R119). -/
def StationRecord.swap (r : StationRecord) : StationRecord :=
  if r.active then
    { r with ownReady := r.ownFilling, readyGroup := r.talk, heard := setSize r.written,
             ownFilling := Bank.fill 48 0, written := Bank.fill 48 false }
  else r

def State.swapIntercom (s : State) : State :=
  { s with groups := s.groups.map GroupRecord.swap, stations := s.stations.map StationRecord.swap }

/-- The completed period of group `g`: zeros while it is muted, else the ready sum at the group gain, clamped (R120). -/
def State.completedPeriod (s : State) (g : Nat) : Bank 48 Word :=
  if s.muted g then Bank.fill 48 0#32
  else (s.group g).ready.map fun v => sampleWord (gained v (s.group g).gain)

/-- Group `g`'s period is offered to the stream records on it (R101, R120); an undefined group is not offered. -/
def State.offerGroup (g : Nat) (s : State) : State :=
  if (s.group g).defined then s.forEach (List.range 8) (State.offerPeriod g (s.completedPeriod g)) else s

/-- The intercom engine's work at a tick; it leaves the busy set at the first one after an RST (R128). -/
def State.intercomTick (s : State) : State :=
  let s := s.swapIntercom.forEach (List.range 16) State.offerGroup
  { s with control := { s.control with busyIntercom := false } }

/-! ## Talk and listen (R125, R126) -/

/-- The station's share of the period in progress leaves its old group (R125). -/
def GroupRecord.subtract (g : GroupRecord) (own : Bank 48 Int) : GroupRecord :=
  { g with filling := Bank.ofFn 48 fun i => g.filling.get i - own.get i }

/-- Check 6 of an ICT: none if it is accepted; `group` is the field, 31 for none (R125). -/
def State.ictRefused (s : State) (station group : Nat) : Option Reason :=
  if 31 < station ∨ (15 < group ∧ group ≠ 31) then some .argument
  else if !(s.station station).active then some .state
  else if group = 31 then none
  else if !(s.group group).defined ∨ !(s.station station).listen.get group then some .argument
  else if (s.station station).talk ≠ some group ∧ 6 ≤ s.talkerCount group then some .contention
  else none

/-- The talk group moves (R125). The heard count stays the size of the written set at the last tick (R109, R119). What STATION word 5
shows of it without a talk group is in `StationRecord.shownHeard` (R111, log 31). -/
def State.moveTalk (s : State) (station : Nat) (new : Option Nat) : State :=
  let r := s.station station
  if r.talk = new then s
  else
    match r.talk with
    | none => s.setStation station { r with talk := new }
    | some old =>
      (s.setGroup old ((s.group old).subtract r.ownFilling)).setStation station
        { r with talk := new, ownFilling := Bank.fill 48 0, written := Bank.fill 48 false }

/-- The talk group a group field names. -/
def talkOf (group : Nat) : Option Nat := if group = 31 then none else some group

/-- ICT (R125): the result value is the talker count of the new group, or 0. -/
def State.takeIct (s : State) (station group : Nat) : Except Reason (Nat × State) :=
  match s.ictRefused station group with
  | some reason => .error reason
  | none =>
    let s := s.moveTalk station (talkOf group)
    .ok (if group = 31 then 0 else s.talkerCount group, s)

/-- The groups of a group set, bits 0–15 (R126). -/
def groupsOf (w : Word) : List Nat := (List.range 16).filter (flag w)

/-- Check 6 of an ICL (R126). -/
def State.iclRefused (s : State) (station : Nat) (groups : Word) : Option Reason :=
  if 31 < station ∨ field groups 16 16 ≠ 0 then some .argument
  else if !(s.station station).active then some .state
  else if 4 < (groupsOf groups).length ∨ !(groupsOf groups).all fun g => (s.group g).defined then some .argument
  else match (s.station station).talk with
    | none => none
    | some g => if flag groups g then none else some .argument

/-- ICL (R126): the result value is the number of groups in the new listen set. -/
def State.takeIcl (s : State) (station : Nat) (groups : Word) : Except Reason (Nat × State) :=
  match s.iclRefused station groups with
  | some reason => .error reason
  | none => .ok ((groupsOf groups).length,
      s.setStation station { s.station station with listen := Bank.ofFn 16 (flag groups) })

/-! ## RST (R128) -/

def StationRecord.restart (r : StationRecord) : StationRecord :=
  { r with ownFilling := Bank.fill 48 0, written := Bank.fill 48 false, ownReady := Bank.fill 48 0, readyGroup := none,
           heard := 0, talk := none }

def GroupRecord.clearSums (g : GroupRecord) : GroupRecord :=
  { g with filling := Bank.fill 48 0, ready := Bank.fill 48 0 }

/-- The intercom engine clears itself (R128). -/
def State.clearIntercom (s : State) : State :=
  { s with stations := s.stations.map StationRecord.restart, groups := s.groups.map GroupRecord.clearSums }

end Sys2Proof.Machine
end

