-- ==== Sys2Proof/Machine/Clock.lean ====
section
/-! DEFINITION. The clock unit (chapter 4): timebase steps and the tick, the clock monitor, the show mark line. -/

namespace Sys2Proof.Machine

/-! ## The show clock (R75 to R79) -/

/-- An advance of the mark count, handed to the show engine with the lock state as it stands now (R79). -/
def State.markEvent (s : State) : State :=
  State.consider { s with clock := { s.clock with markCount := (s.clock.markCount + 1) % 16777216 } }

/-- A change of the lock state, with its SHOW notice (R79). -/
def State.setLock (s : State) (lock : LockState) : State :=
  State.post { s with clock := { s.clock with lock := lock } } .showNotice

/-- A mark becomes the reference (R75). -/
def State.takeReference (s : State) : State := { s with clock := { s.clock with stepCount := 0 } }

/-- The step count rises and stays at 65,535 (R75). -/
def ClockUnit.countStep (c : ClockUnit) : ClockUnit :=
  { c with stepCount := if c.stepCount < 65535 then c.stepCount + 1 else 65535 }

/-- 16 steps past the time at which a mark was due: the expiry of LOCKED and the window closing of HOLDOVER
(R77, R78). -/
def ClockUnit.windowClosed (c : ClockUnit) : Bool := c.lockedInterval + 16 ≤ c.stepCount

/-- The expiry in LOCKED: the first synthesized mark (R77). -/
def State.expireLock (s : State) : State :=
  let s := s.setLock .holdover
  State.markEvent { s with clock := { s.clock with synthesized := 1, stepCount := 16 } }

/-- A synthesized mark at the closing of its window; the 24th leaves FREE (R78). R78 sets the step count only where the 24 is not
reached, and the manual does not say what it is after the 24th: here it runs on from where the closing found it (DESIGN CHOICE,
log 29). -/
def State.closeWindow (s : State) : State :=
  if s.clock.synthesized + 1 = 24 then
    let s := s.setLock .free
    State.markEvent { s with clock := { s.clock with synthesized := 0 } }
  else State.markEvent { s with clock := { s.clock with synthesized := s.clock.synthesized + 1, stepCount := 16 } }

/-- One step of the show mark measurement (R75, R77, R78). The expiry and the closing are part of the step that brings the count to
16 past the due time, so no real mark ever has that interval and the window's last position is never met: a mark before that
step has one less, and one after it finds the schedule moved on (DESIGN CHOICE, log 30). -/
def State.measureStep (s : State) : State :=
  let s := { s with clock := s.clock.countStep }
  match s.clock.lock with
  | .free => s
  | .acquiring => s
  | .locked => if s.clock.windowClosed then s.expireLock else s
  | .holdover => if s.clock.windowClosed then s.closeWindow else s

/-- The acquisition run after a mark of this interval, and the previous interval kept with it (R76). -/
def ClockUnit.acquire (c : ClockUnit) (interval : Nat) : ClockUnit :=
  if interval < 800 ∨ 2000 < interval then { c with acquisitionRun := 0 }
  else if c.acquisitionRun ≠ 0 ∧ interval ≤ c.previousInterval + 4 ∧ c.previousInterval ≤ interval + 4 then
    { c with acquisitionRun := c.acquisitionRun + 1, previousInterval := interval }
  else { c with acquisitionRun := 1, previousInterval := interval }

/-- A real mark in ACQUIRING: the sixth of a run locks (R76). -/
def State.acquireMark (s : State) : State :=
  let interval := s.clock.stepCount
  let s := { s with clock := s.clock.acquire interval }
  if s.clock.acquisitionRun = 6 then
    State.setLock { s with clock := { s.clock with lockedInterval := interval, acquisitionRun := 0 } } .locked
  else s

/-- A real mark in LOCKED comes before its window (R77). -/
def ClockUnit.earlyMark (c : ClockUnit) : Bool := c.stepCount + 16 < c.lockedInterval

/-- A real mark on the show mark line (R76 to R78). -/
def State.realMark (s : State) : State :=
  match s.clock.lock with
  | .free =>
    let s := s.setLock .acquiring
    (State.takeReference { s with clock := { s.clock with acquisitionRun := 0 } }).markEvent
  | .acquiring => s.acquireMark.takeReference.markEvent
  | .locked =>
    if s.clock.earlyMark then
      let s := s.setLock .holdover
      (State.takeReference { s with clock := { s.clock with synthesized := 0 } }).markEvent
    else s.takeReference.markEvent
  | .holdover =>
    if s.clock.earlyMark then s
    else
      let s := s.setLock .locked
      (State.takeReference { s with clock := { s.clock with synthesized := 0 } }).markEvent

/-! ## The tick (R71) -/

/-- The blocks of an order (R194). -/
def tickBlocks : TickOrder → List TickBlock
  | .streamIntercomAlarmShow => [.stream, .intercom, .alarm, .showEngine]
  | .streamIntercomShowAlarm => [.stream, .intercom, .showEngine, .alarm]
  | .streamAlarmIntercomShow => [.stream, .alarm, .intercom, .showEngine]
  | .streamShowIntercomAlarm => [.stream, .showEngine, .intercom, .alarm]
  | .streamAlarmShowIntercom => [.stream, .alarm, .showEngine, .intercom]
  | .streamShowAlarmIntercom => [.stream, .showEngine, .alarm, .intercom]
  | .alarmStreamIntercomShow => [.alarm, .stream, .intercom, .showEngine]
  | .showStreamIntercomAlarm => [.showEngine, .stream, .intercom, .alarm]
  | .alarmStreamShowIntercom => [.alarm, .stream, .showEngine, .intercom]
  | .showStreamAlarmIntercom => [.showEngine, .stream, .alarm, .intercom]
  | .alarmShowStreamIntercom => [.alarm, .showEngine, .stream, .intercom]
  | .showAlarmStreamIntercom => [.showEngine, .alarm, .stream, .intercom]

/-- One block's work at the tick that found the state `before`. -/
def State.blockTick (before : State) (s : State) (b : TickBlock) : State :=
  match b with
  | .stream => State.streamTick before s
  | .intercom => s.intercomTick
  | .alarm => s.alarmTick
  | .showEngine => s.showTick

/-- The tick: the tick count rises, and every block takes its work in this order (R71, R194). -/
def State.makeTick (s : State) (order : TickOrder) : State :=
  let s := { s with clock := { s.clock with tickCount := (s.clock.tickCount + 1) % 4294967296 } }
  (tickBlocks order).foldl (State.blockTick s) s

/-- The tick phase rises by `n`, and returns to the excess at 48 (R69, R70, R72). -/
def ClockUnit.advancePhase (c : ClockUnit) (n : Nat) : ClockUnit := { c with tickPhase := (c.tickPhase + n) % 48 }

/-- `n` more steps bring the tick phase to 48 or beyond. -/
def ClockUnit.tickDue (c : ClockUnit) (n : Nat) : Bool := 48 ≤ c.tickPhase + n

/-- `n` timebase steps credited at one event: the tick phase with the tick it makes, and the step count (R69, R70, R72,
R75). The order of a tick and a mark made at one event is an operand (log 7). -/
def State.creditSteps (s : State) (n : Nat) (order : Interleave) : State :=
  let due := s.clock.tickDue n
  let measure (s : State) : State := s.forEach (List.range n) fun _ s => s.measureStep
  let s := { s with clock := s.clock.advancePhase n }
  if !due then measure s
  else if order.markFirst then (measure s).makeTick order.blocks
  else measure (s.makeTick order.blocks)

/-! ## The clock monitor (R72, R73) -/

/-- A gap, in millionths of the nominal sample interval, is on nominal when it differs from it by at most 1% (R72). -/
def onNominal (gap : Nat) : Bool := 990000 ≤ gap && gap ≤ 1010000

/-- A loss of the line (R72). -/
def State.loseLine (s : State) : State :=
  State.post { s with clock := { s.clock with source := .reference, offRun := 0, goodRun := 0 } } .clock

/-- The monitor at an edge while the source is LINE (R72). -/
def State.monitorLine (s : State) (gap : Nat) : State :=
  if onNominal gap then { s with clock := { s.clock with offRun := 0 } }
  else if s.clock.offRun + 1 = 48 then s.loseLine
  else { s with clock := { s.clock with offRun := s.clock.offRun + 1 } }

/-- The 480th good edge (R73). -/
def State.takeLine (s : State) : State :=
  State.post { s with clock := { s.clock with source := .line, offRun := 0, goodRun := 0 } } .clock

/-- The monitor at an edge while the source is INTERNAL (R73); the first edge after full reset has no gap. -/
def State.monitorReference (s : State) (gap : Nat) : State :=
  if s.clock.edgeSeen ∧ onNominal gap then
    if s.clock.goodRun + 1 = 480 then s.takeLine
    else { s with clock := { s.clock with goodRun := s.clock.goodRun + 1 } }
  else { s with clock := { s.clock with goodRun := 0, edgeSeen := true } }

/-! ## Events in time -/

/-- A rising edge of the sample clock line (R69, R72, R73). -/
def State.clockEdge (s : State) (gap : Nat) (order : Interleave) : State :=
  if s.lines.resetAsserted then s
  else match s.clock.source with
    | .line => (s.creditSteps 1 order).monitorLine gap
    | .reference => s.monitorReference gap

/-- A step of the internal reference; it makes none under LINE (R69, R70, R80). -/
def State.referenceStep (s : State) (order : Interleave) : State :=
  if s.lines.resetAsserted ∨ s.clock.source = .line then s else s.creditSteps 1 order

/-- Three nominal intervals without an edge, under LINE: three steps credited, then the loss (R72). -/
def State.expireGap (s : State) (order : Interleave) : State :=
  if s.lines.resetAsserted ∨ s.clock.source = .reference then s else (s.creditSteps 3 order).loseLine

/-- A pulse of the show mark line (R76, R80). -/
def State.showPulse (s : State) : State := if s.lines.resetAsserted then s else s.realMark

/-- The next thing to bring the clock unit forward (R69, R70, R72). -/
def State.passTime (s : State) (e : TimeEvent) : State :=
  match e with
  | .nextStep gap order =>
    match s.clock.source with
    | .line => s.clockEdge gap order
    | .reference => s.referenceStep order
  | .gapExpiry order => s.expireGap order

end Sys2Proof.Machine
end

