-- ==== Sys2Proof/Machine/Pilot.lean ====
section
/-! DEFINITION. The eight pilot patterns (R197). -/

namespace Sys2Proof.Machine

/-- The signs of pattern `k`, in the six groups of eight of R197; `true` is +1. -/
def pilotGroups (k : Nat) : List (List Bool) :=
  match k with
  | 0 =>
    [[true, false, true, false, true, false, true, false],
     [true, false, true, false, true, false, true, false],
     [true, false, true, false, true, false, true, false],
     [true, false, true, false, true, false, true, false],
     [true, false, true, false, true, false, true, false],
     [true, false, true, false, true, false, true, false]]
  | 1 =>
    [[true, true, false, false, true, true, false, false],
     [true, true, false, false, true, true, false, false],
     [true, true, false, false, true, true, false, false],
     [true, true, false, false, true, true, false, false],
     [true, true, false, false, true, true, false, false],
     [true, true, false, false, true, true, false, false]]
  | 2 =>
    [[true, true, true, true, false, false, false, false],
     [true, true, true, true, false, false, false, false],
     [true, true, true, true, false, false, false, false],
     [true, true, true, true, false, false, false, false],
     [true, true, true, true, false, false, false, false],
     [true, true, true, true, false, false, false, false]]
  | 3 =>
    [[true, true, true, true, true, true, true, true],
     [false, false, false, false, false, false, false, false],
     [true, true, true, true, true, true, true, true],
     [false, false, false, false, false, false, false, false],
     [true, true, true, true, true, true, true, true],
     [false, false, false, false, false, false, false, false]]
  | 4 =>
    [[true, false, false, true, true, false, true, false],
     [false, true, true, false, true, false, false, true],
     [true, true, false, true, false, false, true, false],
     [false, false, true, false, true, true, false, true],
     [true, false, true, true, false, false, true, false],
     [false, false, true, false, true, false, true, true]]
  | 5 =>
    [[true, true, true, false, true, false, false, false],
     [false, true, false, false, true, true, true, false],
     [true, false, false, true, false, true, true, false],
     [false, false, true, true, false, true, false, true],
     [true, false, true, false, false, true, false, true],
     [false, true, true, false, true, false, true, false]]
  | 6 =>
    [[true, true, false, true, false, true, false, false],
     [true, false, false, true, false, false, true, true],
     [false, true, false, true, true, false, true, false],
     [false, false, true, true, true, false, false, true],
     [true, false, true, false, true, true, false, false],
     [false, true, true, false, false, true, false, true]]
  | _ =>
    [[true, false, false, false, true, true, true, false],
     [true, true, false, true, false, false, false, true],
     [false, true, true, true, false, false, true, false],
     [true, false, false, true, true, false, false, true],
     [false, false, true, false, false, true, true, true],
     [false, true, false, true, false, true, false, true]]

/-- Element `i` of pattern `k`: whether it is +1. -/
def pilotPositive (k i : Nat) : Bool := (pilotGroups k).flatten.getD i false

/-- Element `i` of pattern `k` as a number, +1 or −1 (R197). -/
def pilotSign (k i : Nat) : Int := if pilotPositive k i then 1 else -1

end Sys2Proof.Machine
end

