-- ==== Sys2Proof/Machine/Compose.lean ====
section
/-! DEFINITION. The words composed on the read path: playout words (chapter 3) and earpiece words (chapter 6). -/

namespace Sys2Proof.Machine

/-! ## Playout words (R57 to R62) -/

/-- The samples of the current slot of a PLAYING record (R58, R83). -/
def StreamRecord.currentSamples (r : StreamRecord) : Option (Bank 48 Word) :=
  if r.state = .playing ∧ r.current then r.queue.head?.map fun x => r.buffers.get x.buffer else none

/-- The samples that contribute to zone `z`'s playout words (R58). -/
def State.contributing (s : State) (z : Nat) : Option (Bank 48 Word) :=
  match (s.zone z).bound with
  | none => none
  | some n => if s.control.busyStream then none else (s.stream n).currentSamples

/-- G: the level of a THEATRE zone, the program gain of any other (R59). -/
def ZoneEntry.effectiveGain (e : ZoneEntry) : Nat := if e.kind = .theatreZone then e.level else e.programGain

/-- Q: the pilot level times the pattern's element, where the zone has a sense ring (R61). -/
def ZoneEntry.pilotTerm (e : ZoneEntry) (i : Nat) : Int :=
  if e.sensePresent then (e.pilotLevel : Int) * pilotSign e.pilotPattern i else 0

/-- Program, ducked where there is a stream's sample to lay over it (R59, R60). -/
def ZoneEntry.programSum (e : ZoneEntry) (m : Int) (sample : Option Int) : Int :=
  let p := gained m e.effectiveGain
  match sample with
  | some v => gained p e.duckGain + gained v e.overlayGain
  | none => p

/-- The stream alone: a zone without program in MUSTER (R59). -/
def ZoneEntry.streamSum (e : ZoneEntry) (sample : Option Int) : Int :=
  match sample with
  | some v => gained v e.overlayGain
  | none => 0

/-- The sum of R59 without the pilot: alarm state, tone sample, memory sample, and the contributing stream's sample. -/
def ZoneEntry.sum (e : ZoneEntry) (alarm : AlarmState) (tone m : Int) (sample : Option Int) : Int :=
  match alarm with
  | .quiet => e.programSum m sample
  | .sounding => gained tone e.alarmGain
  | .muster => if e.kind = .crewZone then e.programSum m sample else e.streamSum sample

/-- The playout word of zone `z` at position `i`, for memory's word (R59, R62). -/
def State.playoutWord (s : State) (z i : Nat) (word : Word) : Word :=
  let sample := (s.contributing z).map fun b => sampleOf (b.get i)
  sampleWord ((s.zone z).sum s.alarm.state (s.alarm.tone i) (sampleOf word) sample + (s.zone z).pilotTerm i)

/-! ## Earpiece words (R65, R66, R121 to R123) -/

/-- D: the group's ready sum, less the station's own share of it (R122). -/
def State.conference (s : State) (n g i : Nat) : Int :=
  if (s.station n).readyGroup = some g then (s.group g).ready.get i - (s.station n).ownReady.get i
  else (s.group g).ready.get i

/-- The conference term of group `g` for station `n` (R122). -/
def State.conferenceTerm (s : State) (n i g : Nat) : Int :=
  if !(s.station n).listen.get g || !(s.group g).defined || s.muted g || s.control.busyIntercom then 0
  else gained (s.conference n g i) (s.group g).gain

/-- The tone term of station `n` (R122). -/
def State.earTone (s : State) (n i : Nat) : Int :=
  if s.alarm.state = .sounding then gained (s.alarm.tone i) (s.station n).alarmGain else 0

/-- The earpiece word of station `n` at position `i`, for memory's word (R122). -/
def State.earpieceWord (s : State) (n i : Nat) (word : Word) : Word :=
  sampleWord (sampleOf word + ((List.range 16).map (s.conferenceTerm n i)).sum + s.earTone n i)

end Sys2Proof.Machine
end

