-- ==== Sys2Proof/Machine/Supervision.lean ====
section
/-! DEFINITION. Line supervision (chapter 8): scoring sense words, closing periods, the verdict machine, SVR. -/

namespace Sys2Proof.Machine

/-- A returned sign matches a pilot element: +1 a sample of 0 or above, −1 one below 0 (R157). -/
def signMatches (positive : Bool) (w : Word) : Bool := positive == decide (0 ≤ sampleOf w)

/-- Score a taken sense word at position `i` (R157): only the first write of a position counts, and one with a lane clear is
a mismatch. -/
def ZoneEntry.score (e : ZoneEntry) (i : Nat) (w : WriteWord) : ZoneEntry :=
  if e.seen.get i then e
  else
    let good := w.lanes = 15#4 ∧ signMatches (pilotPositive e.pilotPattern ((i + 48 - e.senseLag) % 48)) w.data
    { e with seen := e.seen.set i true, tally := if good then e.tally + 1 else e.tally }

/-- The runs after a period (R159). -/
def ZoneEntry.runs (e : ZoneEntry) (pass : Bool) : ZoneEntry :=
  if pass then { e with passRun := min 8 (e.passRun + 1), failRun := 0 }
  else { e with passRun := 0, failRun := min 16 (e.failRun + 1) }

/-- The verdict judged on the updated runs (R159). -/
def ZoneEntry.judged (e : ZoneEntry) : Verdict :=
  match e.verdict with
  | .unchecked => if e.passRun = 8 then .passing else if e.failRun = 16 then .failing else .unchecked
  | .passing => if e.failRun = 16 then .failing else .passing
  | .failing => if e.passRun = 8 then .passing else .failing

/-- The period passes when the tally is at least the threshold (R158). -/
def ZoneEntry.passes (e : ZoneEntry) (threshold : Nat) : Bool := threshold ≤ e.tally

/-- The zone after its period closes: tally and seen set empty, runs and verdict updated, and a fail with the verdict
FAILING counted (R158, R159, R163). -/
def ZoneEntry.closePeriod (e : ZoneEntry) (threshold : Nat) : ZoneEntry :=
  let pass := e.passes threshold
  let e' := e.runs pass
  let v := e'.judged
  { e' with tally := 0, seen := Bank.fill 48 false, verdict := v,
            failingPeriods := if !pass ∧ v = .failing then bump e.failingPeriods else e.failingPeriods }

/-- A sense period of zone `z` closes (R158): a verdict that becomes FAILING posts SUPERVISION and has the fallback
evaluation run (R160); a verdict that becomes PASSING posts nothing (R161). -/
def State.closeSense (s : State) (z : Nat) : State :=
  let e := s.zone z
  let e' := e.closePeriod s.control.passThreshold
  let s := s.setZone z e'
  let s := if e'.failingPeriods ≠ e.failingPeriods then s.countedFrom e.failingPeriods else s
  if e'.verdict = .failing ∧ e.verdict ≠ .failing then (s.post .supervision).evaluateFallback else s

/-- A sense word of zone `z`, at this offset from its sense ring base (R156 to R158): taken while the pilot level is above
0; the one at position 47 closes the period. -/
def State.offerSense (s : State) (z offset : Nat) (w : WriteWord) : State :=
  if (s.zone z).pilotLevel = 0 then s
  else
    let i := offset % 48
    let s := s.setZone z ((s.zone z).score i w)
    if i = 47 then s.closeSense z else s

/-- The starting supervision state (R164, R165). -/
def ZoneEntry.unsupervised (e : ZoneEntry) : ZoneEntry :=
  { e with seen := Bank.fill 48 false, tally := 0, passRun := 0, failRun := 0, verdict := .unchecked }

/-- The mapped zones of a set. -/
def State.mappedZones (s : State) (zs : ZoneSet) : List Nat := (zonesOf zs).filter fun z => (s.zone z).mapped

/-- SVR (R164). -/
def State.takeSvr (s : State) (zs : ZoneSet) : Except Reason (Nat × State) :=
  if s.alarm.state ≠ .quiet then .error .alarm
  else .ok ((s.mappedZones zs).length,
    s.forEach (s.mappedZones zs) fun z s => s.setZone z (s.zone z).unsupervised)

end Sys2Proof.Machine
end

