-- ==== Sys2Proof/Machine/Owners.lean ====
section
/-! DEFINITION. What the owners of the writable tables do with a word the control unit offers them: `none` is a refusal
(R35). -/

namespace Sys2Proof.Machine

/-! ## CONFIG (R38) -/

/-- A mask write's latching is the event's own (R42, R193). -/
def State.writeConfig (s : State) (index : Nat) (data : Word) : Option State :=
  match index with
  | 0 =>
    if field data 9 23 = 0 then some { s with control := { s.control with mask := Bank.ofFn 9 (flag data) } } else none
  | 1 =>
    if field data 0 16 = 0 then none
    else some { s with control := { s.control with pageTimeout := field data 0 16 } }
  | _ =>
    if 1 ≤ field data 0 6 ∧ field data 0 6 ≤ 48 then
      some { s with control := { s.control with passThreshold := field data 0 6 } }
    else none

/-! ## ZONE (R50 to R56) -/

/-- The ranges of word 0's fields (R50). -/
def shapeInRange (z : ZoneShape) : Bool := 2 ≤ z.ringPeriods && z.ringPeriods ≤ 32 && z.senseLag ≤ 47

/-- The entry with these shape fields stored. -/
def ZoneEntry.withShape (e : ZoneEntry) (z : ZoneShape) : ZoneEntry :=
  { e with kind := z.kind, ringPeriods := z.ringPeriods, sensePresent := z.sensePresent, senseLag := z.senseLag }

/-- A span ends at or below the top of memory. -/
def Span.inMemory (p : Span) : Bool := p.base + p.length ≤ topAddress + 1

/-- Orders 2 to 5 of R51 for the entry with the written shape. -/
def State.zonePlaceable (s : State) (e : ZoneEntry) : Bool :=
  e.playoutSpan.inMemory && s.clearOf e.playoutSpan &&
    (!e.sensePresent || (e.senseSpan.inMemory && !e.playoutSpan.overlaps e.senseSpan && s.clearOf e.senseSpan))

/-- The level a zone starts with when it is mapped (R52). -/
def State.startLevel (s : State) (e : ZoneEntry) : Nat :=
  if e.kind = .theatreZone ∧ s.theatre.state ≠ .held then e.programGain else 0

/-- The zone's run-time state at its mapping; counters are kept (R52). -/
def State.mapped (s : State) (e : ZoneEntry) : ZoneEntry :=
  { e.unsupervised with mapped := true, bound := none, watch := e.watchLimit, silent := false, level := s.startLevel e,
                        levelTarget := s.startLevel e, ramp := none }

/-- Zone `z`'s entry in the hold snapshot (R52, R56). -/
def ShowRecord.setSnapshot (r : ShowRecord) (z : Nat) (level : Option Nat) : ShowRecord :=
  { r with snapshot := r.snapshot.map fun h => { h with levels := h.levels.set z level } }

/-- The snapshot entry a mapping leaves: a THEATRE zone mapped while HELD gets its program gain (R52). -/
def State.snapshotAtMapping (s : State) (e : ZoneEntry) : Option Nat :=
  if e.kind = .theatreZone ∧ s.theatre.state = .held then some e.programGain else none

/-- A mapping request (R51). -/
def State.mapZone (s : State) (z : Nat) (shape : ZoneShape) : Option State :=
  let e := (s.zone z).withShape shape
  if shapeInRange shape && s.zonePlaceable e then
    some ((s.setZone z (s.mapped e)).setShow (s.theatre.setSnapshot z (s.snapshotAtMapping e)))
  else none

/-- The entry as an accepted unmapping request leaves it (R56). -/
def ZoneEntry.unmapped (e : ZoneEntry) : ZoneEntry :=
  { e.unsupervised with mapped := false, watch := 0, silent := false, level := 0, levelTarget := 0, ramp := none }

/-- An unmapping request (R55, R56). -/
def State.unmapZone (s : State) (z : Nat) (shape : ZoneShape) : Option State :=
  let e := s.zone z
  if shapeInRange shape ∧ s.alarm.state = .quiet ∧ e.bound = none then
    some ((s.setZone z (e.withShape shape).unmapped).setShow (s.theatre.setSnapshot z none))
  else none

/-- Word 0 (R50, R51, R53, R55). -/
def State.writeZoneShape (s : State) (z : Nat) (data : Word) : Option State :=
  let shape := zoneShapeOf data
  match (s.zone z).mapped, flag data 0 with
  | false, false => if shapeInRange shape then some (s.setZone z ((s.zone z).withShape shape)) else none
  | false, true => s.mapZone z shape
  | true, true => none
  | true, false => s.unmapZone z shape

/-- Words 1 and 2: a base, stored while the zone is unmapped (R50, R53). -/
def baseOk (free : Bool) (data : Word) : Bool := free && data.toNat ≤ topAddress

/-- Two gains in one word. -/
def gainsOk (data : Word) : Bool := field data 0 13 ≤ 4096 && field data 16 13 ≤ 4096

/-- Whether the show engine follows program gain writes: IDLE or STOPPED (R54). -/
def ShowState.settled : ShowState → Bool
  | .idle => true
  | .stopped => true
  | .running => false
  | .held => false

/-- A new program gain becomes the level of a mapped THEATRE zone while the show is IDLE or STOPPED (R54). -/
def ZoneEntry.followProgram (e : ZoneEntry) (settled : Bool) : ZoneEntry :=
  if settled && e.theatre then { e with level := e.programGain, levelTarget := e.programGain } else e

/-- Word 3 (R54). -/
def State.writeProgram (s : State) (z : Nat) (data : Word) : Option State :=
  if gainsOk data then
    let e := { s.zone z with programGain := field data 0 13, duckGain := field data 16 13 }
    some (s.setZone z (e.followProgram s.theatre.state.settled))
  else none

/-- Word 4 (R54). -/
def State.writeOverlay (s : State) (z : Nat) (data : Word) : Option State :=
  if gainsOk data then
    some (s.setZone z { s.zone z with overlayGain := field data 0 13, alarmGain := field data 16 13 })
  else none

/-- The fallback group a field names: 0–7, or 15 for none. -/
def fallbackOf (n : Nat) : Option Nat := if n = 15 then none else some n

/-- The ranges of word 5's fields (11.5). -/
def priorityWordOk (data : Word) : Bool :=
  1 ≤ field data 0 3 && 2 ≤ field data 8 8 && (field data 16 4 ≤ 7 || field data 16 4 == 15)

/-- Word 5 (R54); the fallback evaluation runs at an accepted write (R151; log 18). -/
def State.writePriority (s : State) (z : Nat) (data : Word) : Option State :=
  if priorityWordOk data then
    some (s.setZone z { s.zone z with
      minPriority := field data 0 3, watchLimit := field data 8 8,
      fallbackGroup := fallbackOf (field data 16 4) }).evaluateFallback
  else none

/-- Word 6: every field value is in range (R54). -/
def State.writePilot (s : State) (z : Nat) (data : Word) : State :=
  s.setZone z { s.zone z with pilotLevel := field data 0 8, pilotPattern := field data 8 3 }

/-- Word `w` of zone `z`; word 7 is refused (R49). -/
def State.writeZone (s : State) (z w : Nat) (data : Word) : Option State :=
  match w with
  | 0 => s.writeZoneShape z data
  | 1 =>
    if baseOk (!(s.zone z).mapped) data then some (s.setZone z { s.zone z with playoutBase := data.toNat }) else none
  | 2 =>
    if baseOk (!(s.zone z).mapped) data then some (s.setZone z { s.zone z with senseBase := data.toNat }) else none
  | 3 => s.writeProgram z data
  | 4 => s.writeOverlay z data
  | 5 => s.writePriority z data
  | 6 => some (s.writePilot z data)
  | _ => none

/-! ## STATION (R111 to R113) -/

def periodsOk (n : Nat) : Bool := 2 ≤ n && n ≤ 32

/-- The station's own buffers cleared (R112, R113). -/
def StationRecord.clearOwn (r : StationRecord) : StationRecord :=
  { r with ownFilling := Bank.fill 48 0, written := Bank.fill 48 false, ownReady := Bank.fill 48 0, readyGroup := none,
           heard := 0 }

/-- Orders 2 to 5 of R112. -/
def State.stationPlaceable (s : State) (r : StationRecord) : Bool :=
  r.micSpan.inMemory && r.earSpan.inMemory && !r.micSpan.overlaps r.earSpan && s.clearOf r.micSpan && s.clearOf r.earSpan

/-- An activation request (R112). -/
def State.activateStation (s : State) (n periods : Nat) : Option State :=
  let r := { s.station n with ringPeriods := periods }
  if periodsOk periods && s.stationPlaceable r then some (s.setStation n { r.clearOwn with active := true }) else none

/-- A deactivation request (R113). -/
def State.deactivateStation (s : State) (n periods : Nat) : Option State :=
  let r := s.station n
  if periodsOk periods ∧ r.talk = none then
    some (s.setStation n { r.clearOwn with active := false, ringPeriods := periods })
  else none

/-- Word 0 (R112, R113). -/
def State.writeStationShape (s : State) (n : Nat) (data : Word) : Option State :=
  let periods := field data 8 6
  match (s.station n).active, flag data 0 with
  | false, false =>
    if periodsOk periods then some (s.setStation n { s.station n with ringPeriods := periods }) else none
  | false, true => s.activateStation n periods
  | true, true => none
  | true, false => s.deactivateStation n periods

/-- Word `w` of station `n`; words 4 and 5 are refused (R111). -/
def State.writeStation (s : State) (n w : Nat) (data : Word) : Option State :=
  match w with
  | 0 => s.writeStationShape n data
  | 1 =>
    if baseOk (!(s.station n).active) data then some (s.setStation n { s.station n with micBase := data.toNat }) else none
  | 2 =>
    if baseOk (!(s.station n).active) data then some (s.setStation n { s.station n with earBase := data.toNat }) else none
  | 3 =>
    if field data 0 13 ≤ 4096 then some (s.setStation n { s.station n with alarmGain := field data 0 13 }) else none
  | _ => none

/-! ## GROUP (R114, R115) -/

/-- A station's share of an undefined group's ready sum goes with it (R115). -/
def StationRecord.forgetGroup (g : Nat) (r : StationRecord) : StationRecord :=
  if r.readyGroup = some g then { r with ownReady := Bank.fill 48 0, readyGroup := none } else r

/-- An undefinition request (R115). -/
def State.undefineGroup (s : State) (g : Nat) (essential : Bool) : Option State :=
  if s.talkerCount g = 0 ∧ s.streamCount g = 0 then
    let s := s.setGroup g { (s.group g).clearSums with defined := false, essential := essential }
    some { s with stations := s.stations.map (StationRecord.forgetGroup g) }
  else none

/-- Word 0 (R115). -/
def State.writeGroupFlags (s : State) (g : Nat) (data : Word) : Option State :=
  let r := s.group g
  let essential := flag data 1
  if s.alarm.state ≠ .quiet ∧ essential ≠ r.essential then none
  else match r.defined, flag data 0 with
    | false, false => some (s.setGroup g { r with essential := essential })
    | false, true => some (s.setGroup g { r.clearSums with defined := true, essential := essential })
    | true, true => some (s.setGroup g { r with essential := essential })
    | true, false => s.undefineGroup g essential

/-- Word `w` of group `g`; words 2 and 3 are refused (R114). -/
def State.writeGroup (s : State) (g w : Nat) (data : Word) : Option State :=
  match w with
  | 0 => s.writeGroupFlags g data
  | 1 => if field data 0 13 ≤ 4096 then some (s.setGroup g { s.group g with gain := field data 0 13 }) else none
  | _ => none

/-! ## CUE (R169 to R171) -/

/-- A RUNNING or HELD show keeps the cues up to the pointer (R170). -/
def ShowRecord.editable (r : ShowRecord) (n : Nat) : Bool := r.state.settled || r.pointer < n

/-- Word 0 of a cue, its cue state kept; none for a trigger, an action or a value that word 0 may not hold (R170). -/
def Cue.withWord0 (c : Cue) (data : Word) : Option Cue :=
  match triggerOf (field data 0 2), cueActionOf (field data 2 3) with
  | some trigger, some action =>
    if trigger = .follow ∧ 65535 < field data 12 20 then none
    else some { c with trigger := trigger, action := action, notify := flag data 5, repeats := field data 8 4,
                       value := field data 12 20 }
  | _, _ => none

/-- Word `w` of a cue. -/
def Cue.withWord (c : Cue) (w : Nat) (data : Word) : Option Cue :=
  match w with
  | 0 => c.withWord0 data
  | 1 => some { c with word1 := data }
  | 2 => some { c with word2 := data }
  | _ => some { c with word3 := data }

/-- A write to cue `n` (R170). -/
def State.writeCue (s : State) (n w : Nat) (data : Word) : Option State :=
  if s.theatre.editable n then
    ((s.theatre.cue n).withWord w data).map fun c => s.setShow { s.theatre with cues := s.theatre.cues.set n c }
  else none

/-- The list length (R171). -/
def State.writeLength (s : State) (data : Word) : Option State :=
  let n := field data 0 9
  if 256 < n then none
  else match s.theatre.state with
    | .idle =>
      if n = 0 then some (s.setShow { s.theatre with length := 0 })
      else some ((s.setShow { s.theatre with length := n, state := .stopped }).post .showNotice)
    | .stopped =>
      if n = 0 then
        some ((s.setShow { s.theatre.allWaiting with length := 0, pointer := 0, state := .idle }).post .showNotice)
      else some (s.setShow { s.theatre with length := n })
    | .running => none
    | .held => none

/-! ## PATTERN (R144) -/

/-- The ranges of a segment word. -/
def segmentOk (data : Word) : Bool :=
  (field data 0 12 == 0 || (100 ≤ field data 0 12 && field data 0 12 ≤ 3000)) && 1 ≤ field data 16 16

/-- Word `i` of the pattern, with the alarm QUIET (R144). -/
def State.writePattern (s : State) (i : Nat) (data : Word) : Option State :=
  if s.alarm.state ≠ .quiet then none
  else if i = 16 then
    if 1 ≤ field data 0 5 ∧ field data 0 5 ≤ 16 then
      some { s with alarm := { s.alarm with patternLength := field data 0 5 } }
    else none
  else if segmentOk data then
    some { s with alarm := { s.alarm with
      segments := s.alarm.segments.set i { frequency := field data 0 12, duration := field data 16 16 } } }
  else none

/-! ## Every table -/

/-- The owner's answer to a word offered to it (R35). PIN, STREAM and COUNTER take none. -/
def State.writeTable (s : State) (t : PortTable) (i : Nat) (data : Word) : Option State :=
  match t with
  | .config => s.writeConfig i data
  | .zone => s.writeZone (i / 8) (i % 8) data
  | .station => s.writeStation (i / 6) (i % 6) data
  | .group => s.writeGroup (i / 4) (i % 4) data
  | .cue => if i = 1024 then s.writeLength data else s.writeCue (i / 4) (i % 4) data
  | .pattern => s.writePattern i data
  | .pin => none
  | .stream => none
  | .counter => none

end Sys2Proof.Machine
end

