-- ==== Sys2Proof/Machine/Readout.lean ====
section
/-! DEFINITION. What the part returns for its own words: the live words (11.4) and the port's table words (11.5), each as the
owner holds it at that event (R23, R34). -/

namespace Sys2Proof.Machine

/-! ## Live words -/

def identityWord : Word := pack [⟨1, 0, 8⟩, ⟨64, 8, 8⟩, ⟨0x0D40, 16, 16⟩]

/-- R24. -/
def State.resetCauseWord (s : State) : Word := pack [⟨resetCauseNumber s.control.resetCause, 0, 2⟩]

/-- R135. -/
def State.alarmSummary (s : State) : Word :=
  pack ([⟨alarmStateNumber s.alarm.state, 0, 2⟩, ⟨alarmSourceNumber s.alarm.source, 2, 2⟩,
    ⟨bit s.alarm.panelAbort, 4, 1⟩, ⟨decoderStateNumber s.alarm.decoder, 5, 2⟩, ⟨s.alarm.entryTick, 16, 16⟩]
    ++ (List.range 8).map fun g => ⟨bit (s.alarm.fallback.get g), 8 + g, 1⟩)

def noticeNumber (k : Option NoticeKind) : Nat := (k.map NoticeKind.number).getD 0

/-- R39, R40: kind `n` is pending in bit 15 + `n`. -/
def State.noticeWord (s : State) : Word :=
  pack (⟨noticeNumber s.control.inService, 0, 4⟩
    :: (List.range 9).map fun i => ⟨bit (s.control.pendingNotices.get i), 16 + i, 1⟩)

/-- The result field of the outcome word. -/
def resultNumber : TakeResult → Nat
  | .accepted _ => 0
  | .refused _ => 1
  | .rejected => 2
  | .busy => 3

/-- The detail field of the outcome word. -/
def resultDetail : TakeResult → Nat
  | .accepted value => value
  | .refused reason => reasonNumber reason
  | .rejected => 0
  | .busy => 0

/-- R30. -/
def OutcomeWord.word (o : OutcomeWord) : Word :=
  pack [⟨o.sequence, 0, 8⟩, ⟨o.code, 8, 5⟩, ⟨resultNumber o.result, 13, 2⟩, ⟨resultDetail o.result, 16, 16⟩]

/-- A set of error flags (R32). -/
def errorWord (b : Bank 10 Bool) : Word := pack ((List.range 10).map fun i => ⟨bit (b.get i), i, 1⟩)

/-- R74. -/
def State.clockSummary (s : State) : Word :=
  pack [⟨clockSourceNumber s.clock.source, 0, 1⟩, ⟨lockStateNumber s.clock.lock, 1, 2⟩,
    ⟨s.clock.lockedInterval, 4, 11⟩, ⟨s.clock.tickCount, 16, 16⟩]

/-- R190. -/
def State.showSummary (s : State) : Word :=
  pack [⟨showStateNumber s.theatre.state s.theatre.holdCause, 0, 3⟩, ⟨s.theatre.pointer, 3, 9⟩, ⟨s.markNumber, 12, 20⟩]

/-- One of the two words of a set of zones: zones `base` to `base + 31` that satisfy `p`. -/
def State.zoneSetWord (s : State) (base : Nat) (p : ZoneEntry → Bool) : Word :=
  flagsWord fun i => p (s.zone (base + i))

/-- In the silent zone set (R150). -/
def ZoneEntry.inSilentSet (e : ZoneEntry) : Bool := e.mapped && e.silent

/-- In the failing zone set (R162). -/
def ZoneEntry.inFailingSet (e : ZoneEntry) : Bool := e.mapped && e.verdict == .failing

/-- R106. -/
def State.lastEndedWord (s : State) : Word :=
  match s.lastEnded with
  | none => 0#32
  | some l => pack [⟨l.index, 0, 3⟩, ⟨endCauseNumber l.cause, 4, 4⟩, ⟨ownerNumber l.owner, 8, 1⟩, ⟨ownerCue l.owner, 16, 8⟩]

/-- R106. -/
def State.streamStatesWord (s : State) : Word :=
  pack ((List.range 8).map fun n => ⟨streamStateNumber (s.stream n).state, 4 * n, 4⟩)

/-- R44. -/
def State.busyWord (s : State) : Word :=
  pack [⟨bit s.control.busyStream, 0, 1⟩, ⟨bit s.control.busyIntercom, 1, 1⟩, ⟨bit s.control.busyShow, 2, 1⟩]

/-- R179, R190. -/
def State.lastFiredWord (s : State) : Word :=
  match s.theatre.lastFired with
  | none => 0#32
  | some l => pack [⟨l.cue, 0, 8⟩, ⟨cueStateNumber l.state, 8, 2⟩, ⟨l.mark, 16, 16⟩]

/-- Live word `k` (R23). -/
def State.liveWord (s : State) (k : Nat) : Word :=
  match k with
  | 0 => identityWord
  | 1 => s.resetCauseWord
  | 2 => s.alarmSummary
  | 3 => s.noticeWord
  | 4 => s.control.outcome.word
  | 5 => errorWord s.control.published
  | 6 => s.clockSummary
  | 7 => s.showSummary
  | 8 => s.zoneSetWord 0 ZoneEntry.inSilentSet
  | 9 => s.zoneSetWord 32 ZoneEntry.inSilentSet
  | 10 => s.zoneSetWord 0 ZoneEntry.inFailingSet
  | 11 => s.zoneSetWord 32 ZoneEntry.inFailingSet
  | 12 => s.lastEndedWord
  | 13 => s.streamStatesWord
  | 14 => s.busyWord
  | _ => s.lastFiredWord

/-! ## Table words -/

/-- R38. -/
def ControlUnit.configWord (c : ControlUnit) (i : Nat) : Word :=
  match i with
  | 0 => pack ((List.range 9).map fun k => ⟨bit (c.mask.get k), k, 1⟩)
  | 1 => pack [⟨c.pageTimeout, 0, 16⟩]
  | _ => pack [⟨c.passThreshold, 0, 6⟩]

/-- The shape fields of a zone's word 0. -/
def ZoneEntry.shape (e : ZoneEntry) : ZoneShape :=
  { kind := e.kind, ringPeriods := e.ringPeriods, sensePresent := e.sensePresent, senseLag := e.senseLag }

/-- R49: word 7 shows the level of a mapped THEATRE zone only, and the watch counter of a mapped zone only. -/
def ZoneEntry.word (e : ZoneEntry) (w : Nat) : Word :=
  match w with
  | 0 => zoneWord0 e.mapped e.shape
  | 1 => BitVec.ofNat 32 e.playoutBase
  | 2 => BitVec.ofNat 32 e.senseBase
  | 3 => pack [⟨e.programGain, 0, 13⟩, ⟨e.duckGain, 16, 13⟩]
  | 4 => pack [⟨e.overlayGain, 0, 13⟩, ⟨e.alarmGain, 16, 13⟩]
  | 5 => pack [⟨e.minPriority, 0, 3⟩, ⟨e.watchLimit, 8, 8⟩, ⟨optNumber e.fallbackGroup 15, 16, 4⟩]
  | 6 => pack [⟨e.pilotLevel, 0, 8⟩, ⟨e.pilotPattern, 8, 3⟩]
  | _ => pack [⟨optNumber e.bound 15, 0, 4⟩, ⟨if e.theatre then e.level else 0, 4, 13⟩,
      ⟨if e.mapped then e.watch else 0, 17, 8⟩, ⟨bit e.silent, 25, 1⟩, ⟨verdictNumber e.verdict, 26, 2⟩]

/-- The heard count as word 5 shows it: always 0 for a station with no talk group (R111, log 31). -/
def StationRecord.shownHeard (r : StationRecord) : Nat := if r.talk = none then 0 else r.heard

/-- R111. -/
def StationRecord.word (r : StationRecord) (w : Nat) : Word :=
  match w with
  | 0 => stationWord0 r.active r.ringPeriods
  | 1 => BitVec.ofNat 32 r.micBase
  | 2 => BitVec.ofNat 32 r.earBase
  | 3 => pack [⟨r.alarmGain, 0, 13⟩]
  | 4 => pack (⟨optNumber r.talk 31, 0, 5⟩ :: (List.range 16).map fun g => ⟨bit (r.listen.get g), 16 + g, 1⟩)
  | _ => pack [⟨optNumber r.readyGroup 31, 0, 5⟩, ⟨r.shownHeard, 8, 6⟩]

/-- R114. -/
def State.groupWord (s : State) (g w : Nat) : Word :=
  match w with
  | 0 => groupWord0 (s.group g).defined (s.group g).essential
  | 1 => pack [⟨(s.group g).gain, 0, 13⟩]
  | 2 => pack [⟨s.talkerCount g, 0, 3⟩, ⟨s.streamCount g, 8, 4⟩, ⟨bit (s.muted g), 16, 1⟩]
  | _ => pack [⟨s.listenerCount g, 0, 6⟩]

/-- Words 1 and 2 of a cue: the zone set of FADE and PLAY; no field for the other actions (11.5, R196). -/
def Cue.setWord (c : Cue) (w : Word) : Word :=
  match c.action with
  | .fade => w
  | .play => w
  | .note => 0#32
  | .halt => 0#32
  | .endShow => 0#32

/-- Word 3 of a cue, by its action's fields (11.5, R196). -/
def Cue.argumentWord (c : Cue) : Word :=
  match c.action with
  | .fade => pack [⟨field c.word3 0 13, 0, 13⟩, ⟨field c.word3 16 12, 16, 12⟩]
  | .play => c.word3
  | .halt => pack [⟨field c.word3 0 8, 0, 8⟩]
  | .note => 0#32
  | .endShow => 0#32

/-- R169, R190. -/
def Cue.word (c : Cue) (w : Nat) : Word :=
  match w with
  | 0 => pack [⟨triggerNumber c.trigger, 0, 2⟩, ⟨cueActionNumber c.action, 2, 3⟩, ⟨bit c.notify, 5, 1⟩,
      ⟨cueStateNumber c.state, 6, 2⟩, ⟨c.repeats, 8, 4⟩, ⟨c.value, 12, 20⟩]
  | 1 => c.setWord c.word1
  | 2 => c.setWord c.word2
  | _ => c.argumentWord

/-- The CUE table with the list length as word 1024. -/
def ShowRecord.word (r : ShowRecord) (i : Nat) : Word :=
  if i = 1024 then pack [⟨r.length, 0, 9⟩] else (r.cue (i / 4)).word (i % 4)

/-- R144. -/
def AlarmUnit.patternWord (a : AlarmUnit) (i : Nat) : Word :=
  if i = 16 then pack [⟨a.patternLength, 0, 5⟩]
  else pack [⟨(a.segments.get i).frequency, 0, 12⟩, ⟨(a.segments.get i).duration, 16, 16⟩]

/-- R14. -/
def PinEntry.word (p : PinEntry) (w : Nat) : Word :=
  if w = 0 then pack [⟨p.base, 0, 28⟩, ⟨bit p.inUse, 31, 1⟩] else pack [⟨p.length, 0, 21⟩]

/-- R106. -/
def State.streamWord (s : State) (n w : Nat) : Word :=
  let r := s.stream n
  match w with
  | 0 => pack [⟨streamStateNumber r.state, 0, 3⟩, ⟨streamSourceNumber r.source, 3, 2⟩, ⟨ownerNumber r.owner, 5, 1⟩,
      ⟨r.priority, 8, 3⟩, ⟨endCauseNumber r.endCause, 12, 4⟩, ⟨r.queue.length, 16, 3⟩, ⟨bit r.current, 19, 1⟩,
      ⟨bit r.closing, 20, 1⟩]
  | 1 => flagsWord (s.boundTo n)
  | 2 => flagsWord fun i => s.boundTo n (32 + i)
  | _ => pack [⟨r.starvedCount, 0, 8⟩, ⟨r.droppedCount, 8, 8⟩, ⟨ownerCue r.owner, 16, 8⟩, ⟨r.group, 24, 4⟩]

/-- R37. -/
def State.counterWord (s : State) (i : Nat) : Word :=
  if i < 64 then pack [⟨(s.zone i).silentEvents, 0, 8⟩, ⟨(s.zone i).failingPeriods, 8, 8⟩]
  else if i < 96 then pack [⟨(s.station (i - 64)).torn, 0, 8⟩]
  else pack [⟨s.page.dropped, 0, 8⟩, ⟨s.page.strayCount, 8, 8⟩]

/-- Word `i` of a table (R34). -/
def State.tableWord (s : State) (t : PortTable) (i : Nat) : Word :=
  match t with
  | .config => s.control.configWord i
  | .zone => (s.zone (i / 8)).word (i % 8)
  | .station => (s.station (i / 6)).word (i % 6)
  | .group => s.groupWord (i / 4) (i % 4)
  | .cue => s.theatre.word i
  | .pattern => s.alarm.patternWord i
  | .pin => (s.transit.pins.get (i / 2)).word (i % 2)
  | .stream => s.streamWord (i / 4) (i % 4)
  | .counter => s.counterWord i

/-- The selected word (R34). -/
def State.portWord (s : State) : Word := s.tableWord s.control.selector.table s.control.selector.index

end Sys2Proof.Machine
end

