-- ==== Sys2Proof/Machine/Control.lean ====
section
/-! DEFINITION. The control unit (chapter 2): the table port, the command slot and the take, outcomes, RST and CNC, with the
transit unit's PIN and UNP (R16, R17). -/

namespace Sys2Proof.Machine

/-! ## The table port (R33 to R36) -/

/-- A write of the port selector (R33). -/
def ControlUnit.select (c : ControlUnit) (w : WriteWord) : ControlUnit :=
  match selectorOf w.data with
  | some sel => if w.lanes = 15#4 then { c with selector := sel } else c.addError .portRange
  | none => c.addError .portRange

/-- Whether an access advances the index under a mode (R36). -/
def advances (mode : IncMode) (isWrite : Bool) : Bool :=
  match mode with
  | .none => false
  | .readAndWrite => true
  | .writeOnly => isWrite

/-- The post-increment (R36). -/
def ControlUnit.advance (c : ControlUnit) (isWrite : Bool) : ControlUnit :=
  if advances c.selector.mode isWrite then
    if c.selector.index < lastIndex c.selector.table then
      { c with selector := { c.selector with index := c.selector.index + 1 } }
    else c.addError .portRange
  else c

def State.advancePort (s : State) (isWrite : Bool) : State := { s with control := s.control.advance isWrite }

/-- The tables the port cannot write, and the tables of a BUSY engine (R35). -/
def ControlUnit.tableClosed (c : ControlUnit) (t : PortTable) : Bool :=
  match t with
  | .config => false
  | .zone => false
  | .station => c.busyIntercom
  | .group => c.busyIntercom
  | .cue => c.busyShow
  | .pattern => false
  | .pin => true
  | .stream => true
  | .counter => true

/-- The table's owner, offered the word; none where the control unit or the owner refuses it (R35). -/
def State.offerTable (s : State) (w : WriteWord) : Option State :=
  if s.control.tableClosed s.control.selector.table ∨ w.lanes ≠ 15#4 then none
  else s.writeTable s.control.selector.table s.control.selector.index w.data

/-- A write of port data (R35, R36). -/
def State.writePort (s : State) (w : WriteWord) : State :=
  ((s.offerTable w).getD (s.addError .portRefused)).advancePort true

/-! ## The command slot (R25, R26) -/

/-- The bits of the bytes whose lane enables are set. -/
def laneMask (l : Lanes) : Word :=
  pack ((List.range 4).map fun i => ⟨if l.getLsbD i then 255 else 0, 8 * i, 8⟩)

/-- A captured word with the written bytes taken (R25). -/
def mergeWord (old : Word) (w : WriteWord) : Word := (w.data &&& laneMask w.lanes) ||| (old &&& ~~~(laneMask w.lanes))

def ControlUnit.header (c : ControlUnit) : Word := c.captured.get 0

/-- L of a header word (11.3). -/
def payloadLengthOf (header : Word) : Nat := field header 24 5

/-- The trailer position (R26). -/
def ControlUnit.trailerPosition (c : ControlUnit) : Nat :=
  if payloadLengthOf c.header ≤ 14 then payloadLengthOf c.header + 1 else 15

/-- Capture slot word `k`; a header write with a lane enabled sets the fresh-header flag (R25; log 15). -/
def ControlUnit.capture (c : ControlUnit) (k : Nat) (w : WriteWord) : ControlUnit :=
  { c with captured := c.captured.set k (mergeWord (c.captured.get k) w),
           freshHeader := c.freshHeader || (k == 0 && w.lanes != 0#4) }

/-! ## PIN and UNP (R16, R17) -/

/-- A WRITE of the P-port tag table with a word inside the region (R16). -/
def TransitUnit.writePendingIn (t : TransitUnit) (p : Span) : Bool :=
  t.tags.cells.any fun o => match o with
    | some e => e.isWrite && Span.overlaps { base := e.addr, length := e.count } p
    | none => false

/-- The lowest-numbered pin entry not in use. -/
def TransitUnit.freePin (t : TransitUnit) : Option Nat := (List.range 8).find? fun e => !(t.pins.get e).inUse

def State.setPin (s : State) (e : Nat) (p : PinEntry) : State :=
  { s with transit := { s.transit with pins := s.transit.pins.set e p } }

/-- The ARGUMENT conditions of PIN but the last (R16). -/
def State.pinPlaceable (s : State) (base length : Nat) : Bool :=
  1 ≤ length && length ≤ 1048576 && base + length ≤ topAddress + 1 && s.clearOf { base := base, length := length }

/-- PIN (R16). -/
def State.takePin (s : State) (base length : Nat) : Except Reason (Nat × State) :=
  if !s.pinPlaceable base length then .error .argument
  else match s.transit.freePin with
    | none => .error .argument
    | some e =>
      if s.transit.writePendingIn { base := base, length := length } then .error .contention
      else .ok (e, s.setPin e { inUse := true, base := base, length := length })

/-- An emergency clip playing from the entry's region (R17). -/
def State.clipInUse (s : State) (p : Span) : Bool :=
  s.streams.cells.any fun r => r.state != .free && r.source == .clip && r.priority == 7
    && Span.inside { base := r.clipBase, length := r.clipPeriods * 48 } p

/-- UNP (R17). -/
def State.takeUnp (s : State) (e : Nat) : Except Reason (Nat × State) :=
  if 7 < e then .error .argument
  else if !(s.transit.pins.get e).inUse then .error .argument
  else if s.alarm.state ≠ .quiet then .error .alarm
  else if s.clipInUse (s.transit.pins.get e).span then .error .state
  else .ok (e, s.setPin e { inUse := false, base := 0, length := 0 })

/-! ## RST (R43, R105, R128, R191) -/

def State.setBusy (s : State) (stream intercom showEngine : Bool) : State :=
  { s with control := { s.control with
      busyStream := s.control.busyStream || stream, busyIntercom := s.control.busyIntercom || intercom,
      busyShow := s.control.busyShow || showEngine } }

/-- RST ALL: every stream ends RESTART before the show's own stop reaches it (R105). -/
def State.restartAll (s : State) : State :=
  ((s.setBusy true true true).endAll .restart).clearIntercom.clearShow.releaseBusy

/-- RST INTERCOM. -/
def State.restartIntercom (s : State) : State := (s.setBusy false true false).endGroupStreams.clearIntercom

/-- RST SHOW. -/
def State.restartShow (s : State) : State := (s.setBusy false false true).clearShow.releaseBusy

/-- RST (R43). -/
def State.takeRst (s : State) (scope : Nat) : Except Reason (Nat × State) :=
  match scope with
  | 1 => if s.alarm.state = .quiet then .ok (0, s.restartAll) else .error .alarm
  | 2 => if s.alarm.state = .quiet then .ok (0, s.restartIntercom) else .error .alarm
  | 3 => .ok (0, s.restartShow)
  | _ => .error .argument

/-! ## CNC (R45) -/

/-- The numbered cells of a bank, with those whose number is in a set changed by `f`. -/
def clearMembers {n : Nat} {α : Type} [NeZero n] (b : Bank n α) (p : Nat → Bool) (f : α → α) : Bank n α :=
  Bank.ofFn n fun i => if p i then f (b.get i) else b.get i

def ZoneEntry.clearCounters (e : ZoneEntry) : ZoneEntry := { e with silentEvents := 0, failingPeriods := 0 }

def StationRecord.clearTorn (r : StationRecord) : StationRecord := { r with torn := 0 }

def PageRingRecord.clearCounters (p : PageRingRecord) : PageRingRecord := { p with dropped := 0, strayCount := 0 }

/-- The number of counters a CNC sets to 0. -/
def counterCount (zones : ZoneSet) (stations : Word) (page : Nat) : Nat :=
  2 * (zonesOf zones).length + (stationsOf stations).length + 2 * page

/-- CNC (R45). -/
def State.takeCnc (s : State) (zones : ZoneSet) (stations : Word) (page : Nat) : Except Reason (Nat × State) :=
  if 1 < page then .error .argument
  else .ok (counterCount zones stations page,
    { s with zones := clearMembers s.zones (zoneIn zones) ZoneEntry.clearCounters,
             stations := clearMembers s.stations (flag stations) StationRecord.clearTorn,
             page := if page = 1 then s.page.clearCounters else s.page })

/-! ## The take (R27 to R31) -/

/-- The engines an RST scope names (R43). -/
def ControlUnit.scopeBusy (c : ControlUnit) (scope : Nat) : Bool :=
  match scope with
  | 1 => c.busyStream || c.busyIntercom || c.busyShow
  | 2 => c.busyIntercom
  | 3 => c.busyShow
  | _ => false

/-- Some engine the command belongs to is BUSY (R28). -/
def ControlUnit.busyFor (c : ControlUnit) (cmd : Command) : Bool :=
  match cmd with
  | .ansClip .. => c.busyStream
  | .ansLive .. => c.busyStream
  | .ansGroup .. => c.busyStream
  | .ansNone => c.busyStream
  | .anx _ => c.busyStream
  | .pgc => c.busyStream
  | .ict .. => c.busyIntercom
  | .icl .. => c.busyIntercom
  | .als => false
  | .asi => false
  | .aen => false
  | .svr _ => false
  | .shg => c.busyShow
  | .shh => c.busyShow
  | .shr => c.busyShow
  | .shs => c.busyShow
  | .pin .. => false
  | .unp _ => false
  | .rst scope => c.scopeBusy scope
  | .cnc .. => false

/-- The command's own rule, after the length test of R29: the reason it is refused, or its result value and effect. -/
def State.ownRule (s : State) (cmd : Command) : Except Reason (Nat × State) :=
  match cmd with
  | .ansClip priority zones base periods repeats => s.takeAns priority (.clip base periods repeats) zones
  | .ansLive priority zones => s.takeAns priority .live zones
  | .ansGroup priority zones group => s.takeAns priority (.group group) zones
  | .ansNone => .error .argument
  | .anx index => s.takeAnx index
  | .pgc => s.takePgc
  | .ict station group => s.takeIct station group
  | .icl station groups => s.takeIcl station groups
  | .als => s.takeAls
  | .asi => s.takeAsi
  | .aen => s.takeAen
  | .svr zones => s.takeSvr zones
  | .shg => s.takeShg
  | .shh => s.takeShh
  | .shr => s.takeShr
  | .shs => s.takeShs
  | .pin base length => s.takePin base length
  | .unp entry => s.takeUnp entry
  | .rst scope => s.takeRst scope
  | .cnc zones stations page => s.takeCnc zones stations page

/-- What the checks of a take come to: its result, the flag it adds, and the state the command leaves (R27). -/
structure Judgement where
  result : TakeResult
  error : Option ErrorFlag
  after : State

/-- Check 6 (R27, R29). -/
def State.judgeCommand (s : State) (cmd : Command) (length : Nat) : Judgement :=
  if cmd.payloadLength = some length then
    match s.ownRule cmd with
    | .ok (value, t) => { result := .accepted value, error := none, after := t }
    | .error reason => { result := .refused reason, error := some .refused, after := s }
  else { result := .refused .argument, error := some .refused, after := s }

/-- The CRC check (R27 check 3). -/
def ControlUnit.crcGood (c : ControlUnit) (length : Nat) : Bool :=
  field (c.captured.get (length + 1)) 0 16 == (crc16 (c.captured.cells.take (length + 1))).toNat

/-- The checks of R27 in their order; `fresh` is the fresh-header flag as the take began. -/
def State.judgeTake (s : State) (fresh : Bool) : Judgement :=
  let c := s.control
  let length := payloadLengthOf c.header
  if !fresh then { result := .rejected, error := some .tornSlot, after := s }
  else if 14 < length then { result := .rejected, error := some .length, after := s }
  else if !c.crcGood length then { result := .rejected, error := some .check, after := s }
  else match parseCommand (field c.header 0 5) c.captured.get with
    | none => { result := .rejected, error := some .code, after := s }
    | some cmd =>
      if c.busyFor cmd then { result := .busy, error := some .busy, after := s } else s.judgeCommand cmd length

def ControlUnit.addFlag (c : ControlUnit) (e : Option ErrorFlag) : ControlUnit :=
  match e with
  | none => c
  | some f => c.addError f

/-- Publication (R30). -/
def ControlUnit.publish (c : ControlUnit) (header : Word) (result : TakeResult) : ControlUnit :=
  { c with outcome := { sequence := field header 8 8, code := field header 0 5, result := result },
           published := c.errors, errors := Bank.fill 10 false }.post .command

/-- The end of a take: its flag is added, and an answered take publishes (R30, R31). -/
def ControlUnit.report (c : ControlUnit) (header : Word) (result : TakeResult) (e : Option ErrorFlag) : ControlUnit :=
  if flag header 16 then (c.addFlag e).publish header result else c.addFlag e

/-- A take (R26 to R31): the fresh-header flag is cleared whatever the result. -/
def State.take (s : State) : State :=
  let header := s.control.header
  let j := State.judgeTake { s with control := { s.control with freshHeader := false } } s.control.freshHeader
  { j.after with control := j.after.control.report header j.result j.error }

/-- A write of slot word `k` (R25, R26). -/
def State.writeSlot (s : State) (k : Nat) (w : WriteWord) : State :=
  let s := { s with control := s.control.capture k w }
  if k = s.control.trailerPosition then s.take else s

/-- A write of control window word `k` (R22). -/
def State.writeWindow (s : State) (k : Nat) (w : WriteWord) : State :=
  if k = 16 then { s with control := s.control.acknowledge w }
  else if k = 17 then { s with control := s.control.select w }
  else if k = 18 then s.writePort w
  else if 32 ≤ k ∧ k ≤ 47 then s.writeSlot (k - 32) w
  else s

end Sys2Proof.Machine
end

