-- ==== Sys2Proof/Machine/Transit.lean ====
section
/-! DEFINITION. The transit unit (chapter 1): requests and responses, anchoring, the offering of writes, the rewriting of
reads, arbitration, reset. -/

namespace Sys2Proof.Machine

/-! ## Answers and tags (R1 to R3) -/

def State.answer (s : State) (a : HostAnswer) : State := { s with event := { s.event with toHost := some a } }

/-- A tag that R2 accepts: a host tag not in the tag table. -/
def TransitUnit.tagFree (t : TransitUnit) (tag : Nat) : Bool := tag ≤ 31 && (t.tags.get tag).isNone

/-- The request is entered in the tag table and placed at the tail of the forwarded queue (R3, R5, R7). -/
def TransitUnit.enqueue (t : TransitUnit) (tag : Nat) (e : TagEntry) (r : Forwarded) : TransitUnit :=
  { t with tags := t.tags.set tag (some e), forwarded := t.forwarded ++ [r] }

def TransitUnit.clearTag (t : TransitUnit) (tag : Nat) : TransitUnit := { t with tags := t.tags.set tag none }

def State.clearTag (s : State) (tag : Nat) : State := { s with transit := s.transit.clearTag tag }

/-! ## Anchoring (R11 to R13) -/

/-- A WRITE that is examined as an anchor record (R11). -/
def examined (anchor : Option Anchor) (addr : Nat) (words : List WriteWord) : Bool :=
  anchor.isNone && addr == 0x80 && words.length == 8 && words.all fun w => w.lanes == 15#4

/-- The anchor an examined record gives, where every check of R12 holds. -/
def anchorOf (words : List Word) : Option Anchor :=
  let window := (words.getD 1 0#32).toNat
  let page := (words.getD 2 0#32).toNat
  let a : Anchor := { window := window, pageRing := page }
  if words.getD 0 0#32 = 1#32 ∧ field (words.getD 7 0#32) 0 16 = (crc16 (words.take 7)).toNat
      ∧ window % 1024 = 0 ∧ page % 64 = 0 ∧ window + 1023 ≤ topAddress ∧ page + 383 ≤ topAddress
      ∧ !a.windowSpan.overlaps a.pageSpan ∧ !a.windowSpan.overlaps anchorBlock ∧ !a.pageSpan.overlaps anchorBlock then
    some a
  else none

/-- An examined anchor record (R12). -/
def State.examineAnchor (s : State) (words : List WriteWord) : State :=
  match anchorOf (words.map WriteWord.data) with
  | some a => { s with transit := { s.transit with anchor := some a } }
  | none => s.addError .anchor

/-! ## Writes (R5, R15) -/

/-- The regions of a burst, all judged against one state (R4). -/
def State.burstRegions (s : State) (addr count : Nat) : List Region := (List.range count).map fun j => s.classify (addr + j)

def Region.isPinned : Region → Bool
  | .pinned _ => true
  | _ => false

/-- A word offered to its region's listener (R5). -/
def State.offerWord (s : State) (p : Region × WriteWord) : State :=
  match p.1 with
  | .anchorBlock _ => s
  | .window k => s.writeWindow k p.2
  | .playout _ _ => s
  | .sense z offset => s.offerSense z offset p.2
  | .microphone n offset => s.offerMic n offset p.2
  | .earpiece _ _ => s
  | .pageRing offset => s.offerPage offset p.2.data
  | .pinned _ => s
  | .plain => s

/-- The offering of a burst, in ascending order (R5 step 2). -/
def State.offerBurst (s : State) (addr : Nat) (words : List WriteWord) : State :=
  if examined s.transit.anchor addr words then s.examineAnchor words
  else ((s.burstRegions addr words.length).zip words).foldl State.offerWord s

/-- A WRITE passes (R2, R5, R15). None passes while the P-port is closed (R20; log 10). -/
def State.passWrite (s : State) (tag addr : Nat) (words : List WriteWord) : State :=
  if !s.portOpen then s
  else if !s.transit.tagFree tag then s.answer (.done tag .tagFaultStatus)
  else if (s.burstRegions addr words.length).any Region.isPinned then s.answer (.done tag .protectedStatus)
  else
    let s := s.offerBurst addr words
    let e : TagEntry := { isWrite := true, addr := addr, count := words.length }
    { s with transit := s.transit.enqueue tag e (.write tag addr words) }

/-! ## Reads (R2, R7, R8) -/

/-- A READ passes (R2, R7). -/
def State.passRead (s : State) (tag addr count : Nat) : State :=
  if !s.portOpen then s
  else if !s.transit.tagFree tag then s.answer (.data tag .tagFaultStatus [])
  else
    let e : TagEntry := { isWrite := false, addr := addr, count := count }
    { s with transit := s.transit.enqueue tag e (.read tag addr count) }

/-- The word returned to the host for memory's word, by its region (R7, R22). -/
def State.returnedWord (s : State) (r : Region) (word : Word) : Word :=
  match r with
  | .window k => if k ≤ 15 then s.liveWord k else if k = 18 then s.portWord else word
  | .playout z offset => s.playoutWord z (offset % 48) word
  | .earpiece n offset => s.earpieceWord n (offset % 48) word
  | .anchorBlock _ => word
  | .sense _ _ => word
  | .microphone _ _ => word
  | .pageRing _ => word
  | .pinned _ => word
  | .plain => word

/-- The words of an OK response; all against the state as it stood when the response passed (R7). Memory gives as many
words as were asked for; one beyond them would pass unchanged (log 13). -/
def State.rewriteBurst (s : State) (e : TagEntry) (words : List Word) : List Word :=
  (((s.burstRegions e.addr e.count).zip words).map fun p => s.returnedWord p.1 p.2) ++ words.drop e.count

/-- Zone `z` has a playout word among the regions. -/
def holdsPlayout (rs : List Region) (z : Nat) : Bool :=
  rs.any fun r => match r with
    | .playout y _ => y == z
    | _ => false

def holdsPortData (rs : List Region) : Bool := rs.any fun r => r == .window 18

/-- The other effects of an OK response: each zone's watch reloaded once, and the port's increment (R7, R148, R34). -/
def State.readEffects (s : State) (rs : List Region) : State :=
  let s := s.forEach ((List.range 64).filter (holdsPlayout rs)) State.reloadWatch
  if holdsPortData rs then s.advancePort false else s

/-- DATA for a host tag whose entry is a READ (R3, R7, R8). -/
def State.hostData (s : State) (tag : Nat) (e : TagEntry) (status : MemStatus) (words : List Word) : State :=
  let s' := s.clearTag tag
  match status with
  | .fault => s'.answer (.data tag .faultStatus words)
  | .ok => (s'.readEffects (s.burstRegions e.addr e.count)).answer (.data tag .okStatus (s.rewriteBurst e words))

def hostStatusOf : MemStatus → HostStatus
  | .ok => .okStatus
  | .fault => .faultStatus

/-! ## Responses (R3, R6, R18, R20) -/

/-- DATA for an own tag: the tag is freed at once (R18, R89). -/
def State.ownResponse (s : State) (k : Nat) (r : OwnRequest) (status : MemStatus) (words : List Word) : State :=
  State.ownData { s with transit := { s.transit with ownTags := s.transit.ownTags.set k none } } r status words

/-- A response that passes to the host (R3). An answer of the other kind than its request's passes unclassified (log 13). -/
def State.hostResponse (s : State) (tag : Nat) (e : TagEntry) (a : MemAnswer) : State :=
  match a with
  | .data status words =>
    if e.isWrite then (s.clearTag tag).answer (.data tag (hostStatusOf status) words) else s.hostData tag e status words
  | .done status => (s.clearTag tag).answer (.done tag (hostStatusOf status))

/-- The own request tag `tag` names, if one is in the own-tag table. -/
def TransitUnit.ownEntry (t : TransitUnit) (tag : Nat) : Option OwnRequest :=
  if 32 ≤ tag ∧ tag ≤ 63 then t.ownTags.get (tag - 32) else none

/-- The P-port entry of `tag`, if it has one. -/
def TransitUnit.hostEntry (t : TransitUnit) (tag : Nat) : Option TagEntry := if tag ≤ 31 then t.tags.get tag else none

/-- A response with the part's own tag; memory gives a READ no DONE, and one that came would be discarded (log 13). -/
def State.ownAnswer (s : State) (tag : Nat) (r : OwnRequest) (a : MemAnswer) : State :=
  match a with
  | .data status words => s.ownResponse (tag - 32) r status words
  | .done _ => s

/-- A response from memory: discarded and counted off while the P-port is closed (R20), else handled by its tag (R3, R18). -/
def State.memoryReturns (s : State) (tag : Nat) (a : MemAnswer) : State :=
  if !s.portOpen then { s with transit := { s.transit with drain := s.transit.drain - 1 } }
  else match s.transit.ownEntry tag with
    | some r => s.ownAnswer tag r a
    | none =>
      match s.transit.hostEntry tag with
      | some e => s.hostResponse tag e a
      | none => s

/-! ## Arbitration (R18, R19) -/

/-- The lowest-numbered own tag not in the own-tag table, counted from 32. -/
def TransitUnit.freeOwnTag (t : TransitUnit) : Option Nat := (List.range 32).find? fun k => (t.ownTags.get k).isNone

def Forwarded.request : Forwarded → MemRequest
  | .read tag addr count => .read tag addr count
  | .write tag addr words => .write tag addr words

def State.issue (s : State) (t : TransitUnit) (r : MemRequest) : State :=
  { s with transit := t, event := { s.event with toMemory := some r } }

/-- The head of the forwarded queue is issued. -/
def State.issueForwarded (s : State) (r : Forwarded) : State :=
  s.issue { s.transit with forwarded := s.transit.forwarded.tail, turn := .own } r.request

/-- The head of the own queue is issued under the lowest free own tag (R18); there always is one. -/
def State.issueOwn (s : State) (r : OwnRequest) : State :=
  match s.transit.freeOwnTag with
  | none => s
  | some k =>
    s.issue { s.transit with ownQueue := s.transit.ownQueue.tail, ownTags := s.transit.ownTags.set k (some r),
                             turn := .forwarded } (.read (32 + k) r.addr 16)

/-- The M-port can take a request (R19). -/
def State.arbitrate (s : State) : State :=
  match s.transit.forwarded, s.transit.ownQueue, s.transit.turn with
  | [], [], _ => s
  | f :: _, [], _ => s.issueForwarded f
  | [], o :: _, _ => s.issueOwn o
  | f :: _, _ :: _, .forwarded => s.issueForwarded f
  | _ :: _, o :: _, .own => s.issueOwn o

/-! ## Full reset (R20, R21) -/

def Forwarded.tag : Forwarded → Nat
  | .read tag _ _ => tag
  | .write tag _ _ => tag

/-- The requests issued on the M-port whose responses have not come (R20): the P-port entries no longer in the forwarded
queue, and the own tags. -/
def TransitUnit.issuedUnanswered (t : TransitUnit) : Nat :=
  ((List.range 32).filter fun tag => (t.tags.get tag).isSome && !t.forwarded.any fun f => f.tag == tag).length
    + t.ownTags.count Option.isSome

/-- The drain count a reset leaves: 0 at power-up; else the issued requests, with what an earlier reset still waits for
(log 12). -/
def State.drainAfter (s : State) (cause : ResetCause) : Nat :=
  match cause with
  | .power => 0
  | .line => s.transit.drain + s.transit.issuedUnanswered

/-- Full reset (R20, R21, R46, R68, R80, R108, R129, R153, R166, R192): every block takes its reset values, and the line
stays asserted until its release. -/
def State.fullReset (s : State) (cause : ResetCause) : State :=
  State.resetWith cause (s.drainAfter cause) { s.lines with resetAsserted := true } s.freeDraws s.pending

/-- The release of the reset line (R20, R80, R153). -/
def State.releaseReset (s : State) : State := { s with lines := { s.lines with resetAsserted := false } }

end Sys2Proof.Machine
end

