-- ==== Sys2Proof/Machine/Operands.lean ====
section
/-! DEFINITION. From a command's operands to the event it stands for: the bursts the host writes, and the events in time or on
the memory port at which a named thing comes about (log 4, log 5). -/

namespace Sys2Proof.Machine

/-- What a command comes to. -/
abbrev Answer := Host.Outcome State Fault Refusal

/-! ## Bursts -/

/-- A whole word. -/
def wholeWord (data : Word) : WriteWord := { data := data, lanes := 15#4 }

/-- The one-word WRITE of control window word `k`. -/
def State.writeControl (s : State) (a : HostAccess) (k : Nat) (w : WriteWord) : State := s.passWrite a.tag (a.window + k) [w]

/-- The two words of a table write: the selector, then port data (R22, 10.2; log 4). -/
def portBurst (mode : IncMode) (table : PortTable) (index : Nat) (w : WriteWord) : List WriteWord :=
  [wholeWord (selectorWord { table := table, index := index, mode := mode }), w]

/-- A table write with any lanes. -/
def State.writeTableLanes (s : State) (p : PortAccess) (table : PortTable) (index : Nat) (w : WriteWord) : State :=
  s.passWrite p.host.tag (p.host.window + 17) (portBurst p.mode table index w)

/-- A table write of a whole word. -/
def State.writeTableWord (s : State) (p : PortAccess) (table : PortTable) (index : Nat) (data : Word) : State :=
  s.writeTableLanes p table index (wholeWord data)

/-- The words of a command record: header, payload and trailer (11.3). -/
def recordWords (h : CommandHead) (c : Command) : List Word :=
  withCrc (headerWord c.code h.sequence h.answer c.payload.length :: c.payload)

/-- The burst that writes a whole command record into the slot (2.2). -/
def State.writeRecord (s : State) (h : CommandHead) (c : Command) : State :=
  s.passWrite h.host.tag (h.host.window + 32) ((recordWords h c).map wholeWord)

/-- The words of an anchor record (11.2). -/
def anchorWords (r : AnchorRecord) : List Word :=
  [r.format, r.window, r.pageRing, r.word3, r.word4, r.word5, r.word6, r.trailer]

/-! ## Events named by what comes about at them -/

/-- The enclosing event (R93, R105). -/
def State.passDrain (s : State) (e : DrainEvent) : State :=
  match e with
  | .time e => s.passTime e
  | .response tag status words => s.memoryReturns tag (.data status words)

/-- The event `work`, where what the command names comes about at it: `due` compares the state before with the state after.
Where it does not, there is no such event and nothing happens (log 5). -/
def State.runIf (s : State) (due : State → State → Bool) (work : State → State) : State :=
  if due s (s.run work) then s.run work else s

/-- A tick was made (R71). -/
def tickMade (before after : State) : Bool := before.clock.tickCount != after.clock.tickCount

/-- Record `n` entered ENDING with this cause (R92). -/
def endedWith (n : Nat) (cause : EndCause) (before after : State) : Bool :=
  (before.stream n).live && (after.stream n).state == .ending && (after.stream n).endCause == cause

/-- Record `n` of this source entered ENDING with this cause. -/
def sourceEnded (n : Nat) (source : StreamSource) (cause : EndCause) (before after : State) : Bool :=
  (before.stream n).source == source && endedWith n cause before after

/-- Record `n` left ENDING (R93); a PLAY cue of the same event may have used it at once. -/
def leftEnding (n : Nat) (before after : State) : Bool :=
  (before.stream n).state == .ending && (after.stream n).state != .ending

def ControlUnit.busy (c : ControlUnit) (e : Engine) : Bool :=
  match e with
  | .stream => c.busyStream
  | .intercom => c.busyIntercom
  | .showEngine => c.busyShow

/-- The engine left the busy set (R44). -/
def leftBusy (e : Engine) (before after : State) : Bool := before.control.busy e && !after.control.busy e

/-- A tick taken in SOUNDING at which the elapsed count reaches the segment's duration (R145). -/
def segmentEnds (before after : State) : Bool :=
  before.alarm.state == .sounding
    && before.alarm.elapsed + 1 == (before.alarm.segments.get before.alarm.segment).duration && tickMade before after

/-- Zone `z` became silent (R149). -/
def becameSilent (z : Nat) (before after : State) : Bool := !(before.zone z).silent && (after.zone z).silent

/-- The hold count reached 20 (R137). -/
def lineSeen (before after : State) : Bool := before.alarm.holdCount == 19 && after.alarm.holdCount == 20

/-- The tick takes the attention window from 1 to 0 with nothing seen that ends ATTENDED (R139). -/
def windowExpired (before after : State) : Bool :=
  before.alarm.decoder == .attended && before.alarm.window == 1 && tickMade before after
    && !(lineSeen before after && (before.lineState == .rest || before.lineState == .sound))

/-- LOCKED was left for HOLDOVER (R77). -/
def lockExpired (before after : State) : Bool := before.clock.lock == .locked && after.clock.lock == .holdover

/-- A synthesized mark was made at its window's closing (R78). -/
def windowClosedAt (before after : State) : Bool :=
  before.clock.lock == .holdover && before.clock.markCount != after.clock.markCount

/-- A tick takes the follow remaining of the pointer cue from 1 to 0, and the cue fires (R177). -/
def followExpired (before after : State) : Bool :=
  before.theatre.state == .running && before.theatre.pointer < before.theatre.length
    && (before.theatre.cue before.theatre.pointer).trigger == .follow && before.theatre.follow == 1
    && tickMade before after && (after.theatre.cue before.theatre.pointer).state != .waiting

/-- A tick takes the last step of zone `z`'s ramp (R184). -/
def rampEnded (z : Nat) (before after : State) : Bool :=
  (match (before.zone z).ramp with
    | some m => m.ticksLeft == 1
    | none => false) && tickMade before after

/-- The DATA response to a one-word READ of port data: tag `tag` holds such a READ (R34). -/
def State.portReadPending (s : State) (tag : Nat) : Bool :=
  match s.transit.hostEntry tag with
  | some e => !e.isWrite && e.count == 1 && s.classify e.addr == .window 18
  | none => false

end Sys2Proof.Machine
end

