-- ==== Sys2Proof/Machine/Events.lean ====
section
/-! DEFINITION. The meanings of the rows of the clock, the lines, and the events named by what comes about at them (log 5). -/

namespace Sys2Proof.Machine

/-- BUSY_END (R44, R105, R128, R191). -/
def execBusyEnd (engine : Engine) (event : DrainEvent) (s : State) : Answer :=
  .next (s.runIf (leftBusy engine) fun s => s.passDrain event)

/-- STREAM_FREE (R93). -/
def execStreamFree (record : Nat) (event : DrainEvent) (s : State) : Answer :=
  .next (s.runIf (leftEnding record) fun s => s.passDrain event)

/-- SAMPLE_CLOCK_EDGE (R69, R72, R73). -/
def execSampleClockEdge (gap : Nat) (order : Interleave) (s : State) : Answer :=
  .next (s.run fun s => s.clockEdge gap order)

/-- GAP_EXPIRY (R72). -/
def execGapExpiry (order : Interleave) (s : State) : Answer :=
  .next (s.run fun s => s.expireGap order)

/-- INTERNAL_STEP (R70). -/
def execInternalStep (order : Interleave) (s : State) : Answer :=
  .next (s.run fun s => s.referenceStep order)

/-- TICK (R71). -/
def execTick (event : TimeEvent) (s : State) : Answer :=
  .next (s.runIf tickMade fun s => s.passTime event)

/-- CLIP_COMPLETE (R91). -/
def execClipComplete (record : Nat) (event : TimeEvent) (s : State) : Answer :=
  .next (s.runIf (sourceEnded record .clip .complete) fun s => s.passTime event)

/-- PAGE_TIMEOUT (R100). -/
def execPageTimeout (record : Nat) (event : TimeEvent) (s : State) : Answer :=
  .next (s.runIf (sourceEnded record .live .pageTimeout) fun s => s.passTime event)

/-- SEGMENT_ADVANCE (R145). -/
def execSegmentAdvance (event : TimeEvent) (s : State) : Answer :=
  .next (s.runIf segmentEnds fun s => s.passTime event)

/-- ZONE_SILENT (R149). -/
def execZoneSilent (zone : Nat) (event : TimeEvent) (s : State) : Answer :=
  .next (s.runIf (becameSilent zone) fun s => s.passTime event)

/-- PANEL_LINE_CHANGE (R136, R137). -/
def execPanelLineChange (lineA lineB : Bool) (s : State) : Answer :=
  .next (s.run fun s => s.changePanel lineA lineB)

/-- LINE_STATE_SEEN (R137 to R141). -/
def execLineStateSeen (event : TimeEvent) (s : State) : Answer :=
  .next (s.runIf lineSeen fun s => s.passTime event)

/-- ATTENTION_WINDOW_EXPIRY (R139). -/
def execAttentionWindowExpiry (event : TimeEvent) (s : State) : Answer :=
  .next (s.runIf windowExpired fun s => s.passTime event)

/-- SHOW_MARK (R76 to R79). -/
def execShowMark (s : State) : Answer :=
  .next (s.run State.showPulse)

/-- LOCK_EXPIRY (R77). -/
def execLockExpiry (event : TimeEvent) (s : State) : Answer :=
  .next (s.runIf lockExpired fun s => s.passTime event)

/-- HOLDOVER_WINDOW_CLOSE (R78). -/
def execHoldoverWindowClose (event : TimeEvent) (s : State) : Answer :=
  .next (s.runIf windowClosedAt fun s => s.passTime event)

/-- FOLLOW_EXPIRY (R177). -/
def execFollowExpiry (event : TimeEvent) (s : State) : Answer :=
  .next (s.runIf followExpired fun s => s.passTime event)

/-- LEVEL_RAMP_END (R184). -/
def execLevelRampEnd (zone : Nat) (event : TimeEvent) (s : State) : Answer :=
  .next (s.runIf (rampEnded zone) fun s => s.passTime event)

end Sys2Proof.Machine
end

