-- ==== Sys2Proof/Machine/TableWrites.lean ====
section
/-! DEFINITION. The meanings of the rows that write a table word through the port (R35, R36). -/

namespace Sys2Proof.Machine

/-- CONFIG_WRITE (R38). -/
def execConfigWrite (p : PortAccess) (index : Nat) (data : Word) (s : State) : Answer :=
  .next (s.run fun s => s.writeTableWord p .config index data)

/-- ZONE_MAP (R51, R52). -/
def execZoneMap (p : PortAccess) (zone : Nat) (shape : ZoneShape) (s : State) : Answer :=
  .next (s.run fun s => s.writeTableWord p .zone (8 * zone) (zoneWord0 true shape))

/-- ZONE_UNMAP (R55, R56). -/
def execZoneUnmap (p : PortAccess) (zone : Nat) (shape : ZoneShape) (s : State) : Answer :=
  .next (s.run fun s => s.writeTableWord p .zone (8 * zone) (zoneWord0 false shape))

/-- ZONE_FIELD_WRITE (R50, R53, R54). -/
def execZoneFieldWrite (p : PortAccess) (zone word : Nat) (data : Word) (s : State) : Answer :=
  .next (s.run fun s => s.writeTableWord p .zone (8 * zone + word) data)

/-- STATION_ACTIVATE (R112). -/
def execStationActivate (p : PortAccess) (station ringPeriods : Nat) (s : State) : Answer :=
  .next (s.run fun s => s.writeTableWord p .station (6 * station) (stationWord0 true ringPeriods))

/-- STATION_DEACTIVATE (R113). -/
def execStationDeactivate (p : PortAccess) (station ringPeriods : Nat) (s : State) : Answer :=
  .next (s.run fun s => s.writeTableWord p .station (6 * station) (stationWord0 false ringPeriods))

/-- STATION_FIELD_WRITE (R111). -/
def execStationFieldWrite (p : PortAccess) (station word : Nat) (data : Word) (s : State) : Answer :=
  .next (s.run fun s => s.writeTableWord p .station (6 * station + word) data)

/-- GROUP_DEFINE (R115). -/
def execGroupDefine (p : PortAccess) (group : Nat) (essential : Bool) (s : State) : Answer :=
  .next (s.run fun s => s.writeTableWord p .group (4 * group) (groupWord0 true essential))

/-- GROUP_UNDEFINE (R115). -/
def execGroupUndefine (p : PortAccess) (group : Nat) (essential : Bool) (s : State) : Answer :=
  .next (s.run fun s => s.writeTableWord p .group (4 * group) (groupWord0 false essential))

/-- GROUP_GAIN_WRITE (R114). -/
def execGroupGainWrite (p : PortAccess) (group word : Nat) (data : Word) (s : State) : Answer :=
  .next (s.run fun s => s.writeTableWord p .group (4 * group + word) data)

/-- CUE_WRITE (R170). -/
def execCueWrite (p : PortAccess) (cue word : Nat) (data : Word) (s : State) : Answer :=
  .next (s.run fun s => s.writeTableWord p .cue (4 * cue + word) data)

/-- LIST_LENGTH_WRITE (R171). -/
def execListLengthWrite (p : PortAccess) (data : Word) (s : State) : Answer :=
  .next (s.run fun s => s.writeTableWord p .cue 1024 data)

/-- PATTERN_WRITE (R144). -/
def execPatternWrite (p : PortAccess) (word : Nat) (data : Word) (s : State) : Answer :=
  .next (s.run fun s => s.writeTableWord p .pattern word data)

/-- READ_ONLY_TABLE_WRITE (R35). -/
def execReadOnlyTableWrite (p : PortAccess) (table : PortTable) (index : Nat) (w : WriteWord) (s : State) : Answer :=
  .next (s.run fun s => s.writeTableLanes p table index w)

end Sys2Proof.Machine
end

