-- ==== Sys2Proof/Machine/Takes.lean ====
section
/-! DEFINITION. The meanings of the command records: each is one burst into the command slot, taken at its trailer (R25 to R31). -/

namespace Sys2Proof.Machine

/-- ANS with source CLIP (R85 to R88). -/
def execAnsClip (h : CommandHead) (priority : Nat) (zones : ZoneSet) (clipBase clipPeriods repeats : Nat) (s : State) : Answer :=
  .next (s.run fun s => s.writeRecord h (.ansClip priority zones clipBase clipPeriods repeats))

/-- ANS with source LIVE (R85 to R87, R95). -/
def execAnsLive (h : CommandHead) (priority : Nat) (zones : ZoneSet) (s : State) : Answer :=
  .next (s.run fun s => s.writeRecord h (.ansLive priority zones))

/-- ANS with source GROUP (R85 to R87, R101). -/
def execAnsGroup (h : CommandHead) (priority : Nat) (zones : ZoneSet) (group : Nat) (s : State) : Answer :=
  .next (s.run fun s => s.writeRecord h (.ansGroup priority zones group))

/-- ANX (R94). -/
def execAnx (h : CommandHead) (index : Nat) (s : State) : Answer :=
  .next (s.run fun s => s.writeRecord h (.anx index))

/-- PGC (R99). -/
def execPgc (h : CommandHead) (s : State) : Answer :=
  .next (s.run fun s => s.writeRecord h .pgc)

/-- ICT (R125). -/
def execIct (h : CommandHead) (station group : Nat) (s : State) : Answer :=
  .next (s.run fun s => s.writeRecord h (.ict station group))

/-- ICL (R126). -/
def execIcl (h : CommandHead) (station : Nat) (groups : Word) (s : State) : Answer :=
  .next (s.run fun s => s.writeRecord h (.icl station groups))

/-- ALS (R132). -/
def execAls (h : CommandHead) (s : State) : Answer :=
  .next (s.run fun s => s.writeRecord h .als)

/-- ASI (R133). -/
def execAsi (h : CommandHead) (s : State) : Answer :=
  .next (s.run fun s => s.writeRecord h .asi)

/-- AEN (R134). -/
def execAen (h : CommandHead) (s : State) : Answer :=
  .next (s.run fun s => s.writeRecord h .aen)

/-- SVR (R164). -/
def execSvr (h : CommandHead) (zones : ZoneSet) (s : State) : Answer :=
  .next (s.run fun s => s.writeRecord h (.svr zones))

/-- SHG (R172). -/
def execShg (h : CommandHead) (s : State) : Answer :=
  .next (s.run fun s => s.writeRecord h .shg)

/-- SHH (R186). -/
def execShh (h : CommandHead) (s : State) : Answer :=
  .next (s.run fun s => s.writeRecord h .shh)

/-- SHR (R189). -/
def execShr (h : CommandHead) (s : State) : Answer :=
  .next (s.run fun s => s.writeRecord h .shr)

/-- SHS (R173). -/
def execShs (h : CommandHead) (s : State) : Answer :=
  .next (s.run fun s => s.writeRecord h .shs)

/-- PIN (R16). -/
def execPin (h : CommandHead) (base length : Nat) (s : State) : Answer :=
  .next (s.run fun s => s.writeRecord h (.pin base length))

/-- UNP (R17). -/
def execUnp (h : CommandHead) (entry : Nat) (s : State) : Answer :=
  .next (s.run fun s => s.writeRecord h (.unp entry))

/-- RST ALL (R43, R105, R128, R191). -/
def execRstAll (h : CommandHead) (s : State) : Answer :=
  .next (s.run fun s => s.writeRecord h (.rst 1))

/-- RST INTERCOM (R43, R105, R128). -/
def execRstIntercom (h : CommandHead) (s : State) : Answer :=
  .next (s.run fun s => s.writeRecord h (.rst 2))

/-- RST SHOW (R43, R191). -/
def execRstShow (h : CommandHead) (s : State) : Answer :=
  .next (s.run fun s => s.writeRecord h (.rst 3))

/-- CNC (R45). -/
def execCnc (h : CommandHead) (zones : ZoneSet) (stations : Word) (page : Nat) (s : State) : Answer :=
  .next (s.run fun s => s.writeRecord h (.cnc zones stations page))

end Sys2Proof.Machine
end

