-- ==== Sys2Proof/Machine/Traffic.lean ====
section
/-! DEFINITION. The meanings of the rows of the two ports and of full reset (chapter 1). -/

namespace Sys2Proof.Machine

/-- READ_REQUEST (R2, R7). -/
def execReadRequest (tag addr count : Nat) (s : State) : Answer :=
  .next (s.run fun s => s.passRead tag addr count)

/-- WRITE_REQUEST (R2, R5, R15). -/
def execWriteRequest (tag addr : Nat) (words : List WriteWord) (s : State) : Answer :=
  .next (s.run fun s => s.passWrite tag addr words)

/-- ARBITER_ISSUE (R18, R19). -/
def execArbiterIssue (s : State) : Answer :=
  .next (s.run State.arbitrate)

/-- DATA_RESPONSE (R7, R8). -/
def execDataResponse (tag : Nat) (status : MemStatus) (words : List Word) (s : State) : Answer :=
  .next (s.run fun s => s.memoryReturns tag (.data status words))

/-- DONE_RESPONSE (R6). -/
def execDoneResponse (tag : Nat) (status : MemStatus) (s : State) : Answer :=
  .next (s.run fun s => s.memoryReturns tag (.done status))

/-- OWN_RESPONSE (R18, R89). -/
def execOwnResponse (tag : Nat) (status : MemStatus) (words : List Word) (s : State) : Answer :=
  .next (s.run fun s => s.memoryReturns tag (.data status words))

/-- UNMATCHED_RESPONSE (R3). -/
def execUnmatchedResponse (tag : Nat) (answer : MemAnswer) (s : State) : Answer :=
  .next (s.run fun s => s.memoryReturns tag answer)

/-- PORT_DATA_READ (R34, R36): the response to a pending one-word READ of port data; without one there is no such event
(log 5). -/
def execPortDataRead (tag : Nat) (status : MemStatus) (word : Word) (s : State) : Answer :=
  if s.portReadPending tag then .next (s.run fun s => s.memoryReturns tag (.data status [word])) else .next s

/-- FULL_RESET (R20, R21). -/
def execFullReset (cause : ResetCause) (s : State) : Answer :=
  .next (s.run fun s => s.fullReset cause)

/-- RESET_RELEASE (R20, R80). -/
def execResetRelease (s : State) : Answer :=
  .next (s.run State.releaseReset)

/-- DRAIN_RESPONSE (R20). -/
def execDrainResponse (tag : Nat) (answer : MemAnswer) (s : State) : Answer :=
  .next (s.run fun s => s.memoryReturns tag answer)

/-- ANCHOR_RECORD (R11 to R13): the 8-word burst at 0x80 with all lanes enabled. -/
def execAnchorRecord (tag : Nat) (record : AnchorRecord) (s : State) : Answer :=
  .next (s.run fun s => s.passWrite tag 0x80 ((anchorWords record).map wholeWord))

end Sys2Proof.Machine
end

