-- ==== Sys2Proof/Machine/WindowWrites.lean ====
section
/-! DEFINITION. The meanings of the rows that write one control window word (chapter 2). -/

namespace Sys2Proof.Machine

/-- NOTICE_ACKNOWLEDGE (R41). -/
def execNoticeAcknowledge (a : HostAccess) (w : WriteWord) (s : State) : Answer :=
  .next (s.run fun s => s.writeControl a 16 w)

/-- PORT_SELECTOR_WRITE (R33). -/
def execPortSelectorWrite (a : HostAccess) (w : WriteWord) (s : State) : Answer :=
  .next (s.run fun s => s.writeControl a 17 w)

/-- CONTROL_WORD_WRITE (R22, R25). -/
def execControlWordWrite (a : HostAccess) (k : Nat) (w : WriteWord) (s : State) : Answer :=
  .next (s.run fun s => s.writeControl a k w)

end Sys2Proof.Machine
end

