-- ==== Sys2Proof/Machine/Dispatch.lean ====
section
/-! DEFINITION. One arm per command. -/

namespace Sys2Proof.Machine

def exec (i : Instr) (s : State) : Host.Outcome State Fault Refusal :=
  match i with
  | .readRequest tag addr count => Sys2Proof.Machine.execReadRequest tag addr count s
  | .writeRequest tag addr words => Sys2Proof.Machine.execWriteRequest tag addr words s
  | .arbiterIssue => Sys2Proof.Machine.execArbiterIssue s
  | .dataResponse tag status words => Sys2Proof.Machine.execDataResponse tag status words s
  | .doneResponse tag status => Sys2Proof.Machine.execDoneResponse tag status s
  | .ownResponse tag status words => Sys2Proof.Machine.execOwnResponse tag status words s
  | .unmatchedResponse tag answer => Sys2Proof.Machine.execUnmatchedResponse tag answer s
  | .portDataRead tag status word => Sys2Proof.Machine.execPortDataRead tag status word s
  | .fullReset cause => Sys2Proof.Machine.execFullReset cause s
  | .resetRelease => Sys2Proof.Machine.execResetRelease s
  | .drainResponse tag answer => Sys2Proof.Machine.execDrainResponse tag answer s
  | .anchorRecord tag record => Sys2Proof.Machine.execAnchorRecord tag record s
  | .noticeAcknowledge a w => Sys2Proof.Machine.execNoticeAcknowledge a w s
  | .portSelectorWrite a w => Sys2Proof.Machine.execPortSelectorWrite a w s
  | .controlWordWrite a k w => Sys2Proof.Machine.execControlWordWrite a k w s
  | .configWrite p index data => Sys2Proof.Machine.execConfigWrite p index data s
  | .zoneMap p zone shape => Sys2Proof.Machine.execZoneMap p zone shape s
  | .zoneUnmap p zone shape => Sys2Proof.Machine.execZoneUnmap p zone shape s
  | .zoneFieldWrite p zone word data => Sys2Proof.Machine.execZoneFieldWrite p zone word data s
  | .stationActivate p station ringPeriods => Sys2Proof.Machine.execStationActivate p station ringPeriods s
  | .stationDeactivate p station ringPeriods => Sys2Proof.Machine.execStationDeactivate p station ringPeriods s
  | .stationFieldWrite p station word data => Sys2Proof.Machine.execStationFieldWrite p station word data s
  | .groupDefine p group essential => Sys2Proof.Machine.execGroupDefine p group essential s
  | .groupUndefine p group essential => Sys2Proof.Machine.execGroupUndefine p group essential s
  | .groupGainWrite p group word data => Sys2Proof.Machine.execGroupGainWrite p group word data s
  | .cueWrite p cue word data => Sys2Proof.Machine.execCueWrite p cue word data s
  | .listLengthWrite p data => Sys2Proof.Machine.execListLengthWrite p data s
  | .patternWrite p word data => Sys2Proof.Machine.execPatternWrite p word data s
  | .readOnlyTableWrite p table index w => Sys2Proof.Machine.execReadOnlyTableWrite p table index w s
  | .ansClip h priority zones clipBase clipPeriods repeats => Sys2Proof.Machine.execAnsClip h priority zones clipBase clipPeriods repeats s
  | .ansLive h priority zones => Sys2Proof.Machine.execAnsLive h priority zones s
  | .ansGroup h priority zones group => Sys2Proof.Machine.execAnsGroup h priority zones group s
  | .anx h index => Sys2Proof.Machine.execAnx h index s
  | .pgc h => Sys2Proof.Machine.execPgc h s
  | .ict h station group => Sys2Proof.Machine.execIct h station group s
  | .icl h station groups => Sys2Proof.Machine.execIcl h station groups s
  | .als h => Sys2Proof.Machine.execAls h s
  | .asi h => Sys2Proof.Machine.execAsi h s
  | .aen h => Sys2Proof.Machine.execAen h s
  | .svr h zones => Sys2Proof.Machine.execSvr h zones s
  | .shg h => Sys2Proof.Machine.execShg h s
  | .shh h => Sys2Proof.Machine.execShh h s
  | .shr h => Sys2Proof.Machine.execShr h s
  | .shs h => Sys2Proof.Machine.execShs h s
  | .pin h base length => Sys2Proof.Machine.execPin h base length s
  | .unp h entry => Sys2Proof.Machine.execUnp h entry s
  | .rstAll h => Sys2Proof.Machine.execRstAll h s
  | .rstIntercom h => Sys2Proof.Machine.execRstIntercom h s
  | .rstShow h => Sys2Proof.Machine.execRstShow h s
  | .cnc h zones stations page => Sys2Proof.Machine.execCnc h zones stations page s
  | .busyEnd engine event => Sys2Proof.Machine.execBusyEnd engine event s
  | .streamFree record event => Sys2Proof.Machine.execStreamFree record event s
  | .sampleClockEdge gap order => Sys2Proof.Machine.execSampleClockEdge gap order s
  | .gapExpiry order => Sys2Proof.Machine.execGapExpiry order s
  | .internalStep order => Sys2Proof.Machine.execInternalStep order s
  | .tick event => Sys2Proof.Machine.execTick event s
  | .clipComplete record event => Sys2Proof.Machine.execClipComplete record event s
  | .pageTimeout record event => Sys2Proof.Machine.execPageTimeout record event s
  | .segmentAdvance event => Sys2Proof.Machine.execSegmentAdvance event s
  | .zoneSilent zone event => Sys2Proof.Machine.execZoneSilent zone event s
  | .panelLineChange lineA lineB => Sys2Proof.Machine.execPanelLineChange lineA lineB s
  | .lineStateSeen event => Sys2Proof.Machine.execLineStateSeen event s
  | .attentionWindowExpiry event => Sys2Proof.Machine.execAttentionWindowExpiry event s
  | .showMark => Sys2Proof.Machine.execShowMark s
  | .lockExpiry event => Sys2Proof.Machine.execLockExpiry event s
  | .holdoverWindowClose event => Sys2Proof.Machine.execHoldoverWindowClose event s
  | .followExpiry event => Sys2Proof.Machine.execFollowExpiry event s
  | .levelRampEnd zone event => Sys2Proof.Machine.execLevelRampEnd zone event s

end Sys2Proof.Machine
end

