-- ==== Sys2Proof/Safety.lean ====
section
/-! DEFINITION. What the statements about the part are said with: when it hears a request, what an event begins from, and the
laws every step keeps. -/

namespace Sys2Proof.Machine

/-! ## Hearing a request -/

/-- The state an event's work begins from: the record of the event before it is gone. -/
def State.begun (s : State) : State := { s with event := EventRecord.none }

/-- The P-port takes a request under this tag (R2, R20). -/
def State.accepts (s : State) (tag : Nat) : Bool := s.portOpen && s.transit.tagFree tag

/-- The control window lies at `window`, clear of the anchor block, as every accepted anchor record leaves it (R12). -/
def State.windowAt (s : State) (window : Nat) : Bool :=
  match s.transit.anchor with
  | none => false
  | some a => a.window == window && 0x88 ≤ window

/-- A WRITE into the control window is taken: the part is anchored there and accepts the tag. -/
def State.hears (s : State) (a : HostAccess) : Bool := s.accepts a.tag && s.windowAt a.window

/-- A request queued for the M-port (R3, R19). -/
def State.queued (s : State) (tag : Nat) (e : TagEntry) (r : Forwarded) : State :=
  { s with transit := s.transit.enqueue tag e r }

/-! ## The slot as a take finds it -/

/-- The captured slot with these words in its first places and the fresh-header flag clear, as the take of a record written
in one burst finds it (R25, R26). -/
def State.slotHolding (s : State) (ws : List Word) : State :=
  { s with control := { s.control with
      captured := Bank.ofFn 16 fun k => if k < ws.length then ws.getD k 0#32 else s.control.captured.get k,
      freshHeader := false } }

/-- The state the own rule of a command written as one record acts on. -/
def State.atTake (s : State) (h : CommandHead) (c : Command) : State := s.begun.slotHolding (recordWords h c)

/-- What the take leaves of the state `t` that the command came to: its report, the burst queued, the latching. -/
def State.afterTake (t : State) (h : CommandHead) (c : Command) (result : TakeResult) (e : Option ErrorFlag) : State :=
  let words := (recordWords h c).map wholeWord
  let entry : TagEntry := { isWrite := true, addr := h.host.window + 32, count := words.length }
  (State.queued { t with control := t.control.report (headerWord c.code h.sequence h.answer c.payload.length) result e }
    h.host.tag entry (.write h.host.tag (h.host.window + 32) words)).latch

/-- The row and the command of an ANS with this source. -/
def ansRow (h : CommandHead) (priority : Nat) (zones : ZoneSet) : StartSource → Instr
  | .clip base periods repeats => .ansClip h priority zones base periods repeats
  | .live => .ansLive h priority zones
  | .group g => .ansGroup h priority zones g

def ansCommand (priority : Nat) (zones : ZoneSet) : StartSource → Command
  | .clip base periods repeats => .ansClip priority zones base periods repeats
  | .live => .ansLive priority zones
  | .group g => .ansGroup priority zones g

/-! ## A table write -/

/-- The state a word of a table is offered to: the burst has set the selector. -/
def State.atPort (s : State) (p : PortAccess) (table : PortTable) (index : Nat) : State :=
  { s.begun with control := { s.control with selector := { table := table, index := index, mode := p.mode } } }

/-- What the table write leaves of the state `t` that the owner's answer came to: the post-increment, the burst queued, the
latching. -/
def State.afterPort (t : State) (p : PortAccess) (table : PortTable) (index : Nat) (w : WriteWord) : State :=
  let entry : TagEntry := { isWrite := true, addr := p.host.window + 17, count := 2 }
  ((t.advancePort true).queued p.host.tag entry
    (.write p.host.tag (p.host.window + 17) (portBurst p.mode table index w))).latch

/-- A table write that its owner accepted, with `t` what it came to. -/
def State.tableWritten (t : State) (p : PortAccess) (table : PortTable) (index : Nat) (data : Word) : Answer :=
  .next (t.afterPort p table index (wholeWord data))

/-- A refused table write: PORT_REFUSED is added and the table stays as it was (R35). -/
def State.tableRefused (s : State) (p : PortAccess) (table : PortTable) (index : Nat) (data : Word) : Answer :=
  State.tableWritten ((s.atPort p table index).addError .portRefused) p table index data

/-- A take that is accepted, with `t` what the command came to (R27). -/
def State.commandAccepted (t : State) (h : CommandHead) (c : Command) (value : Nat) : Answer :=
  .next (t.afterTake h c (.accepted value) none)

/-- A take that check 6 refuses: no block's state changes (R27). -/
def State.commandRefused (s : State) (h : CommandHead) (c : Command) (reason : Reason) : Answer :=
  .next ((s.atTake h c).afterTake h c (.refused reason) (some .refused))

/-- The operands of a command fit the fields of its record (11.3). -/
def Command.fits : Command → Bool
  | .ansClip priority _ base periods repeats =>
    priority ≤ 15 && wordOk base && periods ≤ 65535 && repeats ≤ 255
  | .ansLive priority _ => priority ≤ 15
  | .ansGroup priority _ group => priority ≤ 15 && group ≤ 255
  | .ansNone => false
  | .anx index => wordOk index
  | .pgc => true
  | .ict station group => station ≤ 255 && group ≤ 31
  | .icl station _ => station ≤ 255
  | .als => true
  | .asi => true
  | .aen => true
  | .svr _ => true
  | .shg => true
  | .shh => true
  | .shr => true
  | .shs => true
  | .pin base length => wordOk base && wordOk length
  | .unp entry => wordOk entry
  | .rst scope => wordOk scope
  | .cnc _ _ page => wordOk page

/-! ## Events in time -/

/-- The time event makes a tick: the step in charge takes the tick phase from 47, or an expired gap takes it to 48 or beyond
(R69, R70, R72). -/
def State.ticksAt (s : State) (e : TimeEvent) : Bool :=
  match e with
  | .nextStep _ _ => !s.lines.resetAsserted && s.clock.tickPhase == 47
  | .gapExpiry _ => !s.lines.resetAsserted && s.clock.source == .line && s.clock.tickDue 3

/-- No cue is considered at an event that leaves the show as it is: the show does not run, or has no pointer cue. -/
def State.showRests (s : State) : Bool := s.theatre.state != .running || s.theatre.length ≤ s.theatre.pointer

/-- No line state is seen at the next tick (R137). -/
def State.panelRests (s : State) : Bool := s.alarm.holdCount != 19

/-- The step of the source in charge is one the lock machine answers: LOCKED or HOLDOVER with its window closing (R77, R78). -/
def State.windowCloses (s : State) : Bool :=
  !s.lines.resetAsserted && s.clock.stepCount < 65535 && s.clock.lockedInterval + 16 ≤ s.clock.stepCount + 1

/-- What a WRITE of one word leaves of the state `t` that its listener came to: the request queued, the latching. -/
def State.afterWord (t : State) (tag addr : Nat) (w : WriteWord) : State :=
  (t.queued tag { isWrite := true, addr := addr, count := 1 } (.write tag addr [w])).latch

/-! ## Laws -/

/-- R40: a kind is in service, or none is pending and unmasked. -/
def State.settled (s : State) : Bool := s.control.inService.isSome || noticeKinds.all fun k => !s.control.latchable k

/-- The ranges of the clock unit's registers (chapter 4). -/
structure ClockLaw (s : State) : Prop where
  tickPhase : s.clock.tickPhase < 48
  offRun : s.clock.offRun < 48
  goodRun : s.clock.goodRun < 480
  tickCount : s.clock.tickCount < 4294967296
  markCount : s.clock.markCount < 16777216
  stepCount : s.clock.stepCount ≤ 65535
  acquisitionRun : s.clock.acquisitionRun < 6
  synthesized : s.clock.synthesized < 24
  lockedInterval : s.clock.lockedInterval = 0 ∨ (800 ≤ s.clock.lockedInterval ∧ s.clock.lockedInterval ≤ 2000)

/-- Every counter of the COUNTER table stays within 0 to 255 (R37). -/
structure CounterLaw (s : State) : Prop where
  silentEvents : ∀ z < 64, (s.zone z).silentEvents ≤ 255
  failingPeriods : ∀ z < 64, (s.zone z).failingPeriods ≤ 255
  torn : ∀ n < 32, (s.station n).torn ≤ 255
  dropped : s.page.dropped ≤ 255
  stray : s.page.strayCount ≤ 255

/-- What the alarm forbids: a fallback line in QUIET (R152), a live stream in SOUNDING and one below priority 7 in MUSTER
(R102), a RUNNING show in either (R168). -/
structure AlarmLaw (s : State) : Prop where
  released : s.alarm.state = .quiet → ∀ g < 8, s.alarm.fallback.get g = false
  sounding : s.alarm.state = .sounding → ∀ n < 8, (s.stream n).live = false
  muster : s.alarm.state = .muster → ∀ n < 8, (s.stream n).live = true → (s.stream n).priority = 7
  held : s.alarm.state ≠ .quiet → s.theatre.state ≠ .running

/-- A record that is FREE, or ENDING past its first tick there. -/
def StreamRecord.atRest (r : StreamRecord) : Bool := r.state == .free || (r.state == .ending && r.drained)

/-- A LIVE record that is not FREE: while there is one, no other page starts (R85). -/
def StreamRecord.holdsPage (r : StreamRecord) : Bool := r.source == .live && r.state != .free

/-- The slot queues of R83, each slot with a buffer of its own and only the last of them FILLING, with what keeps them so: one LIVE
record at a time (R85), none of its slots FILLING without a capture (R95 to R97), no GROUP slot FILLING; the empty zone set of a
record at rest (R84, R93); the own queue by stream index, lowest first (R19), and every own request made for one of the eight
streams (R18). -/
structure StreamLaw (s : State) : Prop where
  short : ∀ n < 8, (s.stream n).queue.length ≤ 4
  buffers : ∀ n < 8, ((s.stream n).queue.map fun x => x.buffer).Nodup ∧ ∀ x ∈ (s.stream n).queue, x.buffer < 4
  headReady : ∀ n < 8, (s.stream n).current = true → (s.stream n).headReady = true
  emptied : ∀ n < 8, (s.stream n).atRest = true → (s.stream n).queue = [] ∧ s.zoneSetOf n = []
  fillingLast : ∀ n < 8, ∀ x ∈ (s.stream n).queue.dropLast, x.ready = true
  groupReady : ∀ n < 8, (s.stream n).source = .group → ∀ x ∈ (s.stream n).queue, x.ready = true
  captured : s.page.capture = none → ∀ n < 8, (s.stream n).source = .live → (s.stream n).live = true →
    ∀ x ∈ (s.stream n).queue, x.ready = true
  oneLive : ∀ m < 8, ∀ n < 8, (s.stream m).holdsPage = true → (s.stream n).holdsPage = true → m = n
  ownOrder : s.transit.ownQueue.Pairwise fun a b => a.stream ≤ b.stream
  waiting : ∀ r ∈ s.transit.ownQueue, r.stream < 8
  inFlight : ∀ k < 32, ∀ r, s.transit.ownTags.get k = some r → r.stream < 8

/-- Talk and listen: a station that talks is active, its group is defined and in its listen set (R113, R115, R124, R125), no
group has more than 6 talkers (R125), and no listen set more than 4 groups (R126). -/
structure IntercomLaw (s : State) : Prop where
  talks : ∀ n < 32, ∀ g, (s.station n).talk = some g → g < 16 ∧ (s.station n).active = true ∧ (s.group g).defined = true
    ∧ (s.station n).listen.get g = true
  talkers : ∀ g < 16, s.talkerCount g ≤ 6
  listens : ∀ n < 32, ((List.range 16).filter (s.station n).listen.get).length ≤ 4

/-- What a group's filling sum is: at each position the sum of the own-filling samples of its talkers (R110); and a station
without a talk group has none (R116, R125). -/
structure GroupSumLaw (s : State) : Prop where
  filling : ∀ g < 16, ∀ i < 48, (s.group g).filling.get i
    = ((List.range 32).map fun n => if (s.station n).talk = some g then (s.station n).ownFilling.get i else 0).sum
  untalked : ∀ n < 32, (s.station n).talk = none → ∀ i < 48, (s.station n).ownFilling.get i = 0

/-- The levels of the THEATRE zones: at the program gain with no ramp while the show is IDLE or STOPPED (R185), and between 0 and
4096 always, with a ramp that does not pass its target (R184). -/
structure LevelLaw (s : State) : Prop where
  house : s.theatre.state = .idle ∨ s.theatre.state = .stopped → ∀ z < 64, (s.zone z).mapped = true →
    (s.zone z).kind = .theatreZone →
    (s.zone z).level = (s.zone z).programGain ∧ (s.zone z).levelTarget = (s.zone z).programGain ∧ (s.zone z).ramp = none
  gain : ∀ z < 64, (s.zone z).programGain ≤ 4096
  level : ∀ z < 64, (s.zone z).level ≤ 4096
  target : ∀ z < 64, (s.zone z).levelTarget ≤ 4096
  ramp : ∀ z < 64, ∀ m, (s.zone z).ramp = some m →
    (0 < m.step → (s.zone z).level + m.ticksLeft * m.step ≤ (s.zone z).levelTarget)
    ∧ (m.step < 0 → ((s.zone z).levelTarget : Int) ≤ (s.zone z).level + m.ticksLeft * m.step)
  snapshot : ∀ h, s.theatre.snapshot = some h → ∀ z < 64, ∀ l, h.levels.get z = some l → l ≤ 4096

/-- The regions of R4 are pairwise disjoint, and an unanchored part has none but the anchor block (R9). -/
structure RegionLaw (s : State) : Prop where
  disjoint : s.regions.Pairwise fun p q => p.overlaps q = false
  unanchored : s.transit.anchor = none → s.regions = [anchorBlock]

end Sys2Proof.Machine
end

