-- ==== Sys2Proof/Certificates/Slice0/Obligations.lean ====
section
/-! DEFINITION. The statements about the part. Every result is that of `exec` on every state that meets the hypotheses; a result
written as one record update is also the command's frame. -/

open Sys2Proof Sys2Proof.Machine

/-! ## The queue -/

/-- A step takes the command at the front of the queue and answers what it comes to on the queue's rest (log 1). -/
def Obligations.StepRunsFrontCommand : Prop :=
  ∀ (c : Instr) (rest : List Instr) (s : State), step { s with pending := c :: rest } = exec c { s with pending := rest }

/-- Every command answers a next state in every state: the part has no stop. On operands outside Instr.wellFormed that is the
model's choice (log 27), and so it is for a row whose named event does not come about, which leaves the state as it is (log 5). -/
def Obligations.EveryCommandAnswersNext : Prop := ∀ (c : Instr) (s : State), ∃ t, exec c s = .next t

/-! ## Reset -/

/-- The values of the reset tables that the manual gives (R21, R46 to R48, R80, R108 to R110, R129, R153, R155, R167, R169, R192).
`State.reset` is the part after the release of a power-up reset with both panel contacts open, and its queue and the model's own
records are empty: those are the model's choices (log 11, log 1, log 2, log 9). -/
def Obligations.ResetHoldsTheManualsValues : Prop :=
  let s := State.reset
  (s.transit.anchor = none ∧ s.transit.forwarded = [] ∧ s.transit.ownQueue = [] ∧ s.transit.turn = .forwarded
      ∧ s.transit.drain = 0 ∧ (∀ k < 32, s.transit.tags.get k = none ∧ s.transit.ownTags.get k = none)
      ∧ ∀ e < 8, s.transit.pins.get e = { inUse := false, base := 0, length := 0 })
    ∧ ((∀ k < 16, s.control.captured.get k = 0#32) ∧ s.control.freshHeader = false
      ∧ (∀ i < 10, s.control.errors.get i = false ∧ s.control.published.get i = false) ∧ s.control.outcome.word = 0#32
      ∧ s.control.selector = { table := .config, index := 0, mode := .none }
      ∧ (∀ i < 9, s.control.pendingNotices.get i = false ∧ s.control.mask.get i = false) ∧ s.control.inService = none
      ∧ s.control.pageTimeout = 250 ∧ s.control.passThreshold = 36 ∧ s.control.busyStream = false
      ∧ s.control.busyIntercom = false ∧ s.control.busyShow = false ∧ s.control.resetCause = .power)
    ∧ (∀ z < 64, (s.zone z).mapped = false ∧ (s.zone z).kind = .publicZone ∧ (s.zone z).ringPeriods = 2
      ∧ (s.zone z).sensePresent = false ∧ (s.zone z).senseLag = 0 ∧ (s.zone z).playoutBase = 0 ∧ (s.zone z).senseBase = 0
      ∧ (s.zone z).programGain = 4096 ∧ (s.zone z).duckGain = 1024 ∧ (s.zone z).overlayGain = 4096
      ∧ (s.zone z).alarmGain = 4096 ∧ (s.zone z).minPriority = 1 ∧ (s.zone z).watchLimit = 20
      ∧ (s.zone z).fallbackGroup = none ∧ (s.zone z).pilotLevel = 0 ∧ (s.zone z).pilotPattern = 0
      ∧ (s.zone z).bound = none ∧ (s.zone z).level = 0 ∧ (s.zone z).levelTarget = 0 ∧ (s.zone z).ramp = none
      ∧ (s.zone z).watch = 0 ∧ (s.zone z).silent = false ∧ (∀ i < 48, (s.zone z).seen.get i = false)
      ∧ (s.zone z).tally = 0 ∧ (s.zone z).passRun = 0 ∧ (s.zone z).failRun = 0 ∧ (s.zone z).verdict = .unchecked
      ∧ (s.zone z).silentEvents = 0 ∧ (s.zone z).failingPeriods = 0)
    ∧ (s.clock.source = .reference ∧ s.clock.tickPhase = 0 ∧ s.clock.offRun = 0 ∧ s.clock.goodRun = 0
      ∧ s.clock.edgeSeen = false ∧ s.clock.tickCount = 0 ∧ s.clock.lock = .free ∧ s.clock.stepCount = 0 ∧ s.clock.acquisitionRun = 0
      ∧ s.clock.previousInterval = 0 ∧ s.clock.lockedInterval = 0 ∧ s.clock.synthesized = 0 ∧ s.clock.markCount = 0)
    ∧ ((∀ n < 8, (s.stream n).state = .free ∧ (s.stream n).source = .clip ∧ (s.stream n).owner = .announce
        ∧ (s.stream n).priority = 0 ∧ (s.stream n).queue = [] ∧ (s.stream n).current = false ∧ (s.stream n).starvedCount = 0
        ∧ (s.stream n).starvedRun = 0 ∧ (s.stream n).droppedCount = 0 ∧ (s.stream n).endCause = .none
        ∧ (s.stream n).clipBase = 0 ∧ (s.stream n).clipPeriods = 0 ∧ (s.stream n).passUnderFetch = 0
        ∧ (s.stream n).repeatsLeft = 0 ∧ (s.stream n).nextFetch = 0 ∧ (s.stream n).periodsLeft = 0
        ∧ (s.stream n).group = 0 ∧ (s.stream n).closing = false ∧ (s.stream n).drained = false
        ∧ ∀ b < 4, ∀ i < 48, ((s.stream n).buffers.get b).get i = 0#32)
      ∧ s.page = { capture := none, stray := none, dropped := 0, strayCount := 0 } ∧ s.lastEnded = none)
    ∧ ((∀ n < 32, (s.station n).active = false ∧ (s.station n).ringPeriods = 2 ∧ (s.station n).micBase = 0
        ∧ (s.station n).earBase = 0 ∧ (s.station n).alarmGain = 4096 ∧ (s.station n).talk = none
        ∧ (∀ g < 16, (s.station n).listen.get g = false) ∧ (s.station n).readyGroup = none ∧ (s.station n).heard = 0
        ∧ (s.station n).torn = 0
        ∧ ∀ i < 48, (s.station n).ownFilling.get i = 0 ∧ (s.station n).written.get i = false ∧ (s.station n).ownReady.get i = 0)
      ∧ ∀ g < 16, (s.group g).defined = false ∧ (s.group g).essential = false ∧ (s.group g).gain = 4096
        ∧ ∀ i < 48, (s.group g).filling.get i = 0 ∧ (s.group g).ready.get i = 0)
    ∧ (s.alarm.state = .quiet ∧ s.alarm.source = none ∧ s.alarm.entryTick = 0 ∧ s.alarm.panelAbort = false
      ∧ s.alarm.decoder = .idle ∧ s.alarm.holdCount = 0 ∧ s.alarm.window = 0 ∧ s.alarm.patternLength = 16
      ∧ s.alarm.segment = 0 ∧ s.alarm.elapsed = 0 ∧ s.alarm.phase = 0 ∧ (∀ g < 8, s.alarm.fallback.get g = false)
      ∧ (∀ i < 14, s.alarm.segments.get i = { frequency := if i % 2 = 0 then 800 else 0, duration := 1000 })
      ∧ s.alarm.segments.get 14 = { frequency := 800, duration := 5000 }
      ∧ s.alarm.segments.get 15 = { frequency := 0, duration := 2000 })
    ∧ s.theatre.state = .idle ∧ s.theatre.length = 0 ∧ s.theatre.pointer = 0 ∧ s.theatre.markBase = 0
    ∧ s.theatre.follow = 0 ∧ s.theatre.holdCause = none ∧ s.theatre.snapshot = none ∧ s.theatre.lastFired = none
    ∧ (∀ n < 256, (s.theatre.cue n).trigger = .go ∧ (s.theatre.cue n).value = 0 ∧ (s.theatre.cue n).action = .note
      ∧ (s.theatre.cue n).notify = false ∧ (s.theatre.cue n).repeats = 0 ∧ (s.theatre.cue n).word1 = 0#32
      ∧ (s.theatre.cue n).word2 = 0#32 ∧ (s.theatre.cue n).word3 = 0#32 ∧ (s.theatre.cue n).state = .waiting)
    ∧ s.lines = { resetAsserted := false, panelA := true, panelB := true }
    ∧ s.event = { toHost := none, toMemory := none, ended := none } ∧ s.freeDraws = 0 ∧ s.pending = []

/-- FULL_RESET: every block at its reset value, whatever the state; the drain count is 0 at power-up and otherwise counts the
issued requests not yet answered, with what an earlier reset still waits for (R20, R21; the last clause is log 12). That it leaves
the line asserted until its release and keeps the panel levels and the queue is the model's choice (log 11), as is the counter of
free values it keeps (log 9).
RESET_RELEASE and DRAIN_RESPONSE: the line is released; a response while the P-port is closed is discarded and lowers the
drain count by one, and nothing else changes (R20). -/
def Obligations.FullResetAndDrain : Prop :=
  (∀ s : State,
    exec (.fullReset .power) s
        = .next (State.resetWith .power 0 { s.lines with resetAsserted := true } s.freeDraws s.pending)
      ∧ exec (.fullReset .line) s
        = .next (State.resetWith .line (s.transit.drain + s.transit.issuedUnanswered)
            { s.lines with resetAsserted := true } s.freeDraws s.pending))
  ∧ ((∀ s : State, exec .resetRelease s
      = .next (State.latch { s.begun with lines := { s.lines with resetAsserted := false } }))
    ∧ ∀ (s : State) (tag : Nat) (a : MemAnswer), s.portOpen = false →
      exec (.drainResponse tag a) s
        = .next (State.latch { s.begun with transit := { s.transit with drain := s.transit.drain - 1 } }))

/-! ## Requests and responses -/

/-- A request whose tag is not accepted is answered at once with TAG_FAULT, and nothing else happens (R2); for a tag above 63, which
R2 does not name, that is the model's choice (log 24).
READ_REQUEST: entered in the tag table and placed at the tail of the forwarded queue, unclassified (R3, R7).
DONE_RESPONSE: the DONE of a forwarded WRITE goes to the host with memory's status, and the tag's entry is removed
(R6).
UNMATCHED_RESPONSE: a response whose tag is in neither table is discarded, and nothing in the part changes (R3). -/
def Obligations.RequestsTaggedAndAnswersReturned : Prop :=
  (∀ (s : State) (tag addr count : Nat) (words : List WriteWord), s.portOpen = true →
    (31 < tag ∨ (s.transit.tags.get tag).isSome = true) →
    exec (.readRequest tag addr count) s = .next (s.begun.answer (.data tag .tagFaultStatus [])).latch
      ∧ exec (.writeRequest tag addr words) s = .next (s.begun.answer (.done tag .tagFaultStatus)).latch)
  ∧ (∀ (s : State) (tag addr count : Nat), s.portOpen = true → tag ≤ 31 → s.transit.tags.get tag = none →
    exec (.readRequest tag addr count) s = .next (State.latch { s.begun with transit := { s.transit with
      tags := s.transit.tags.set tag (some { isWrite := false, addr := addr, count := count }),
      forwarded := s.transit.forwarded ++ [.read tag addr count] } }))
  ∧ (∀ (s : State) (tag : Nat) (e : TagEntry), s.portOpen = true → tag ≤ 31 → s.transit.tags.get tag = some e →
    e.isWrite = true →
    exec (.doneResponse tag .ok) s = .next (State.latch { s with
        transit := { s.transit with tags := s.transit.tags.set tag none },
        event := { EventRecord.none with toHost := some (.done tag .okStatus) } })
      ∧ exec (.doneResponse tag .fault) s = .next (State.latch { s with
        transit := { s.transit with tags := s.transit.tags.set tag none },
        event := { EventRecord.none with toHost := some (.done tag .faultStatus) } }))
  ∧ (∀ (s : State) (tag : Nat) (a : MemAnswer), s.settled = true → s.portOpen = true →
    (tag ≤ 31 → s.transit.tags.get tag = none) →
    (32 ≤ tag → tag ≤ 63 → s.transit.ownTags.get (tag - 32) = none) →
    exec (.unmatchedResponse tag a) s = .next s.begun)

/-- WRITE_REQUEST with no word pinned: offered word by word in ascending order, each by its region as the burst was classified
when it passed, then queued (R4, R5).
The region of a word, by the spans of R4, in a state whose regions are disjoint (RegionsStayDisjoint): an offset is counted from
the base of its block, window, ring or pinned region.
The listener of a word (R5, R22): none for the anchor block, a playout or earpiece ring, a pinned region, plain memory and a window
word that is no listener's; a window word is the row CONTROL_WORD_WRITE; a sense word reaches the supervision of its zone, a
microphone word the intercom, a page ring word the stream engine, and nothing else in the part. -/
def Obligations.WordsClassifiedOfferedAndQueued : Prop :=
  (∀ (s : State) (tag addr : Nat) (words : List WriteWord), s.portOpen = true → tag ≤ 31 → s.transit.tags.get tag = none →
    examined s.transit.anchor addr words = false →
    (∀ j < words.length, (s.classify (addr + j)).isPinned = false) →
    exec (.writeRequest tag addr words) s
      = .next (((((List.range words.length).map fun j => s.classify (addr + j)).zip words).foldl State.offerWord
          s.begun).queued tag { isWrite := true, addr := addr, count := words.length } (.write tag addr words)).latch)
  ∧ (∀ (s : State) (addr : Nat), RegionLaw s →
    let within (base length : Nat) : Prop := base ≤ addr ∧ addr < base + length
    let anchorBlock : Prop := within 0x80 8
    let window (a : Anchor) : Prop := s.transit.anchor = some a ∧ within a.window 1024
    let page (a : Anchor) : Prop := s.transit.anchor = some a ∧ within a.pageRing 384
    let playout (z : Nat) : Prop := (s.zone z).mapped = true ∧ within (s.zone z).playoutBase ((s.zone z).ringPeriods * 48)
    let sense (z : Nat) : Prop := (s.zone z).mapped = true ∧ (s.zone z).sensePresent = true
      ∧ within (s.zone z).senseBase ((s.zone z).ringPeriods * 48)
    let microphone (n : Nat) : Prop := (s.station n).active = true
      ∧ within (s.station n).micBase ((s.station n).ringPeriods * 48)
    let earpiece (n : Nat) : Prop := (s.station n).active = true
      ∧ within (s.station n).earBase ((s.station n).ringPeriods * 48)
    let pin (e : Nat) : Prop := (s.transit.pins.get e).inUse = true
      ∧ within (s.transit.pins.get e).base (s.transit.pins.get e).length
    (anchorBlock → s.classify addr = .anchorBlock (addr - 0x80))
    ∧ (∀ a, window a → s.classify addr = .window (addr - a.window))
    ∧ (∀ a, page a → s.classify addr = .pageRing (addr - a.pageRing))
    ∧ (∀ z < 64, (playout z → s.classify addr = .playout z (addr - (s.zone z).playoutBase))
      ∧ (sense z → s.classify addr = .sense z (addr - (s.zone z).senseBase)))
    ∧ (∀ n < 32, (microphone n → s.classify addr = .microphone n (addr - (s.station n).micBase))
      ∧ (earpiece n → s.classify addr = .earpiece n (addr - (s.station n).earBase)))
    ∧ (∀ e < 8, pin e → s.classify addr = .pinned e)
    ∧ (¬ anchorBlock → (∀ a, ¬ window a ∧ ¬ page a) → (∀ z < 64, ¬ playout z ∧ ¬ sense z) →
      (∀ n < 32, ¬ microphone n ∧ ¬ earpiece n) → (∀ e < 8, ¬ pin e) → s.classify addr = .plain))
  ∧ (∀ (s : State) (w : WriteWord),
    let offered (r : Region) : State := s.offerWord (r, w)
    (∀ o i, offered (.anchorBlock o) = s ∧ offered (.playout i o) = s ∧ offered (.earpiece i o) = s
      ∧ offered (.pinned i) = s ∧ offered .plain = s)
    ∧ (∀ k, (k ≤ 15 ∨ (19 ≤ k ∧ k ≤ 31) ∨ 48 ≤ k) → offered (.window k) = s)
    ∧ (∀ z o, let t := offered (.sense z o)
      t = offered (.sense z (o % 48)) ∧ t = { s with zones := t.zones, control := t.control, alarm := t.alarm }
      ∧ ∀ y < 64, y ≠ z → t.zone y = s.zone y)
    ∧ (∀ n o, let t := offered (.microphone n o)
      t = offered (.microphone n (o % 48)) ∧ t = { s with stations := t.stations, groups := t.groups, control := t.control }
      ∧ ∀ m < 32, m ≠ n → t.station m = s.station m)
    ∧ ∀ o, let t := offered (.pageRing o)
      t = { s with streams := t.streams, page := t.page, control := t.control, freeDraws := t.freeDraws })
  ∧ ∀ (s : State) (a : HostAccess) (k : Nat) (w : WriteWord), s.hears a = true → k ≤ 1023 →
    s.classify (a.window + k) = .window k
    ∧ exec (.writeRequest a.tag (a.window + k) [w]) s = exec (.controlWordWrite a k w) s

/-- A WRITE with a pinned word is refused whole: answered PROTECTED and nothing else (R15). The premise `settled` is the law of
R40, which every step keeps (NoticesStaySettled). -/
def Obligations.PinnedWriteRefusedWhole : Prop :=
  ∀ (s : State) (tag addr : Nat) (words : List WriteWord) (j e : Nat), s.settled = true → s.portOpen = true → tag ≤ 31 →
    s.transit.tags.get tag = none → j < words.length → s.classify (addr + j) = .pinned e →
    exec (.writeRequest tag addr words) s
      = .next { s with event := { EventRecord.none with toHost := some (.done tag .protectedStatus) } }

/-- ARBITER_ISSUE, by the rows of the table of R19; an own request takes the lowest free own tag (R18). -/
def Obligations.ArbiterAlternatesTheQueues : Prop :=
  ∀ s : State,
    (∀ f fs, s.transit.forwarded = f :: fs → (s.transit.ownQueue = [] ∨ s.transit.turn = .forwarded) →
        exec .arbiterIssue s = .next (State.latch { s with
          transit := { s.transit with forwarded := fs, turn := .own },
          event := { EventRecord.none with toMemory := some f.request } }))
      ∧ (∀ o os k, s.transit.ownQueue = o :: os → (s.transit.forwarded = [] ∨ s.transit.turn = .own) → k < 32 →
        s.transit.ownTags.get k = none → (∀ j < k, (s.transit.ownTags.get j).isSome = true) →
        exec .arbiterIssue s = .next (State.latch { s with
          transit := { s.transit with ownQueue := os, ownTags := s.transit.ownTags.set k (some o), turn := .forwarded },
          event := { EventRecord.none with toMemory := some (.read (32 + k) o.addr 16) } }))
      ∧ (s.transit.forwarded = [] → s.transit.ownQueue = [] → exec .arbiterIssue s = .next s.begun.latch)

/-- A DATA response with FAULT goes to the host with memory's words; the tag's entry is removed and nothing else changes
(R8). -/
def Obligations.FaultDataReturnedUnchanged : Prop :=
  ∀ (s : State) (tag : Nat) (e : TagEntry) (words : List Word), s.settled = true → s.portOpen = true → tag ≤ 31 →
    s.transit.tags.get tag = some e → e.isWrite = false →
    exec (.dataResponse tag .fault words) s = .next { s with
      transit := { s.transit with tags := s.transit.tags.set tag none },
      event := { EventRecord.none with toHost := some (.data tag .faultStatus words) } }

/-- DATA_RESPONSE with OK: every word is what its region's rewriter returns for it on the state as it stood (R7, R22); each
zone with a playout word has its watch reloaded once, a port data word advances the port, the tag's entry is removed,
and nothing else changes. -/
def Obligations.OkDataRewrittenByRegion : Prop :=
  ∀ (s : State) (tag : Nat) (e : TagEntry) (words : List Word), s.settled = true → s.portOpen = true → tag ≤ 31 →
    s.transit.tags.get tag = some e → e.isWrite = false → words.length = e.count →
    ∃ (t : State) (out : List Word), exec (.dataResponse tag .ok words) s = .next t
      ∧ t.event = { EventRecord.none with toHost := some (.data tag .okStatus out) } ∧ out.length = e.count
      ∧ (∀ j < e.count, out.getD j 0#32 = match s.classify (e.addr + j) with
          | .window k => if k ≤ 15 then s.liveWord k else if k = 18 then s.portWord else words.getD j 0#32
          | .playout z offset => s.playoutWord z (offset % 48) (words.getD j 0#32)
          | .earpiece n offset => s.earpieceWord n (offset % 48) (words.getD j 0#32)
          | _ => words.getD j 0#32)
      ∧ (∀ z < 64, (∃ j < e.count, ∃ offset, s.classify (e.addr + j) = .playout z offset) →
          t.zone z = { s.zone z with watch := (s.zone z).watchLimit, silent := false })
      ∧ (∀ z < 64, (¬ ∃ j < e.count, ∃ offset, s.classify (e.addr + j) = .playout z offset) → t.zone z = s.zone z)
      ∧ ((∃ j < e.count, s.classify (e.addr + j) = .window 18) → t.control = (s.control.advance false).latch)
      ∧ ((¬ ∃ j < e.count, s.classify (e.addr + j) = .window 18) → t.control = s.control)
      ∧ t.transit = { s.transit with tags := s.transit.tags.set tag none } ∧ t.clock = s.clock ∧ t.streams = s.streams
      ∧ t.page = s.page ∧ t.lastEnded = s.lastEnded ∧ t.stations = s.stations ∧ t.groups = s.groups
      ∧ t.alarm = s.alarm ∧ t.theatre = s.theatre ∧ t.lines = s.lines ∧ t.freeDraws = s.freeDraws
      ∧ t.pending = s.pending

/-- PORT_DATA_READ: the selected word as its owner holds it, and the post-increment for a read; with FAULT memory's word and no
increment (R34, R8). -/
def Obligations.PortReadReturnsTheSelectedWord : Prop :=
  ∀ (s : State) (tag window : Nat) (word : Word), s.portOpen = true → tag ≤ 31 → s.windowAt window = true →
    s.transit.tags.get tag = some { isWrite := false, addr := window + 18, count := 1 } →
    exec (.portDataRead tag .ok word) s = .next (State.latch { s with
        transit := { s.transit with tags := s.transit.tags.set tag none }, control := s.control.advance false,
        event := { EventRecord.none with
          toHost := some (.data tag .okStatus [s.tableWord s.control.selector.table s.control.selector.index]) } })
      ∧ exec (.portDataRead tag .fault word) s = .next (State.latch { s with
        transit := { s.transit with tags := s.transit.tags.set tag none },
        event := { EventRecord.none with toHost := some (.data tag .faultStatus [word]) } })

/-- OWN_RESPONSE (R18, R89): the own tag is freed; a FAULT ends a live stream with FETCH_ERROR; OK words are placed in the slot
labelled for them, the third part makes it READY, and a CLIP record then fetches its next period while it has one left and a
buffer for it (R88), its READs behind its others in an own queue that is in order (R19); nothing else of the record changes. The
data of an ENDING stream is dropped, and the last response makes a record past its first tick in ENDING FREE (R93). That a FREE
record keeps its other fields is the model's choice (log 17), and the buffer a new slot takes is free (log 9). -/
def Obligations.OwnResponsePlacedDroppedOrFaulted : Prop :=
  ∀ (s : State) (k : Nat) (r : OwnRequest) (words : List Word), s.portOpen = true → k < 32 → r.stream < 8 → r.part < 3 →
    words.length = 16 → s.transit.ownTags.get k = some r →
    let waits (s : State) (n : Nat) : List OwnRequest := s.transit.ownQueue.filter fun q => q.stream == n
    let c := s.stream r.stream
    let read (part : Nat) : OwnRequest := { stream := r.stream, pass := c.passUnderFetch, period := c.nextFetch, part := part,
                                            addr := c.clipBase + 48 * c.nextFetch + 16 * part }
    let wraps : Prop := c.nextFetch + 1 = c.clipPeriods ∧ 0 < c.repeatsLeft
    ((s.stream r.stream).live = true → ∃ t, exec (.ownResponse (32 + k) .fault words) s = .next t
        ∧ t.transit.ownTags = s.transit.ownTags.set k none
        ∧ t.stream r.stream = { s.stream r.stream with state := .ending, endCause := .fetchError, drained := false }
        ∧ t.lastEnded = some { index := r.stream, cause := .fetchError, owner := (s.stream r.stream).owner }
        ∧ waits t r.stream = [] ∧ (∀ m < 8, m ≠ r.stream → t.stream m = s.stream m ∧ waits t m = waits s m)
        ∧ t.zones = s.zones)
      ∧ (∀ q x, (s.stream r.stream).live = true → (s.stream r.stream).queue = q ++ [x] → x.labelled r = true →
        (∀ y ∈ q, y.ready = true) → ∃ t, exec (.ownResponse (32 + k) .ok words) s = .next t
        ∧ t.transit.ownTags = s.transit.ownTags.set k none
        ∧ (let arrived : Slot := { x with parts := x.parts + 1, ready := x.parts == 2 }
          let fetches : Prop := x.parts = 2 ∧ c.source = .clip ∧ q.length + 1 < 4 ∧ c.nextFetch < c.clipPeriods
          let placed : StreamRecord := { c with queue := q ++ [arrived], buffers := (t.stream r.stream).buffers }
          (¬ fetches → t.stream r.stream = placed ∧ waits t r.stream = waits s r.stream)
          ∧ (fetches →
            ((s.transit.ownQueue.Pairwise fun a b => a.stream ≤ b.stream) →
              waits t r.stream = waits s r.stream ++ [read 0, read 1, read 2])
            ∧ ∃ b < 4, (∀ y ∈ q ++ [arrived], y.buffer ≠ b) ∧ t.stream r.stream = { placed with
              queue := q ++ [arrived, { ready := false, pass := c.passUnderFetch, period := c.nextFetch, parts := 0,
                                        ringPeriod := 0, buffer := b }],
              nextFetch := if wraps then 0 else c.nextFetch + 1,
              repeatsLeft := if wraps then c.repeatsLeft - 1 else c.repeatsLeft,
              passUnderFetch := if wraps then c.passUnderFetch + 1 else c.passUnderFetch }))
        ∧ (x.buffer < 4 → ∀ i < 48, ((t.stream r.stream).buffers.get x.buffer).get i =
            if 16 * r.part ≤ i ∧ i < 16 * r.part + 16 then words.getD (i - 16 * r.part) 0#32
            else ((s.stream r.stream).buffers.get x.buffer).get i)
        ∧ (∀ b < 4, b ≠ x.buffer → (t.stream r.stream).buffers.get b = (s.stream r.stream).buffers.get b)
        ∧ (∀ m < 8, m ≠ r.stream → t.stream m = s.stream m ∧ waits t m = waits s m) ∧ t.zones = s.zones)
      ∧ ∀ status, (s.stream r.stream).state = .ending → ∃ t, exec (.ownResponse (32 + k) status words) s = .next t
        ∧ t.transit.ownTags = s.transit.ownTags.set k none
        ∧ t.stream r.stream = (if (s.stream r.stream).drained = true ∧ s.inFlight r.stream = 1 then
            { s.stream r.stream with state := .free } else s.stream r.stream)
        ∧ (∀ m < 8, m ≠ r.stream → t.stream m = s.stream m) ∧ t.zones = s.zones

/-- The sixteen live words, every bit of each (R23, R24, R39, R40, R44, R74, R106, R135, R150, R162, R179, R190, 11.4): each field of
the layout at its place, and 0 in every bit of no field (R196). `flags count p` has bit `i` set where `p i` holds, for the `count`
lowest bits; a field keeps the low bits of its value. -/
def Obligations.LiveWordsHoldTheirFields : Prop :=
  ∀ s : State,
    let w (k : Nat) : Nat := (s.liveWord k).toNat
    let one (p : Bool) : Nat := if p then 1 else 0
    let flags (count : Nat) (p : Nat → Bool) : Nat := ((List.range count).map fun i => if p i then 2 ^ i else 0).sum
    let r := s.theatre
    let markNumber := (s.clock.markCount + 16777216 - r.markBase) % 16777216
    let kind : NoticeKind → Nat := fun k => match k with
      | .alarm => 1 | .silent => 2 | .supervision => 3 | .clock => 4 | .stream => 5 | .showNotice => 6 | .cue => 7
      | .counter => 8 | .command => 9
    let reason : Reason → Nat := fun x => match x with
      | .state => 1 | .argument => 2 | .noStream => 3 | .notPinned => 4 | .contention => 5 | .alarm => 6
    let result : Nat × Nat := match s.control.outcome.result with
      | .accepted value => (0, value) | .refused x => (1, reason x) | .rejected => (2, 0) | .busy => (3, 0)
    let cause : EndCause → Nat := fun c => match c with
      | .none => 0 | .complete => 1 | .aborted => 2 | .preempted => 3 | .alarm => 4 | .pageTimeout => 5 | .fetchError => 6
      | .stopped => 7 | .restart => 8
    let owner : StreamOwner → Nat × Nat := fun o => match o with
      | .announce => (0, 0) | .showCue cue => (1, cue)
    let streamState : StreamState → Nat := fun x => match x with
      | .free => 0 | .starting => 1 | .playing => 2 | .paused => 3 | .ending => 4
    let cueState : CueState → Nat := fun x => match x with
      | .waiting => 0 | .fired => 1 | .skipped => 2 | .faulted => 3
    let silent (z : Nat) : Bool := (s.zone z).mapped && (s.zone z).silent
    let failing (z : Nat) : Bool := (s.zone z).mapped && (s.zone z).verdict == .failing
    w 0 = 1 + 2 ^ 8 * 64 + 2 ^ 16 * 0x0D40
    ∧ w 1 = (match s.control.resetCause with | .power => 1 | .line => 2)
    ∧ w 2 = (match s.alarm.state with | .quiet => 0 | .sounding => 1 | .muster => 2)
      + 2 ^ 2 * (match s.alarm.source with | none => 0 | some .command => 1 | some .panel => 2)
      + 2 ^ 4 * one s.alarm.panelAbort
      + 2 ^ 5 * (match s.alarm.decoder with | .idle => 0 | .attended => 1 | .latched => 2)
      + 2 ^ 8 * flags 8 s.alarm.fallback.get + 2 ^ 16 * (s.alarm.entryTick % 2 ^ 16)
    ∧ w 3 = (match s.control.inService with | none => 0 | some k => kind k) + 2 ^ 16 * flags 9 s.control.pendingNotices.get
    ∧ w 4 = s.control.outcome.sequence % 2 ^ 8 + 2 ^ 8 * (s.control.outcome.code % 2 ^ 5) + 2 ^ 13 * result.1
      + 2 ^ 16 * (result.2 % 2 ^ 16)
    ∧ w 5 = flags 10 s.control.published.get
    ∧ w 6 = (match s.clock.source with | .reference => 0 | .line => 1)
      + 2 * (match s.clock.lock with | .free => 0 | .acquiring => 1 | .locked => 2 | .holdover => 3)
      + 2 ^ 4 * (s.clock.lockedInterval % 2 ^ 11) + 2 ^ 16 * (s.clock.tickCount % 2 ^ 16)
    ∧ w 7 = (match r.state, r.holdCause with
        | .idle, _ => 0 | .stopped, _ => 1 | .running, _ => 2 | .held, some .alarm => 4 | .held, _ => 3)
      + 2 ^ 3 * (r.pointer % 2 ^ 9) + 2 ^ 12 * (markNumber % 2 ^ 20)
    ∧ w 8 = flags 32 silent ∧ w 9 = flags 32 (fun i => silent (32 + i))
    ∧ w 10 = flags 32 failing ∧ w 11 = flags 32 (fun i => failing (32 + i))
    ∧ w 12 = (match s.lastEnded with
      | none => 0
      | some l => l.index % 2 ^ 3 + 2 ^ 4 * cause l.cause + 2 ^ 8 * (owner l.owner).1 + 2 ^ 16 * ((owner l.owner).2 % 2 ^ 8))
    ∧ w 13 = ((List.range 8).map fun n => 2 ^ (4 * n) * streamState (s.stream n).state).sum
    ∧ w 14 = one s.control.busyStream + 2 * one s.control.busyIntercom + 4 * one s.control.busyShow
    ∧ w 15 = (match r.lastFired with
      | none => 0
      | some l => l.cue % 2 ^ 8 + 2 ^ 8 * cueState l.state + 2 ^ 16 * (l.mark % 2 ^ 16))

/-- The words of the nine tables, every bit of each (R14, R34, R37, R38, R49, R106, R111, R114, R144, R169, R190, 11.5): each field of
the layout at its place, and 0 in every bit of no field (R196); a field keeps the low bits of its value. The words of a cue are read
by the action it holds now (the model's reading, log 16). A station's word 5 shows
the heard count of its record, and always 0 without a talk group (R111; the model's reading, log 31). -/
def Obligations.TableWordsHoldTheirFields : Prop :=
  ∀ s : State,
    let w (t : PortTable) (i : Nat) : Nat := (s.tableWord t i).toNat
    let one (p : Bool) : Nat := if p then 1 else 0
    let flags (count : Nat) (p : Nat → Bool) : Nat := ((List.range count).map fun i => if p i then 2 ^ i else 0).sum
    (w .config 0 = flags 9 s.control.mask.get ∧ w .config 1 = s.control.pageTimeout % 2 ^ 16
      ∧ w .config 2 = s.control.passThreshold % 2 ^ 6)
    ∧ (∀ z < 64, let e := s.zone z
      w .zone (8 * z) = one e.mapped
        + 2 * (match e.kind with | .publicZone => 0 | .cabinZone => 1 | .crewZone => 2 | .theatreZone => 3)
        + 2 ^ 8 * (e.ringPeriods % 2 ^ 6) + 2 ^ 16 * one e.sensePresent + 2 ^ 24 * (e.senseLag % 2 ^ 6)
      ∧ w .zone (8 * z + 1) = e.playoutBase % 2 ^ 32 ∧ w .zone (8 * z + 2) = e.senseBase % 2 ^ 32
      ∧ w .zone (8 * z + 3) = e.programGain % 2 ^ 13 + 2 ^ 16 * (e.duckGain % 2 ^ 13)
      ∧ w .zone (8 * z + 4) = e.overlayGain % 2 ^ 13 + 2 ^ 16 * (e.alarmGain % 2 ^ 13)
      ∧ w .zone (8 * z + 5) = e.minPriority % 2 ^ 3 + 2 ^ 8 * (e.watchLimit % 2 ^ 8)
        + 2 ^ 16 * (e.fallbackGroup.getD 15 % 2 ^ 4)
      ∧ w .zone (8 * z + 6) = e.pilotLevel % 2 ^ 8 + 2 ^ 8 * (e.pilotPattern % 2 ^ 3)
      ∧ w .zone (8 * z + 7) = e.bound.getD 15 % 2 ^ 4
        + 2 ^ 4 * ((if e.mapped = true ∧ e.kind = .theatreZone then e.level else 0) % 2 ^ 13)
        + 2 ^ 17 * ((if e.mapped then e.watch else 0) % 2 ^ 8) + 2 ^ 25 * one e.silent
        + 2 ^ 26 * (match e.verdict with | .unchecked => 0 | .passing => 1 | .failing => 2))
    ∧ (∀ n < 32, let r := s.station n
      w .station (6 * n) = one r.active + 2 ^ 8 * (r.ringPeriods % 2 ^ 6)
      ∧ w .station (6 * n + 1) = r.micBase % 2 ^ 32 ∧ w .station (6 * n + 2) = r.earBase % 2 ^ 32
      ∧ w .station (6 * n + 3) = r.alarmGain % 2 ^ 13
      ∧ w .station (6 * n + 4) = r.talk.getD 31 % 2 ^ 5 + 2 ^ 16 * flags 16 r.listen.get
      ∧ w .station (6 * n + 5) = r.readyGroup.getD 31 % 2 ^ 5 + 2 ^ 8 * ((if r.talk = none then 0 else r.heard) % 2 ^ 6))
    ∧ (∀ g < 16,
      let talkers := ((List.range 32).filter fun n => (s.station n).talk == some g).length
      let listeners := ((List.range 32).filter fun n => (s.station n).active && (s.station n).listen.get g).length
      let streams := ((List.range 8).filter fun n => (s.stream n).state != .free && (s.stream n).source == .group
        && (s.stream n).group == g).length
      w .group (4 * g) = one (s.group g).defined + 2 * one (s.group g).essential
      ∧ w .group (4 * g + 1) = (s.group g).gain % 2 ^ 13
      ∧ w .group (4 * g + 2) = talkers % 2 ^ 3 + 2 ^ 8 * streams
        + 2 ^ 16 * one (s.alarm.state != .quiet && !(s.group g).essential)
      ∧ w .group (4 * g + 3) = listeners)
    ∧ (∀ n < 256, let c := s.theatre.cue n
      let zones : Prop := c.action = .fade ∨ c.action = .play
      w .cue (4 * n) = (match c.trigger with | .go => 0 | .mark => 1 | .follow => 2)
        + 2 ^ 2 * (match c.action with | .note => 0 | .fade => 1 | .play => 2 | .halt => 3 | .endShow => 4)
        + 2 ^ 5 * one c.notify
        + 2 ^ 6 * (match c.state with | .waiting => 0 | .fired => 1 | .skipped => 2 | .faulted => 3)
        + 2 ^ 8 * (c.repeats % 2 ^ 4) + 2 ^ 12 * (c.value % 2 ^ 20)
      ∧ (zones → w .cue (4 * n + 1) = c.word1.toNat ∧ w .cue (4 * n + 2) = c.word2.toNat)
      ∧ (¬ zones → w .cue (4 * n + 1) = 0 ∧ w .cue (4 * n + 2) = 0)
      ∧ w .cue (4 * n + 3) = (match c.action with
        | .fade => c.word3.toNat % 2 ^ 13 + 2 ^ 16 * (c.word3.toNat / 2 ^ 16 % 2 ^ 12)
        | .play => c.word3.toNat
        | .halt => c.word3.toNat % 2 ^ 8
        | .note => 0
        | .endShow => 0))
    ∧ w .cue 1024 = s.theatre.length % 2 ^ 9
    ∧ (∀ i < 16, w .pattern i
      = (s.alarm.segments.get i).frequency % 2 ^ 12 + 2 ^ 16 * ((s.alarm.segments.get i).duration % 2 ^ 16))
    ∧ w .pattern 16 = s.alarm.patternLength % 2 ^ 5
    ∧ (∀ e < 8, let p := s.transit.pins.get e
      w .pin (2 * e) = p.base % 2 ^ 28 + 2 ^ 31 * one p.inUse ∧ w .pin (2 * e + 1) = p.length % 2 ^ 21)
    ∧ (∀ n < 8, let r := s.stream n
      let owner : Nat × Nat := match r.owner with | .announce => (0, 0) | .showCue cue => (1, cue)
      w .stream (4 * n)
        = (match r.state with | .free => 0 | .starting => 1 | .playing => 2 | .paused => 3 | .ending => 4)
        + 2 ^ 3 * (match r.source with | .clip => 0 | .live => 1 | .group => 2) + 2 ^ 5 * owner.1
        + 2 ^ 8 * (r.priority % 2 ^ 3)
        + 2 ^ 12 * (match r.endCause with
          | .none => 0 | .complete => 1 | .aborted => 2 | .preempted => 3 | .alarm => 4 | .pageTimeout => 5 | .fetchError => 6
          | .stopped => 7 | .restart => 8)
        + 2 ^ 16 * (r.queue.length % 2 ^ 3) + 2 ^ 19 * one r.current + 2 ^ 20 * one r.closing
      ∧ w .stream (4 * n + 1) = flags 32 (fun z => (s.zone z).bound == some n)
      ∧ w .stream (4 * n + 2) = flags 32 (fun i => (s.zone (32 + i)).bound == some n)
      ∧ w .stream (4 * n + 3) = r.starvedCount % 2 ^ 8 + 2 ^ 8 * (r.droppedCount % 2 ^ 8) + 2 ^ 16 * (owner.2 % 2 ^ 8)
        + 2 ^ 24 * (r.group % 2 ^ 4))
    ∧ (∀ z < 64, w .counter z = (s.zone z).silentEvents % 2 ^ 8 + 2 ^ 8 * ((s.zone z).failingPeriods % 2 ^ 8))
    ∧ (∀ n < 32, w .counter (64 + n) = (s.station n).torn % 2 ^ 8)
    ∧ w .counter 96 = s.page.dropped % 2 ^ 8 + 2 ^ 8 * (s.page.strayCount % 2 ^ 8)

/-- ANCHOR_RECORD, while the part is unanchored: a record that passes every check of R12 anchors it; any other adds ANCHOR. The
burst is queued either way (R11, R12). -/
def Obligations.AnchorRecordExamined : Prop :=
  ∀ (s : State) (tag : Nat) (r : AnchorRecord), s.portOpen = true → tag ≤ 31 → s.transit.tags.get tag = none →
    s.transit.anchor = none →
    let accepted : Prop := r.format = 1#32
      ∧ field r.trailer 0 16 = (crc16 [r.format, r.window, r.pageRing, r.word3, r.word4, r.word5, r.word6]).toNat
      ∧ r.window.toNat % 1024 = 0 ∧ r.pageRing.toNat % 64 = 0 ∧ r.window.toNat + 1023 ≤ 268435455
      ∧ r.pageRing.toNat + 383 ≤ 268435455
      ∧ (r.window.toNat + 1024 ≤ r.pageRing.toNat ∨ r.pageRing.toNat + 384 ≤ r.window.toNat)
      ∧ (r.window.toNat + 1024 ≤ 0x80 ∨ 0x88 ≤ r.window.toNat) ∧ (r.pageRing.toNat + 384 ≤ 0x80 ∨ 0x88 ≤ r.pageRing.toNat)
    let words := (anchorWords r).map wholeWord
    let queued (t : State) : State :=
      (t.queued tag { isWrite := true, addr := 0x80, count := 8 } (.write tag 0x80 words)).latch
    (accepted → exec (.anchorRecord tag r) s = .next (queued { s.begun with transit := { s.transit with
        anchor := some { window := r.window.toNat, pageRing := r.pageRing.toNat } } }))
      ∧ (¬ accepted → exec (.anchorRecord tag r) s = .next (queued { s.begun with control := { s.control with
        errors := s.control.errors.set 8 true } }))

/-! ## The control window -/

/-- NOTICE_ACKNOWLEDGE: the number of the kind in service, written whole, clears its flag and the latch; any other write adds
NOTICE_MISMATCH (R41). The latching that follows (R193) is `afterWord`'s last act.
The latching that ends every event (R40): a kind in service stays; else the lowest-numbered pending, unmasked kind is
latched, if there is one; and the line is asserted exactly while a kind is in service.
PORT_SELECTOR_WRITE: a whole word that names one of the nine tables, an index within it and one of the three modes replaces
the selector; any other is ignored and adds PORT_RANGE (R33). -/
def Obligations.AcknowledgeSelectAndLatch : Prop :=
  (∀ (s : State) (a : HostAccess) (w : WriteWord), s.hears a = true →
    (∀ k, s.control.inService = some k → w.lanes = 15#4 → w.data.toNat = k.number →
      exec (.noticeAcknowledge a w) s = .next (State.afterWord { s.begun with control := { s.control with
        pendingNotices := s.control.pendingNotices.set (k.number - 1) false, inService := none } } a.tag (a.window + 16) w))
    ∧ ((∀ k, s.control.inService = some k → w.lanes = 15#4 → w.data.toNat ≠ k.number) →
      exec (.noticeAcknowledge a w) s = .next (State.afterWord { s.begun with control := { s.control with
        errors := s.control.errors.set 9 true } } a.tag (a.window + 16) w)))
  ∧ (∀ s : State,
    (∀ k, s.control.inService = some k → s.latch = s)
    ∧ (∀ k : NoticeKind, s.control.inService = none → s.control.pendingNotices.get (k.number - 1) = true →
        s.control.mask.get (k.number - 1) = false →
        (∀ j : NoticeKind, j.number < k.number → s.control.pendingNotices.get (j.number - 1) = true →
          s.control.mask.get (j.number - 1) = true) →
        s.latch = { s with control := { s.control with inService := some k } })
    ∧ (s.control.inService = none → (∀ k : NoticeKind, s.control.pendingNotices.get (k.number - 1) = true →
        s.control.mask.get (k.number - 1) = true) → s.latch = s)
    ∧ (s.noticeLine = true ↔ s.control.inService ≠ none))
  ∧ (∀ (s : State) (a : HostAccess) (w : WriteWord), s.hears a = true →
    (∀ (t : PortTable) (m : IncMode), w.lanes = 15#4 → field w.data 0 4 = portTableNumber t →
      field w.data 24 2 = incModeNumber m → field w.data 8 11 ≤ lastIndex t →
      exec (.portSelectorWrite a w) s = .next (State.afterWord { s.begun with control := { s.control with
        selector := { table := t, index := field w.data 8 11, mode := m } } } a.tag (a.window + 17) w))
    ∧ ((w.lanes ≠ 15#4 ∨ (∀ t : PortTable, field w.data 0 4 = portTableNumber t → lastIndex t < field w.data 8 11)
        ∨ ∀ m : IncMode, field w.data 24 2 ≠ incModeNumber m) →
      exec (.portSelectorWrite a w) s = .next (State.afterWord { s.begun with control := { s.control with
        errors := s.control.errors.set 7 true } } a.tag (a.window + 17) w)))

/-- CONTROL_WORD_WRITE by the word's number (R22): an ordinary or live word does nothing in the part; words 16 and 17 are the
acknowledge and the selector; word 18 is offered to the selected table's owner (R35, R36); a slot word is captured byte by
byte by its lanes (R25), and at the trailer position, judged on the captured header, a take follows (R26).
A header word with no lane enabled does not make the header fresh (the model's choice, log 15). -/
def Obligations.ControlWordByItsNumber : Prop :=
  ∀ (s : State) (a : HostAccess) (k : Nat) (w : WriteWord), s.hears a = true →
    (k ≤ 15 ∨ (19 ≤ k ∧ k ≤ 31) ∨ (48 ≤ k ∧ k ≤ 1023) →
      exec (.controlWordWrite a k w) s = .next (s.begun.afterWord a.tag (a.window + k) w))
    ∧ exec (.controlWordWrite a 16 w) s = exec (.noticeAcknowledge a w) s
    ∧ exec (.controlWordWrite a 17 w) s = exec (.portSelectorWrite a w) s
    ∧ exec (.controlWordWrite a 18 w) s = .next (State.afterWord
        (((s.begun.offerTable w).getD (s.begun.addError .portRefused)).advancePort true) a.tag (a.window + 18) w)
    ∧ (32 ≤ k → k ≤ 47 → ∃ m : Word,
      (∀ b < 32, m.getLsbD b
        = if w.lanes.getLsbD (b / 8) then w.data.getLsbD b else (s.control.captured.get (k - 32)).getLsbD b)
      ∧ (let c : ControlUnit := { s.control with
           captured := s.control.captured.set (k - 32) m,
           freshHeader := s.control.freshHeader || (decide (k = 32) && decide (w.lanes ≠ 0#4)) }
         let length := field (c.captured.get 0) 24 5
         let trailer := if length ≤ 14 then length + 1 else 15
         exec (.controlWordWrite a k w) s = .next (State.afterWord
           (if k - 32 = trailer then State.take { s.begun with control := c } else { s.begun with control := c })
           a.tag (a.window + k) w)))

/-! ## The table port -/

/-- READ_ONLY_TABLE_WRITE: a word for PIN, STREAM or COUNTER, one with a lane clear, and one for a table of a BUSY engine are
refused without being offered, and PORT_REFUSED is added (R35); a selector word out of its table's range leaves the old
selector, adds PORT_RANGE, and the word goes where that selector points (R33); a whole word for a writable table is its
owner's to answer.
The post-increment (R36).
The row is one burst (the model's choice, log 4). -/
def Obligations.PortWritesAndIndex : Prop :=
  (∀ (s : State) (p : PortAccess) (table : PortTable) (index : Nat) (w : WriteWord), s.hears p.host = true → index < 2048 →
    (index ≤ lastIndex table →
      (w.lanes ≠ 15#4 ∨ table = .pin ∨ table = .stream ∨ table = .counter
        ∨ ((table = .station ∨ table = .group) ∧ s.control.busyIntercom = true)
        ∨ (table = .cue ∧ s.control.busyShow = true)) →
      exec (.readOnlyTableWrite p table index w) s
        = .next (((s.atPort p table index).addError .portRefused).afterPort p table index w))
    ∧ (index ≤ lastIndex table → w.lanes = 15#4 →
      table = .config ∨ table = .zone ∨ table = .pattern
        ∨ ((table = .station ∨ table = .group) ∧ s.control.busyIntercom = false)
        ∨ (table = .cue ∧ s.control.busyShow = false) →
      exec (.readOnlyTableWrite p table index w) s
        = .next ((((s.atPort p table index).writeTable table index w.data).getD
            ((s.atPort p table index).addError .portRefused)).afterPort p table index w))
    ∧ (lastIndex table < index →
      exec (.readOnlyTableWrite p table index w) s
        = .next ((((s.begun.addError .portRange).offerTable w).getD
            ((s.begun.addError .portRange).addError .portRefused)).afterPort p table index w)))
  ∧ (∀ (c : ControlUnit) (isWrite : Bool),
    ((c.selector.mode = .none ∨ (c.selector.mode = .writeOnly ∧ isWrite = false)) → c.advance isWrite = c)
    ∧ ((c.selector.mode = .readAndWrite ∨ (c.selector.mode = .writeOnly ∧ isWrite = true)) →
      (c.selector.index < lastIndex c.selector.table →
        c.advance isWrite = { c with selector := { c.selector with index := c.selector.index + 1 } })
      ∧ (lastIndex c.selector.table ≤ c.selector.index →
        c.advance isWrite = { c with errors := c.errors.set 7 true })))

/-! ## The ZONE table -/

/-- ZONE_MAP: every check of R51 holding, the zone is mapped with the written shape and its runtime state started as R52 gives;
any check failing, or a mapped zone, the write is refused (R51, R53).
ZONE_UNMAP: on a mapped zone, accepted in QUIET while no stream is bound, with the shape in range: the shape is stored and
the runtime state goes, counters kept (R55, R56); on an unmapped zone the shape alone is stored (R50); else refused.
Each row is one burst (the model's choice, log 4). -/
def Obligations.ZonesMapAndUnmap : Prop :=
  (∀ (s : State) (p : PortAccess) (z : Nat) (shape : ZoneShape), s.hears p.host = true → z < 64 → shape.ringPeriods < 64 →
    shape.senseLag < 64 →
    let e := (s.zone z).withShape shape
    let at' := s.atPort p .zone (8 * z)
    let data := zoneWord0 true shape
    let held : Prop := s.theatre.state = .held
    let placeable : Prop := 2 ≤ shape.ringPeriods ∧ shape.ringPeriods ≤ 32 ∧ shape.senseLag ≤ 47
      ∧ e.playoutBase + e.ringPeriods * 48 ≤ 268435456 ∧ (∀ q ∈ s.regions, e.playoutSpan.overlaps q = false)
      ∧ (shape.sensePresent = true → e.senseBase + e.ringPeriods * 48 ≤ 268435456
        ∧ e.playoutSpan.overlaps e.senseSpan = false ∧ ∀ q ∈ s.regions, e.senseSpan.overlaps q = false)
    ((s.zone z).mapped = false → placeable → ∀ (level : Nat) (entry : Option Nat),
      (shape.kind = .theatreZone → ¬ held → level = e.programGain ∧ entry = none) →
      (shape.kind = .theatreZone → held → level = 0 ∧ entry = some e.programGain) →
      (shape.kind ≠ .theatreZone → level = 0 ∧ entry = none) →
      exec (.zoneMap p z shape) s = State.tableWritten { at' with
        zones := s.zones.set z { e with
          mapped := true, bound := none, watch := e.watchLimit, silent := false, level := level, levelTarget := level,
          ramp := none, seen := Bank.fill 48 false, tally := 0, passRun := 0, failRun := 0, verdict := .unchecked },
        theatre := { s.theatre with
          snapshot := s.theatre.snapshot.map fun h => { h with levels := h.levels.set z entry } } } p .zone (8 * z) data)
    ∧ ((s.zone z).mapped = true ∨ ¬ placeable → exec (.zoneMap p z shape) s = s.tableRefused p .zone (8 * z) data))
  ∧ (∀ (s : State) (p : PortAccess) (z : Nat) (shape : ZoneShape), s.hears p.host = true → z < 64 → shape.ringPeriods < 64 →
    shape.senseLag < 64 →
    let e := (s.zone z).withShape shape
    let at' := s.atPort p .zone (8 * z)
    let data := zoneWord0 false shape
    let inRange : Prop := 2 ≤ shape.ringPeriods ∧ shape.ringPeriods ≤ 32 ∧ shape.senseLag ≤ 47
    ((s.zone z).mapped = true → inRange → s.alarm.state = .quiet → (s.zone z).bound = none →
      exec (.zoneUnmap p z shape) s = State.tableWritten { at' with
        zones := s.zones.set z { e with
          mapped := false, watch := 0, silent := false, level := 0, levelTarget := 0, ramp := none,
          seen := Bank.fill 48 false, tally := 0, passRun := 0, failRun := 0, verdict := .unchecked },
        theatre := { s.theatre with
          snapshot := s.theatre.snapshot.map fun h => { h with levels := h.levels.set z none } } } p .zone (8 * z) data)
    ∧ ((s.zone z).mapped = false → inRange →
      exec (.zoneUnmap p z shape) s = State.tableWritten { at' with zones := s.zones.set z e } p .zone (8 * z) data)
    ∧ (¬ inRange ∨ ((s.zone z).mapped = true ∧ (s.alarm.state ≠ .quiet ∨ (s.zone z).bound.isSome = true)) →
      exec (.zoneUnmap p z shape) s = s.tableRefused p .zone (8 * z) data))

/-- ZONE_FIELD_WRITE, words 1 to 7 (R50, R53, R54): the bases while the zone is unmapped; the gains, the priority word and the
pilot always, within their ranges; a new program gain is the level of a mapped THEATRE zone while the show is IDLE or
STOPPED; word 7 is refused. Word 0 is a mapping or unmapping request for the shape its bits give.
The fallback evaluation (R151): outside QUIET it asserts the line of every group with a mapped zone that is silent or
FAILING and releases none; in QUIET it changes nothing.
The row is one burst, and the evaluation is made at every accepted write of word 5 (the model's choices, log 4 and log 18). -/
def Obligations.ZoneFieldsAndFallback : Prop :=
  (∀ (s : State) (p : PortAccess) (z : Nat) (data : Word), s.hears p.host = true → z < 64 →
    let e := s.zone z
    let at' (w : Nat) := s.atPort p .zone (8 * z + w)
    let wrote (w : Nat) (e' : ZoneEntry) : Answer :=
      State.tableWritten { at' w with zones := s.zones.set z e' } p .zone (8 * z + w) data
    let refused (w : Nat) : Answer := s.tableRefused p .zone (8 * z + w) data
    let gains : Prop := field data 0 13 ≤ 4096 ∧ field data 16 13 ≤ 4096
    let follows : Prop := e.mapped = true ∧ e.kind = .theatreZone ∧ (s.theatre.state = .idle ∨ s.theatre.state = .stopped)
    let fits : Prop := 1 ≤ field data 0 3 ∧ 2 ≤ field data 8 8 ∧ (field data 16 4 ≤ 7 ∨ field data 16 4 = 15)
    exec (.zoneFieldWrite p z 0 data) s = (match (at' 0).writeZoneShape z data with
      | some t => State.tableWritten t p .zone (8 * z) data
      | none => s.tableRefused p .zone (8 * z) data)
    ∧ (e.mapped = false → data.toNat ≤ 268435455 →
      exec (.zoneFieldWrite p z 1 data) s = wrote 1 { e with playoutBase := data.toNat }
      ∧ exec (.zoneFieldWrite p z 2 data) s = wrote 2 { e with senseBase := data.toNat })
    ∧ (e.mapped = true ∨ 268435455 < data.toNat →
      exec (.zoneFieldWrite p z 1 data) s = refused 1 ∧ exec (.zoneFieldWrite p z 2 data) s = refused 2)
    ∧ (gains → follows → exec (.zoneFieldWrite p z 3 data) s = wrote 3 { e with
        programGain := field data 0 13, duckGain := field data 16 13, level := field data 0 13,
        levelTarget := field data 0 13 })
    ∧ (gains → ¬ follows → exec (.zoneFieldWrite p z 3 data) s = wrote 3 { e with
        programGain := field data 0 13, duckGain := field data 16 13 })
    ∧ (gains → exec (.zoneFieldWrite p z 4 data) s = wrote 4 { e with
        overlayGain := field data 0 13, alarmGain := field data 16 13 })
    ∧ (¬ gains → exec (.zoneFieldWrite p z 3 data) s = refused 3 ∧ exec (.zoneFieldWrite p z 4 data) s = refused 4)
    ∧ (fits → exec (.zoneFieldWrite p z 5 data) s = State.tableWritten (State.evaluateFallback { at' 5 with
        zones := s.zones.set z { e with
          minPriority := field data 0 3, watchLimit := field data 8 8,
          fallbackGroup := if field data 16 4 = 15 then none else some (field data 16 4) } }) p .zone (8 * z + 5) data)
    ∧ (¬ fits → exec (.zoneFieldWrite p z 5 data) s = refused 5)
    ∧ exec (.zoneFieldWrite p z 6 data) s = wrote 6 { e with
        pilotLevel := field data 0 8, pilotPattern := field data 8 3 }
    ∧ exec (.zoneFieldWrite p z 7 data) s = refused 7)
  ∧ (∀ s : State,
    (s.alarm.state = .quiet → s.evaluateFallback = s)
    ∧ (s.alarm.state ≠ .quiet →
      (∀ g < 8, s.evaluateFallback.alarm.fallback.get g = true ↔ s.alarm.fallback.get g = true
        ∨ ∃ z < 64, (s.zone z).mapped = true ∧ ((s.zone z).silent = true ∨ (s.zone z).verdict = .failing)
          ∧ (s.zone z).fallbackGroup = some g)
      ∧ ∃ lines, s.evaluateFallback = { s with alarm := { s.alarm with fallback := lines } }))

/-! ## The STATION and GROUP tables -/

/-- STATION_ACTIVATE, STATION_DEACTIVATE and STATION_FIELD_WRITE while the intercom engine is not BUSY (R111 to R113; while it is
BUSY every one is refused, R35).
The row is one burst (the model's choice, log 4). -/
def Obligations.StationTableWrites : Prop :=
  ∀ (s : State) (p : PortAccess) (n periods : Nat) (data : Word), s.hears p.host = true → n < 32 → periods < 64 →
    let r := s.station n
    let at' (w : Nat) := s.atPort p .station (6 * n + w)
    let wrote (w : Nat) (d : Word) (r' : StationRecord) : Answer :=
      State.tableWritten { at' w with stations := s.stations.set n r' } p .station (6 * n + w) d
    let refused (w : Nat) (d : Word) : Answer := s.tableRefused p .station (6 * n + w) d
    let cleared : StationRecord := { r with
      ringPeriods := periods, ownFilling := Bank.fill 48 0, written := Bank.fill 48 false, ownReady := Bank.fill 48 0,
      readyGroup := none, heard := 0 }
    let inRange : Prop := 2 ≤ periods ∧ periods ≤ 32
    let placeable : Prop := inRange ∧ r.micBase + periods * 48 ≤ 268435456 ∧ r.earBase + periods * 48 ≤ 268435456
      ∧ cleared.micSpan.overlaps cleared.earSpan = false
      ∧ ∀ q ∈ s.regions, cleared.micSpan.overlaps q = false ∧ cleared.earSpan.overlaps q = false
    (s.control.busyIntercom = true →
      exec (.stationActivate p n periods) s = refused 0 (stationWord0 true periods)
      ∧ exec (.stationDeactivate p n periods) s = refused 0 (stationWord0 false periods)
      ∧ ∀ w < 6, exec (.stationFieldWrite p n w data) s = refused w data)
    ∧ (s.control.busyIntercom = false →
      (r.active = false → placeable →
        exec (.stationActivate p n periods) s = wrote 0 (stationWord0 true periods) { cleared with active := true })
      ∧ (r.active = true ∨ ¬ placeable →
        exec (.stationActivate p n periods) s = refused 0 (stationWord0 true periods))
      ∧ (r.active = true → inRange → r.talk = none →
        exec (.stationDeactivate p n periods) s = wrote 0 (stationWord0 false periods) { cleared with active := false })
      ∧ (r.active = false → inRange →
        exec (.stationDeactivate p n periods) s = wrote 0 (stationWord0 false periods) { r with ringPeriods := periods })
      ∧ (¬ inRange ∨ (r.active = true ∧ r.talk.isSome = true) →
        exec (.stationDeactivate p n periods) s = refused 0 (stationWord0 false periods))
      ∧ exec (.stationFieldWrite p n 0 data) s = (match (at' 0).writeStationShape n data with
        | some t => State.tableWritten t p .station (6 * n) data
        | none => s.tableRefused p .station (6 * n) data)
      ∧ (r.active = false → data.toNat ≤ 268435455 →
        exec (.stationFieldWrite p n 1 data) s = wrote 1 data { r with micBase := data.toNat }
        ∧ exec (.stationFieldWrite p n 2 data) s = wrote 2 data { r with earBase := data.toNat })
      ∧ (r.active = true ∨ 268435455 < data.toNat →
        exec (.stationFieldWrite p n 1 data) s = refused 1 data ∧ exec (.stationFieldWrite p n 2 data) s = refused 2 data)
      ∧ (field data 0 13 ≤ 4096 →
        exec (.stationFieldWrite p n 3 data) s = wrote 3 data { r with alarmGain := field data 0 13 })
      ∧ (4096 < field data 0 13 → exec (.stationFieldWrite p n 3 data) s = refused 3 data)
      ∧ exec (.stationFieldWrite p n 4 data) s = refused 4 data
      ∧ exec (.stationFieldWrite p n 5 data) s = refused 5 data)

/-- GROUP_DEFINE, GROUP_UNDEFINE and GROUP_GAIN_WRITE (R114, R115; R35 while the intercom engine is BUSY).
The row is one burst (the model's choice, log 4). -/
def Obligations.GroupTableWrites : Prop :=
  ∀ (s : State) (p : PortAccess) (g : Nat) (essential : Bool) (data : Word), s.hears p.host = true → g < 16 →
    let r := s.group g
    let at' (w : Nat) := s.atPort p .group (4 * g + w)
    let refused (w : Nat) (d : Word) : Answer := s.tableRefused p .group (4 * g + w) d
    let defineWord := groupWord0 true essential
    let undefineWord := groupWord0 false essential
    let frozen : Prop := s.control.busyIntercom = true ∨ (s.alarm.state ≠ .quiet ∧ essential ≠ r.essential)
    let inUse : Prop := 0 < s.talkerCount g ∨ 0 < s.streamCount g
    (frozen → exec (.groupDefine p g essential) s = refused 0 defineWord
      ∧ exec (.groupUndefine p g essential) s = refused 0 undefineWord)
    ∧ (¬ frozen →
      (r.defined = false →
        exec (.groupDefine p g essential) s = State.tableWritten { at' 0 with groups := s.groups.set g { r with
          defined := true, essential := essential, filling := Bank.fill 48 0, ready := Bank.fill 48 0 } }
          p .group (4 * g) defineWord
        ∧ exec (.groupUndefine p g essential) s = State.tableWritten { at' 0 with
          groups := s.groups.set g { r with essential := essential } } p .group (4 * g) undefineWord)
      ∧ (r.defined = true →
        exec (.groupDefine p g essential) s = State.tableWritten { at' 0 with
          groups := s.groups.set g { r with essential := essential } } p .group (4 * g) defineWord
        ∧ (inUse → exec (.groupUndefine p g essential) s = refused 0 undefineWord)
        ∧ (¬ inUse → exec (.groupUndefine p g essential) s = State.tableWritten { at' 0 with
          groups := s.groups.set g { r with
            defined := false, essential := essential, filling := Bank.fill 48 0, ready := Bank.fill 48 0 },
          stations := s.stations.map fun q =>
            if q.readyGroup = some g then { q with ownReady := Bank.fill 48 0, readyGroup := none } else q }
          p .group (4 * g) undefineWord)))
    ∧ (s.control.busyIntercom = true → ∀ w, 1 ≤ w → w ≤ 3 → exec (.groupGainWrite p g w data) s = refused w data)
    ∧ (s.control.busyIntercom = false →
      (field data 0 13 ≤ 4096 → exec (.groupGainWrite p g 1 data) s = State.tableWritten { at' 1 with
          groups := s.groups.set g { r with gain := field data 0 13 } } p .group (4 * g + 1) data)
      ∧ (4096 < field data 0 13 → exec (.groupGainWrite p g 1 data) s = refused 1 data)
      ∧ exec (.groupGainWrite p g 2 data) s = refused 2 data ∧ exec (.groupGainWrite p g 3 data) s = refused 3 data)

/-! ## The CUE and PATTERN tables -/

/-- CUE_WRITE (R170): refused while the show engine is BUSY (R35), to a cue up to the pointer of a RUNNING or HELD show, and for a
word 0 that names no trigger or action or has a FOLLOW value above 65,535; else the word is replaced, the cue state kept.
LIST_LENGTH_WRITE, by the table of R171.
CONFIG_WRITE: the mask, the page timeout and the pass threshold, each within its accepted values; any other value is
refused (R38).
PATTERN_WRITE: a segment or the length, in QUIET and in range; refused otherwise (R144).
Each row is one burst (the model's choice, log 4). -/
def Obligations.CueConfigAndPatternWrites : Prop :=
  (∀ (s : State) (p : PortAccess) (n : Nat) (data : Word), s.hears p.host = true → n < 256 →
    let c := s.theatre.cue n
    let wrote (w : Nat) (c' : Cue) : Answer := State.tableWritten { s.atPort p .cue (4 * n + w) with
      theatre := { s.theatre with cues := s.theatre.cues.set n c' } } p .cue (4 * n + w) data
    let refused (w : Nat) : Answer := s.tableRefused p .cue (4 * n + w) data
    let closed : Prop := s.control.busyShow = true
      ∨ ((s.theatre.state = .running ∨ s.theatre.state = .held) ∧ n ≤ s.theatre.pointer)
    (closed → ∀ w < 4, exec (.cueWrite p n w data) s = refused w)
    ∧ (¬ closed →
      exec (.cueWrite p n 1 data) s = wrote 1 { c with word1 := data }
      ∧ exec (.cueWrite p n 2 data) s = wrote 2 { c with word2 := data }
      ∧ exec (.cueWrite p n 3 data) s = wrote 3 { c with word3 := data }
      ∧ (∀ (t : Trigger) (a : CueAction), field data 0 2 = triggerNumber t → field data 2 3 = cueActionNumber a →
        (t = .follow → field data 12 20 ≤ 65535) →
        exec (.cueWrite p n 0 data) s = wrote 0 { c with
          trigger := t, action := a, notify := data.getLsbD 5, repeats := field data 8 4, value := field data 12 20 })
      ∧ ((field data 0 2 = 3 ∨ 5 ≤ field data 2 3 ∨ (field data 0 2 = 2 ∧ 65535 < field data 12 20)) →
        exec (.cueWrite p n 0 data) s = refused 0)))
  ∧ (∀ (s : State) (p : PortAccess) (data : Word), s.hears p.host = true →
    let n := field data 0 9
    let at' := s.atPort p .cue 1024
    let wrote (t : State) : Answer := t.tableWritten p .cue 1024 data
    let refused : Answer := s.tableRefused p .cue 1024 data
    (s.control.busyShow = true ∨ 256 < n ∨ s.theatre.state = .running ∨ s.theatre.state = .held →
      exec (.listLengthWrite p data) s = refused)
    ∧ (s.control.busyShow = false → n ≤ 256 →
      (s.theatre.state = .idle → n = 0 → exec (.listLengthWrite p data) s = wrote { at' with
        theatre := { s.theatre with length := 0 } })
      ∧ (s.theatre.state = .idle → 1 ≤ n → exec (.listLengthWrite p data) s = wrote (State.post { at' with
        theatre := { s.theatre with length := n, state := .stopped } } .showNotice))
      ∧ (s.theatre.state = .stopped → n = 0 → exec (.listLengthWrite p data) s = wrote (State.post { at' with
        theatre := { s.theatre with length := 0, pointer := 0, state := .idle,
                                    cues := s.theatre.cues.map fun c => { c with state := .waiting } } } .showNotice))
      ∧ (s.theatre.state = .stopped → 1 ≤ n → exec (.listLengthWrite p data) s = wrote { at' with
        theatre := { s.theatre with length := n } })))
  ∧ (∀ (s : State) (p : PortAccess) (data : Word), s.hears p.host = true →
    (data.toNat < 512 → exec (.configWrite p 0 data) s = State.tableWritten { s.atPort p .config 0 with
        control := { (s.atPort p .config 0).control with mask := Bank.ofFn 9 fun i => data.getLsbD i } } p .config 0 data)
    ∧ (512 ≤ data.toNat → exec (.configWrite p 0 data) s = s.tableRefused p .config 0 data)
    ∧ (1 ≤ field data 0 16 → exec (.configWrite p 1 data) s = State.tableWritten { s.atPort p .config 1 with
        control := { (s.atPort p .config 1).control with pageTimeout := field data 0 16 } } p .config 1 data)
    ∧ (field data 0 16 = 0 → exec (.configWrite p 1 data) s = s.tableRefused p .config 1 data)
    ∧ (1 ≤ field data 0 6 ∧ field data 0 6 ≤ 48 →
      exec (.configWrite p 2 data) s = State.tableWritten { s.atPort p .config 2 with
        control := { (s.atPort p .config 2).control with passThreshold := field data 0 6 } } p .config 2 data)
    ∧ (field data 0 6 = 0 ∨ 48 < field data 0 6 → exec (.configWrite p 2 data) s = s.tableRefused p .config 2 data))
  ∧ (∀ (s : State) (p : PortAccess) (i : Nat) (data : Word), s.hears p.host = true → i ≤ 16 →
    let segmentFits : Prop := (field data 0 12 = 0 ∨ (100 ≤ field data 0 12 ∧ field data 0 12 ≤ 3000)) ∧ 1 ≤ field data 16 16
    let lengthFits : Prop := 1 ≤ field data 0 5 ∧ field data 0 5 ≤ 16
    (s.alarm.state = .quiet → i < 16 → segmentFits →
      exec (.patternWrite p i data) s = State.tableWritten { s.atPort p .pattern i with alarm := { s.alarm with
        segments := s.alarm.segments.set i { frequency := field data 0 12, duration := field data 16 16 } } }
        p .pattern i data)
    ∧ (s.alarm.state = .quiet → lengthFits →
      exec (.patternWrite p 16 data) s = State.tableWritten { s.atPort p .pattern 16 with alarm := { s.alarm with
        patternLength := field data 0 5 } } p .pattern 16 data)
    ∧ (s.alarm.state ≠ .quiet ∨ (i < 16 ∧ ¬ segmentFits) ∨ (i = 16 ∧ ¬ lengthFits) →
      exec (.patternWrite p i data) s = s.tableRefused p .pattern i data))

/-! ## The take -/

/-- An answered take publishes at its own event (R30): the header's sequence and code with the take's result; the whole error
accumulator, the take's own flag included, as the published set; the accumulator empty; COMMAND posted.
An unanswered take publishes nothing: its flag is added to the accumulator, the outcome, the published set and the notices
stay, and an accepted command's effects are in the blocks' state alone (R31). `j` is what the checks came to. -/
def Obligations.TakePublishesOnlyWhenAnswered : Prop :=
  (∀ s : State, s.control.header.getLsbD 16 = true →
    let j := State.judgeTake { s with control := { s.control with freshHeader := false } } s.control.freshHeader
    s.take.control.outcome
        = { sequence := field s.control.header 8 8, code := field s.control.header 0 5, result := j.result }
      ∧ (j.error = none ↔ ∃ value, j.result = .accepted value)
      ∧ (∀ f : ErrorFlag, s.take.control.published.get f.index = true ↔ s.control.errors.get f.index = true ∨ j.error = some f)
      ∧ (∀ f : ErrorFlag, s.take.control.errors.get f.index = false)
      ∧ s.take.control.pendingNotices.get 8 = true
      ∧ s.take = { j.after with control := s.take.control })
  ∧ (∀ s : State, s.control.header.getLsbD 16 = false →
    let j := State.judgeTake { s with control := { s.control with freshHeader := false } } s.control.freshHeader
    s.take.control.outcome = s.control.outcome ∧ s.take.control.published = s.control.published
      ∧ (∀ f : ErrorFlag, s.take.control.errors.get f.index = true ↔ s.control.errors.get f.index = true ∨ j.error = some f)
      ∧ s.take.control.pendingNotices = j.after.control.pendingNotices
      ∧ ((∀ value, j.result ≠ .accepted value) → s.take.control.pendingNotices = s.control.pendingNotices)
      ∧ s.take = { j.after with control := s.take.control })

/-- The checks of a take in their order, each with its result and its flag, on the captured words (R27 to R29); every take clears
the fresh-header flag, and one that is not accepted changes nothing else but by its report (R26, R27). A command belongs to an
engine by its code, an RST to the engines of its scope (R28, R43).
The BUSY answer of every command row whose engine is BUSY, whatever its arguments (R27, R28, R43, R44).
The scope of an RST is read from captured word 1 whatever its length (the model's choice, log 14), and a command row is one burst
(log 4). -/
def Obligations.TakeChecksInOrder : Prop :=
  (∀ s : State,
    let header := s.control.captured.get 0
    let length := field header 24 5
    let u : State := { s with control := { s.control with freshHeader := false } }
    let ends (r : TakeResult) (f : ErrorFlag) : State := { u with control := u.control.report header r (some f) }
    let crcHolds : Prop := field (s.control.captured.get (length + 1)) 0 16
      = (crc16 ((List.range (length + 1)).map s.control.captured.get)).toNat
    let code := field header 0 5
    let scope := (s.control.captured.get 1).toNat
    let busy : Prop := ((code = 1 ∨ code = 2 ∨ code = 3) ∧ s.control.busyStream = true)
      ∨ ((code = 4 ∨ code = 5) ∧ s.control.busyIntercom = true)
      ∨ ((code = 10 ∨ code = 11 ∨ code = 12 ∨ code = 13) ∧ s.control.busyShow = true)
      ∨ (code = 16 ∧ ((scope = 1 ∧ s.control.busyStream = true) ∨ ((scope = 1 ∨ scope = 2) ∧ s.control.busyIntercom = true)
        ∨ ((scope = 1 ∨ scope = 3) ∧ s.control.busyShow = true)))
    (s.control.freshHeader = false → s.take = ends .rejected .tornSlot)
    ∧ (s.control.freshHeader = true → 14 < length → s.take = ends .rejected .length)
    ∧ (s.control.freshHeader = true → length ≤ 14 → ¬ crcHolds → s.take = ends .rejected .check)
    ∧ (s.control.freshHeader = true → length ≤ 14 → crcHolds →
      (code = 0 ∨ 17 < code → s.take = ends .rejected .code)
      ∧ ∀ c : Command, parseCommand code s.control.captured.get = some c →
        (busy → s.take = ends .busy .busy)
        ∧ (¬ busy → c.payloadLength ≠ some length → s.take = ends (.refused .argument) .refused)
        ∧ (¬ busy → c.payloadLength = some length →
          (∀ reason, u.ownRule c = .error reason → s.take = ends (.refused reason) .refused)
          ∧ ∀ value t, u.ownRule c = .ok (value, t) →
            s.take = { t with control := t.control.report header (.accepted value) none })))
  ∧ ∀ (s : State) (h : CommandHead), s.hears h.host = true →
    let found (c : Command) : Answer := .next ((s.atTake h c).afterTake h c .busy (some .busy))
    let streamBusy : Prop := s.control.busyStream = true
    let intercomBusy : Prop := s.control.busyIntercom = true
    let showBusy : Prop := s.control.busyShow = true
    (streamBusy → exec (.pgc h) s = found .pgc
      ∧ (∀ index, wordOk index = true → exec (.anx h index) s = found (.anx index))
      ∧ ∀ priority zones source, (ansCommand priority zones source).fits = true →
        exec (ansRow h priority zones source) s = found (ansCommand priority zones source))
    ∧ (intercomBusy → (∀ station group, station ≤ 255 → group ≤ 31 →
        exec (.ict h station group) s = found (.ict station group))
      ∧ ∀ station groups, station ≤ 255 → exec (.icl h station groups) s = found (.icl station groups))
    ∧ (showBusy → exec (.shg h) s = found .shg ∧ exec (.shh h) s = found .shh ∧ exec (.shr h) s = found .shr
      ∧ exec (.shs h) s = found .shs)
    ∧ (streamBusy ∨ intercomBusy ∨ showBusy → exec (.rstAll h) s = found (.rst 1))
    ∧ (intercomBusy → exec (.rstIntercom h) s = found (.rst 2))
    ∧ (showBusy → exec (.rstShow h) s = found (.rst 3))

/-- A command record written from its operands is read back as the command, with every operand at every value its field admits,
and its header and trailer as a take checks them (11.3). -/
def Obligations.RecordReadsBackAsItsCommand : Prop :=
  ∀ (h : CommandHead) (c : Command), c.fits = true → h.sequence ≤ 255 →
    let w (k : Nat) : Word := (recordWords h c).getD k 0#32
    let length := c.payload.length
    length ≤ 14 ∧ (recordWords h c).length = length + 2 ∧ c.payloadLength = some length
    ∧ field (w 0) 0 5 = c.code ∧ field (w 0) 8 8 = h.sequence ∧ (w 0).getLsbD 16 = h.answer ∧ field (w 0) 24 5 = length
    ∧ field (w (length + 1)) 0 16 = (crc16 ((List.range (length + 1)).map w)).toNat
    ∧ parseCommand c.code w = some c

/-! ## Streams -/

/-- ANS_CLIP, ANS_LIVE and ANS_GROUP while the stream engine is not BUSY: the refusals in the order of R85, else the
lowest-numbered FREE record is started on the zones the binding rule takes (R86, R87), and the result holds its index and
their number (11.3).
The row is one burst (the model's choice, log 4). -/
def Obligations.AnsRefusedInOrderOrStarted : Prop :=
  ∀ (s : State) (h : CommandHead) (priority : Nat) (zones : ZoneSet) (source : StartSource), s.hears h.host = true →
    (ansCommand priority zones source).fits = true → s.control.busyStream = false →
    let c := ansCommand priority zones source
    let row := ansRow h priority zones source
    let badArgument : Prop := priority = 0 ∨ 7 < priority ∨ match source with
      | .clip base periods repeats => periods = 0 ∨ 15 < repeats ∨ 268435455 < base + periods * 48 - 1
      | .live => False
      | .group g => 15 < g ∨ (s.group g).defined = false
    let alarmed : Prop := s.alarm.state = .sounding ∨ (s.alarm.state = .muster ∧ priority ≠ 7)
    let unpinned : Prop := priority = 7 ∧ match source with
      | .clip base periods _ => ∀ e < 8, (s.transit.pins.get e).inUse = true →
          base < (s.transit.pins.get e).base
            ∨ (s.transit.pins.get e).base + (s.transit.pins.get e).length < base + periods * 48
      | .live => False
      | .group _ => False
    let liveTaken : Prop := source = .live ∧ ∃ n < 8, (s.stream n).source = .live ∧ (s.stream n).state ≠ .free
    let full : Prop := ∀ n < 8, (s.stream n).state ≠ .free
    let taken := s.zonesTaken priority zones
    (badArgument → exec row s = s.commandRefused h c .argument)
    ∧ (¬ badArgument →
      (alarmed → exec row s = s.commandRefused h c .alarm)
      ∧ (¬ alarmed → unpinned → exec row s = s.commandRefused h c .notPinned)
      ∧ (¬ alarmed → ¬ unpinned → liveTaken → exec row s = s.commandRefused h c .state)
      ∧ (¬ alarmed → ¬ unpinned → ¬ liveTaken → full → exec row s = s.commandRefused h c .noStream)
      ∧ (¬ alarmed → ¬ unpinned → ¬ liveTaken → ¬ full → taken = [] → exec row s = s.commandRefused h c .argument)
      ∧ (¬ alarmed → ¬ unpinned → ¬ liveTaken → taken ≠ [] → ∀ n < 8, (s.stream n).state = .free →
        (∀ m < n, (s.stream m).state ≠ .free) →
        exec row s = State.commandAccepted ((s.atTake h c).startStream n .announce priority source taken) h c
          (n + 256 * taken.length)))

/-- The binding rule: the zones a start takes, in ascending order (R86).
A start on a FREE record (R84, R86 to R88): the record is set up afresh, the zones move to it, a live stream left without
zones is PREEMPTED and its waiting READs are withdrawn, a CLIP's first three READs join the own queue, which keeps its order by
stream index (R19), a LIVE page opens the window. -/
def Obligations.BindingAndStart : Prop :=
  (∀ (s : State) (p : Nat) (zs : ZoneSet),
    (s.zonesTaken p zs).Pairwise (· < ·)
    ∧ ∀ z, z ∈ s.zonesTaken p zs ↔ z < 64 ∧ zoneIn zs z = true ∧ (s.zone z).mapped = true ∧ (s.zone z).minPriority ≤ p
      ∧ ((s.zone z).bound = none ∨ ∃ n, (s.zone z).bound = some n
        ∧ ((s.stream n).state = .ending ∨ (s.stream n).priority < p)))
  ∧ (∀ (s : State) (n priority : Nat) (owner : StreamOwner) (source : StartSource) (zs : List Nat), n < 8 →
    (s.stream n).state = .free → (∀ z ∈ zs, z < 64) → zs ≠ [] → (∀ r ∈ s.transit.ownQueue, r.stream ≠ n) →
    let t := s.startStream n owner priority source zs
    let base : StreamRecord := { StreamRecord.reset with
      state := .starting, owner := owner, priority := priority, buffers := (s.stream n).buffers }
    let preempted (m : Nat) : Prop := (s.stream m).live = true ∧ ∀ z < 64, (s.zone z).bound = some m → z ∈ zs
    let waits (s : State) (m : Nat) : List OwnRequest := s.transit.ownQueue.filter fun r => r.stream == m
    (∀ z < 64, t.zone z = if z ∈ zs then { s.zone z with bound := some n } else s.zone z)
    ∧ (∀ m < 8, m ≠ n →
        (preempted m → t.stream m = { s.stream m with state := .ending, endCause := .preempted, drained := false }
          ∧ waits t m = [])
        ∧ (¬ preempted m → t.stream m = s.stream m ∧ waits t m = waits s m))
    ∧ ((s.transit.ownQueue.Pairwise fun a b => a.stream ≤ b.stream) →
        t.transit.ownQueue.Pairwise fun a b => a.stream ≤ b.stream)
    ∧ (∀ b p k, source = .clip b p k → 1 ≤ p →
        (∃ buffer < 4, t.stream n = { base with
          source := .clip, clipBase := b, clipPeriods := p, periodsLeft := p * (k + 1),
          queue := [Slot.fetching 0 0 buffer], nextFetch := if p = 1 ∧ 0 < k then 0 else 1,
          repeatsLeft := if p = 1 ∧ 0 < k then k - 1 else k, passUnderFetch := if p = 1 ∧ 0 < k then 1 else 0 })
        ∧ waits t n
          = [{ stream := n, pass := 0, period := 0, part := 0, addr := b },
             { stream := n, pass := 0, period := 0, part := 1, addr := b + 16 },
             { stream := n, pass := 0, period := 0, part := 2, addr := b + 32 }])
    ∧ (source = .live → t.stream n = { base with source := .live } ∧ t.page.capture = none ∧ t.page.stray = none)
    ∧ (∀ g, source = .group g → t.stream n = { base with source := .group, group := g })
    ∧ t.alarm = s.alarm ∧ t.stations = s.stations ∧ t.groups = s.groups ∧ t.theatre = s.theatre ∧ t.clock = s.clock
    ∧ t.transit.ownTags = s.transit.ownTags ∧ t.transit.tags = s.transit.tags ∧ t.control.errors = s.control.errors)

/-- A record enters ENDING from STARTING, PLAYING or PAUSED: the cause is recorded, its waiting READs are withdrawn, a LIVE
record's window closes, the last ended stream word is set (the highest index of one event stays), STREAM is posted; nothing
else changes, and a record FREE or ENDING is left as it is (R92, R18, R95).
ANX and PGC (R94, R99).
The row is one burst (the model's choice, log 4). -/
def Obligations.AnxPgcAndEnding : Prop :=
  (∀ (s : State) (cause : EndCause) (n : Nat), n < 8 →
    let r := s.stream n
    (r.state = .free ∨ r.state = .ending → s.endStream cause n = s)
    ∧ (r.state = .starting ∨ r.state = .playing ∨ r.state = .paused → s.endStream cause n = State.post { s with
        streams := s.streams.set n { r with state := .ending, endCause := cause, drained := false },
        transit := { s.transit with ownQueue := s.transit.ownQueue.filter fun q => q.stream != n },
        page := if r.source = .live then { s.page with capture := none } else s.page,
        lastEnded := if s.event.ended.getD 0 ≤ n then some { index := n, cause := cause, owner := r.owner } else s.lastEnded,
        event := if s.event.ended.getD 0 ≤ n then { s.event with ended := some n } else s.event } .stream))
  ∧ (∀ (s : State) (h : CommandHead) (index : Nat), s.hears h.host = true → wordOk index = true → s.control.busyStream = false →
    let r := s.stream index
    let stopped : Prop := r.state = .free ∨ r.state = .ending
    let page (n : Nat) : Prop := (s.stream n).source = .live
      ∧ ((s.stream n).state = .starting ∨ (s.stream n).state = .playing) ∧ (s.stream n).closing = false
    (7 < index → exec (.anx h index) s = s.commandRefused h (.anx index) .argument)
    ∧ (index ≤ 7 → stopped ∨ r.owner ≠ .announce → exec (.anx h index) s = s.commandRefused h (.anx index) .state)
    ∧ (index ≤ 7 → ¬ stopped → r.owner = .announce →
      exec (.anx h index) s
        = State.commandAccepted ((s.atTake h (.anx index)).endStream .aborted index) h (.anx index) index)
    ∧ (∀ n < 8, page n → (∀ m < n, ¬ page m) →
      exec (.pgc h) s = State.commandAccepted { s.atTake h .pgc with
        streams := s.streams.set n { s.stream n with
          closing := true, queue := (s.stream n).queue.filter fun x => x.ready },
        page := { s.page with capture := none } } h .pgc n)
    ∧ ((∀ n < 8, ¬ page n) → exec (.pgc h) s = s.commandRefused h .pgc .state))

/-! ## The intercom -/

/-- ICT while the intercom engine is not BUSY: the refusals in the order of R125, else the talk group moves, taking the station's
share of the period in progress out of the old group; the result is the new group's talker count.
ICL while the intercom engine is not BUSY: the refusals in the order of R126, else the listen set is replaced and the result
is its size.
The row is one burst (the model's choice, log 4), and the record keeps its heard count through an ICT (the model's reading,
log 31). -/
def Obligations.TalkAndListen : Prop :=
  (∀ (s : State) (h : CommandHead) (station group : Nat), s.hears h.host = true → station ≤ 255 → group ≤ 31 →
    s.control.busyIntercom = false →
    let c : Command := .ict station group
    let r := s.station station
    let t := s.atTake h c
    let new : Option Nat := if group = 31 then none else some group
    let value (u : State) : Nat := if group = 31 then 0 else u.talkerCount group
    let done (u : State) : Answer := u.commandAccepted h c (value u)
    let outOfRange : Prop := 31 < station ∨ (15 < group ∧ group ≠ 31)
    let unheard : Prop := group ≠ 31 ∧ ((s.group group).defined = false ∨ r.listen.get group = false)
    let crowded : Prop := group ≠ 31 ∧ r.talk ≠ some group ∧ 6 ≤ s.talkerCount group
    (outOfRange → exec (.ict h station group) s = s.commandRefused h c .argument)
    ∧ (¬ outOfRange →
      (r.active = false → exec (.ict h station group) s = s.commandRefused h c .state)
      ∧ (r.active = true → unheard → exec (.ict h station group) s = s.commandRefused h c .argument)
      ∧ (r.active = true → ¬ unheard → crowded → exec (.ict h station group) s = s.commandRefused h c .contention)
      ∧ (r.active = true → ¬ unheard → ¬ crowded →
        (r.talk = new → exec (.ict h station group) s = done t)
        ∧ (r.talk = none → new ≠ none →
          exec (.ict h station group) s = done { t with stations := s.stations.set station { r with talk := new } })
        ∧ ∀ old < 16, r.talk = some old → new ≠ some old →
          exec (.ict h station group) s = done { t with
            stations := s.stations.set station { r with
              talk := new, ownFilling := Bank.fill 48 0, written := Bank.fill 48 false },
            groups := s.groups.set old { s.group old with
              filling := Bank.ofFn 48 fun i => (s.group old).filling.get i - r.ownFilling.get i } })))
  ∧ (∀ (s : State) (h : CommandHead) (station : Nat) (groups : Word), s.hears h.host = true → station ≤ 255 →
    s.control.busyIntercom = false →
    let c : Command := .icl station groups
    let r := s.station station
    let members := (List.range 16).filter fun g => groups.getLsbD g
    let outOfRange : Prop := 31 < station ∨ 65536 ≤ groups.toNat
    let badSet : Prop := 4 < members.length ∨ (∃ g ∈ members, (s.group g).defined = false)
      ∨ ∃ g, r.talk = some g ∧ groups.getLsbD g = false
    (outOfRange → exec (.icl h station groups) s = s.commandRefused h c .argument)
    ∧ (¬ outOfRange → r.active = false → exec (.icl h station groups) s = s.commandRefused h c .state)
    ∧ (¬ outOfRange → r.active = true → badSet → exec (.icl h station groups) s = s.commandRefused h c .argument)
    ∧ (¬ outOfRange → r.active = true → ¬ badSet →
      exec (.icl h station groups) s = State.commandAccepted { s.atTake h c with
        stations := s.stations.set station { r with listen := Bank.ofFn 16 fun g => groups.getLsbD g } } h c members.length))

/-! ## The alarm and supervision commands -/

/-- ALS, ASI and AEN (R132 to R134): what entering SOUNDING does is the second part.
The entry into SOUNDING, one event in every block (R131, R102, R187): source and entry tick recorded, pattern restarted,
ALARM posted, fallback lines evaluated; every live stream ends with cause ALARM; a RUNNING show is held with its snapshot
and hold ramps, a hold by command takes cause ALARM.
The row is one burst (the model's choice, log 4). -/
def Obligations.AlarmCommandsAndEntry : Prop :=
  (∀ (s : State) (h : CommandHead), s.hears h.host = true →
    (s.alarm.state = .sounding → exec (.als h) s = s.commandRefused h .als .state)
    ∧ (s.alarm.state ≠ .sounding → exec (.als h) s
      = State.commandAccepted ((s.atTake h .als).enterSounding .command) h .als (s.clock.tickCount % 65536))
    ∧ (s.alarm.state ≠ .sounding → exec (.asi h) s = s.commandRefused h .asi .state)
    ∧ (s.alarm.state = .sounding → exec (.asi h) s = State.commandAccepted
        { s.atTake h .asi with alarm := { s.alarm with state := .muster } } h .asi 0)
    ∧ (s.alarm.state = .quiet → exec (.aen h) s = s.commandRefused h .aen .state)
    ∧ (s.alarm.state ≠ .quiet → exec (.aen h) s = State.commandAccepted (State.post { s.atTake h .aen with
        alarm := { s.alarm with state := .quiet, fallback := Bank.fill 8 false } } .alarm) h .aen 0))
  ∧ (∀ (s : State) (source : AlarmSource),
    let t := s.enterSounding source
    t.alarm.state = .sounding ∧ t.alarm.source = some source ∧ t.alarm.entryTick = s.clock.tickCount
    ∧ t.alarm.segment = 0 ∧ t.alarm.elapsed = 0 ∧ t.alarm.phase = 0
    ∧ t.alarm.decoder = s.alarm.decoder ∧ t.alarm.window = s.alarm.window ∧ t.alarm.holdCount = s.alarm.holdCount
    ∧ t.alarm.panelAbort = s.alarm.panelAbort ∧ t.alarm.segments = s.alarm.segments
    ∧ t.alarm.patternLength = s.alarm.patternLength
    ∧ (∀ g < 8, t.alarm.fallback.get g = true ↔ s.alarm.fallback.get g = true
        ∨ ∃ z < 64, (s.zone z).mapped = true ∧ ((s.zone z).silent = true ∨ (s.zone z).verdict = .failing)
          ∧ (s.zone z).fallbackGroup = some g)
    ∧ t.control.pendingNotices.get 0 = true
    ∧ (∀ n < 8, t.stream n = if (s.stream n).live = true then
        { s.stream n with state := .ending, endCause := .alarm, drained := false } else s.stream n)
    ∧ (s.theatre.state = .running →
        t.theatre = { s.theatre with
          state := .held, holdCause := some .alarm,
          snapshot := some { levels := s.zones.map fun e => if e.mapped && e.kind == .theatreZone then some e.levelTarget else none,
                             follow := s.theatre.follow } }
        ∧ t.control.pendingNotices.get 5 = true
        ∧ ∀ z < 64, t.zone z = if (s.zone z).mapped = true ∧ (s.zone z).kind = .theatreZone then
            (s.zone z).startRamp 0 24 else s.zone z)
    ∧ (s.theatre.state = .held → s.theatre.holdCause = some .command →
        t.theatre = { s.theatre with holdCause := some .alarm } ∧ t.control.pendingNotices.get 5 = true ∧ t.zones = s.zones)
    ∧ (s.theatre.state ≠ .running → ¬ (s.theatre.state = .held ∧ s.theatre.holdCause = some .command) →
        t.theatre = s.theatre ∧ t.zones = s.zones)
    ∧ t.stations = s.stations ∧ t.groups = s.groups ∧ t.clock = s.clock ∧ t.lines = s.lines)

/-- SVR: refused outside QUIET, else every mapped zone of the set returns to the starting supervision state, and the result is
their number (R164).
CNC: refused for a page flag that is neither 0 nor 1, else the named counters become 0, and the result is how many
(R45).
PIN and UNP, with the refusals in the order of R16 and R17.
Each row is one burst (the model's choice, log 4). -/
def Obligations.SvrCncPinAndUnp : Prop :=
  (∀ (s : State) (h : CommandHead) (zones : ZoneSet), s.hears h.host = true →
    let c : Command := .svr zones
    (s.alarm.state ≠ .quiet → exec (.svr h zones) s = s.commandRefused h c .alarm)
    ∧ (s.alarm.state = .quiet → exec (.svr h zones) s = State.commandAccepted { s.atTake h c with
        zones := Bank.ofFn 64 fun z => if zoneIn zones z ∧ (s.zone z).mapped = true then
          { s.zone z with seen := Bank.fill 48 false, tally := 0, passRun := 0, failRun := 0, verdict := .unchecked }
        else s.zone z } h c ((List.range 64).filter fun z => zoneIn zones z && (s.zone z).mapped).length))
  ∧ (∀ (s : State) (h : CommandHead) (zones : ZoneSet) (stations : Word) (page : Nat), s.hears h.host = true →
    wordOk page = true →
    let c : Command := .cnc zones stations page
    (1 < page → exec (.cnc h zones stations page) s = s.commandRefused h c .argument)
    ∧ (page ≤ 1 → exec (.cnc h zones stations page) s = State.commandAccepted { s.atTake h c with
        zones := Bank.ofFn 64 fun z =>
          if zoneIn zones z then { s.zone z with silentEvents := 0, failingPeriods := 0 } else s.zone z,
        stations := Bank.ofFn 32 fun n => if stations.getLsbD n then { s.station n with torn := 0 } else s.station n,
        page := if page = 1 then { s.page with dropped := 0, strayCount := 0 } else s.page } h c
        (2 * ((List.range 64).filter (zoneIn zones)).length
          + ((List.range 32).filter fun n => stations.getLsbD n).length + 2 * page)))
  ∧ (∀ (s : State) (h : CommandHead) (base length entry : Nat), s.hears h.host = true → wordOk base = true →
    wordOk length = true → wordOk entry = true →
    let region : Span := { base := base, length := length }
    let free (e : Nat) : Prop := (s.transit.pins.get e).inUse = false
    let placeable : Prop := 1 ≤ length ∧ length ≤ 1048576 ∧ base + length ≤ 268435456
      ∧ ∀ q ∈ s.regions, region.overlaps q = false
    let writing : Prop := ∃ tag < 32, ∃ e, s.transit.tags.get tag = some e ∧ e.isWrite = true
      ∧ e.addr < base + length ∧ base < e.addr + e.count
    let p := s.transit.pins.get entry
    let playing : Prop := ∃ n < 8, (s.stream n).state ≠ .free ∧ (s.stream n).source = .clip ∧ (s.stream n).priority = 7
      ∧ p.base ≤ (s.stream n).clipBase ∧ (s.stream n).clipBase + (s.stream n).clipPeriods * 48 ≤ p.base + p.length
    (¬ placeable ∨ (∀ e < 8, ¬ free e) → exec (.pin h base length) s = s.commandRefused h (.pin base length) .argument)
    ∧ (∀ e < 8, placeable → free e → (∀ m < e, ¬ free m) →
      (writing → exec (.pin h base length) s = s.commandRefused h (.pin base length) .contention)
      ∧ (¬ writing → exec (.pin h base length) s = State.commandAccepted { s.atTake h (.pin base length) with
          transit := { s.transit with pins := s.transit.pins.set e { inUse := true, base := base, length := length } } }
          h (.pin base length) e))
    ∧ (7 < entry ∨ p.inUse = false → exec (.unp h entry) s = s.commandRefused h (.unp entry) .argument)
    ∧ (entry ≤ 7 → p.inUse = true → s.alarm.state ≠ .quiet →
      exec (.unp h entry) s = s.commandRefused h (.unp entry) .alarm)
    ∧ (entry ≤ 7 → p.inUse = true → s.alarm.state = .quiet →
      (playing → exec (.unp h entry) s = s.commandRefused h (.unp entry) .state)
      ∧ (¬ playing → exec (.unp h entry) s = State.commandAccepted { s.atTake h (.unp entry) with
          transit := { s.transit with pins := s.transit.pins.set entry { inUse := false, base := 0, length := 0 } } }
          h (.unp entry) entry)))

/-! ## The show -/

/-- SHG, SHH, SHR and SHS while the show engine is not BUSY, by show and alarm state (R172, R186, R189, R173). What considering
the pointer cue does is ConsiderChainsThroughTheList; what stopping does is StopHaltAndEnd.
The row is one burst (the model's choice, log 4). -/
def Obligations.ShowCommandsByState : Prop :=
  ∀ (s : State) (h : CommandHead), s.hears h.host = true → s.control.busyShow = false →
    let r := s.theatre
    let state := r.state
    (state = .idle ∨ state = .held → exec (.shg h) s = s.commandRefused h .shg .state)
    ∧ (state = .stopped → s.alarm.state ≠ .quiet → exec (.shg h) s = s.commandRefused h .shg .alarm)
    ∧ (state = .stopped → s.alarm.state = .quiet →
      let t := State.consider (State.post { s.atTake h .shg with theatre := { r with
        cues := r.cues.map fun c => { c with state := .waiting }, pointer := 0, markBase := s.clock.markCount, state := .running,
        follow := if 0 < r.length ∧ (r.cue 0).trigger = .follow then (r.cue 0).value else 0 } } .showNotice)
      exec (.shg h) s = t.commandAccepted h .shg t.theatre.pointer)
    ∧ (state = .running → s.alarm.state = .quiet → r.pointer < r.length → (r.cue r.pointer).trigger = .go →
      exec (.shg h) s = State.commandAccepted (s.atTake h .shg).fireCue.consider h .shg
        (s.atTake h .shg).fireCue.consider.theatre.pointer)
    ∧ (state = .running → (r.length ≤ r.pointer ∨ (r.cue r.pointer).trigger ≠ .go) →
      exec (.shg h) s = s.commandRefused h .shg .state)
    ∧ (state ≠ .running → exec (.shh h) s = s.commandRefused h .shh .state)
    ∧ (state = .running → exec (.shh h) s = State.commandAccepted (State.post { s.atTake h .shh with
        zones := s.zones.map fun e => if e.mapped && e.kind == .theatreZone then e.startRamp 0 24 else e,
        streams := s.streams.map fun q => if q.owner ≠ .announce ∧ (q.state = .starting ∨ q.state = .playing) then
          { q with state := .paused } else q,
        theatre := { r with
          state := .held, holdCause := some .command,
          snapshot := some {
            levels := s.zones.map fun e => if e.mapped && e.kind == .theatreZone then some e.levelTarget else none,
            follow := r.follow } } } .showNotice) h .shh r.pointer)
    ∧ (state ≠ .held → exec (.shr h) s = s.commandRefused h .shr .state)
    ∧ (state = .held → s.alarm.state ≠ .quiet → exec (.shr h) s = s.commandRefused h .shr .alarm)
    ∧ (∀ snap, state = .held → s.alarm.state = .quiet → r.snapshot = some snap →
      let t := State.consider (State.post { s.atTake h .shr with
        zones := Bank.ofFn 64 fun z => match snap.levels.get z with
          | some level =>
            if (s.zone z).mapped && (s.zone z).kind == .theatreZone then (s.zone z).startRamp level 48 else s.zone z
          | none => s.zone z,
        streams := s.streams.map fun q => if q.owner ≠ .announce ∧ q.state = .paused then
          { q with state := if q.current then .playing else .starting } else q,
        theatre := { r with state := .running, holdCause := none, follow := snap.follow, snapshot := none } } .showNotice)
      exec (.shr h) s = t.commandAccepted h .shr t.theatre.pointer)
    ∧ (state = .idle → exec (.shs h) s = s.commandRefused h .shs .state)
    ∧ (state ≠ .idle → exec (.shs h) s = State.commandAccepted (s.atTake h .shs).clearShow h .shs 0)

/-- Considering the pointer cue (R174 to R177): without a pointer cue of a RUNNING show nothing happens; a GO cue waits; a MARK
cue waits, fires or is skipped by the mark number and the lock state; a FOLLOW cue fires at 0; and the chain goes on from
the next cue. -/
def Obligations.ConsiderChainsThroughTheList : Prop :=
  ∀ s : State, s.theatre.length ≤ 256 →
    let r := s.theatre
    let c := r.cue r.pointer
    let live : Prop := r.state = .running ∧ r.pointer < r.length
    let d := (s.clock.markCount + 16777216 - r.markBase) % 16777216
    let locked : Prop := s.clock.lock = .locked ∨ s.clock.lock = .holdover
    (¬ live → s.consider = s)
    ∧ (live → c.trigger = .go → s.consider = s)
    ∧ (live → c.trigger = .mark → ¬ locked ∨ d < c.value → s.consider = s)
    ∧ (live → c.trigger = .mark → locked → c.value ≤ d → d ≤ c.value + 2 → s.consider = s.fireCue.consider)
    ∧ (live → c.trigger = .mark → locked → c.value + 2 < d →
      s.consider = (s.passCue r.pointer c.notify .skipped).consider)
    ∧ (live → c.trigger = .follow → r.follow = 0 → s.consider = s.fireCue.consider)
    ∧ (live → c.trigger = .follow → 0 < r.follow → s.consider = s)

/-- Firing the pointer cue, by its action (R179 to R183), and what passing a cue does (R177, R179).
The follow remaining stays as it is where the next cue is no FOLLOW cue (the model's choice, log 26). -/
def Obligations.FiredCueActsAndIsPassed : Prop :=
  ∀ s : State, s.theatre.pointer < 256 →
    let n := s.theatre.pointer
    let c := s.theatre.cue n
    let theatre (z : Nat) : Prop := (s.zone z).mapped = true ∧ (s.zone z).kind = .theatreZone
    let inSet (z : Nat) : Prop := z < 64 ∧ zoneIn { lo := c.word1, hi := c.word2 } z = true
    let target := field c.word3 0 13
    let base := field c.word3 0 16 * 4096
    let periods := field c.word3 16 16
    let unplayable : Prop := periods = 0 ∨ 268435455 < base + periods * 48 - 1 ∨ ∀ z, inSet z → ¬ theatre z
    (c.action = .note → s.fireCue = s.passCue n c.notify .fired)
    ∧ (c.action = .fade → 4096 < target → s.fireCue = s.passCue n c.notify .faulted)
    ∧ (c.action = .fade → target ≤ 4096 → ∃ zones, s.fireCue = State.passCue { s with zones := zones } n c.notify .fired
      ∧ ∀ z < 64, (inSet z ∧ theatre z → zones.get z = (s.zone z).startRamp target (field c.word3 16 12))
        ∧ (¬ (inSet z ∧ theatre z) → zones.get z = s.zone z))
    ∧ (c.action = .halt → s.fireCue = (s.endCueStream (field c.word3 0 8)).passCue n c.notify .fired)
    ∧ (c.action = .endShow → s.fireCue = (s.passCue n c.notify .fired).endShow)
    ∧ (c.action = .play → unplayable → s.fireCue = s.passCue n c.notify .faulted)
    ∧ (c.action = .play → ¬ unplayable → ∃ zs : ZoneSet, (∀ z < 64, zoneIn zs z = true ↔ inSet z ∧ theatre z)
      ∧ (s.control.busyStream = true ∨ (∀ m < 8, (s.stream m).state ≠ .free) ∨ s.zonesTaken 2 zs = [] →
        s.fireCue = s.passCue n c.notify .faulted)
      ∧ (s.control.busyStream = false → s.zonesTaken 2 zs ≠ [] → ∀ m < 8, (s.stream m).state = .free →
        (∀ j < m, (s.stream j).state ≠ .free) →
        s.fireCue = (s.startStream m (.showCue n) 2 (.clip base periods c.repeats) (s.zonesTaken 2 zs)).passCue n c.notify
          .fired))
    ∧ ∀ (t : State) (st : CueState), t.theatre = s.theatre →
      let next := n + 1
      let r : ShowRecord := { s.theatre with
        cues := s.theatre.cues.set n { c with state := st }, pointer := next,
        follow := if next < s.theatre.length ∧ (s.theatre.cue next).trigger = .follow then (s.theatre.cue next).value
          else s.theatre.follow }
      t.passCue n false st = { t with theatre := r }
      ∧ t.passCue n true st = State.post { t with theatre := { r with
          lastFired := some { cue := n, state := st, mark := t.markNumber % 65536 } } } .cue

/-- The stop of SHS, RST SHOW and RST ALL (R173, R191): pointer and follow remaining 0, every cue WAITING, hold and snapshot gone,
STOPPED (IDLE stays IDLE), SHOW posted if it was RUNNING or HELD; live show-owned streams end STOPPED; every mapped THEATRE
zone is at its program gain.
HALT and END reach the streams they name, and END stops the show where it stands (R104, R182, R183). -/
def Obligations.StopHaltAndEnd : Prop :=
  (∀ s : State,
    let t := s.clearShow
    t.theatre = { s.theatre with
      cues := s.theatre.cues.map fun c => { c with state := .waiting }, pointer := 0, follow := 0, snapshot := none,
      holdCause := none, state := if s.theatre.state = .idle then .idle else .stopped }
    ∧ (s.theatre.state = .running ∨ s.theatre.state = .held → t.control.pendingNotices.get 5 = true)
    ∧ (s.theatre.state = .idle ∨ s.theatre.state = .stopped →
      t.control.pendingNotices.get 5 = s.control.pendingNotices.get 5)
    ∧ (∀ n < 8, t.stream n = if (s.stream n).live = true ∧ (s.stream n).owner ≠ .announce then
        { s.stream n with state := .ending, endCause := .stopped, drained := false } else s.stream n)
    ∧ (∀ z < 64, t.zone z = if (s.zone z).mapped = true ∧ (s.zone z).kind = .theatreZone then
        { s.zone z with level := (s.zone z).programGain, levelTarget := (s.zone z).programGain, ramp := none }
      else s.zone z)
    ∧ t.stations = s.stations ∧ t.groups = s.groups ∧ t.alarm = s.alarm ∧ t.clock = s.clock
    ∧ t.transit.ownTags = s.transit.ownTags ∧ t.control.errors = s.control.errors)
  ∧ (∀ (s : State) (cue : Nat),
    let halted := s.endCueStream cue
    let ended := s.endShow
    let stopped (n : Nat) : StreamRecord := { s.stream n with state := .ending, endCause := .stopped, drained := false }
    (∀ n < 8, halted.stream n
        = if (s.stream n).live = true ∧ (s.stream n).owner = .showCue cue then stopped n else s.stream n)
    ∧ halted.zones = s.zones ∧ halted.theatre = s.theatre ∧ halted.alarm = s.alarm ∧ halted.clock = s.clock
    ∧ (∀ n < 8, ended.stream n
        = if (s.stream n).live = true ∧ (s.stream n).owner ≠ .announce then stopped n else s.stream n)
    ∧ (∀ z < 64, ended.zone z = if (s.zone z).mapped = true ∧ (s.zone z).kind = .theatreZone then
        { s.zone z with level := (s.zone z).programGain, levelTarget := (s.zone z).programGain, ramp := none }
      else s.zone z)
    ∧ ended.theatre = { s.theatre with follow := 0, state := .stopped } ∧ ended.control.pendingNotices.get 5 = true
    ∧ ended.alarm = s.alarm ∧ ended.clock = s.clock)

/-! ## RST -/

/-- RST with scope ALL, INTERCOM and SHOW, no engine of the scope BUSY: ALL and INTERCOM are refused outside QUIET; else the
engines clear themselves at the take and leave the busy set when nothing of theirs is left to drain (R43, R44, R105,
R128, R191). Nothing else changes: the pins, the anchor, the tag tables and the forwarded queue, the page counters, the mask and
the config record, the selector, the errors and the outcome stand (R43, R105), the own queue loses the waiting READs of the streams
that end and no other (R18), and only STREAM and SHOW are posted.
The row is one burst (the model's choice, log 4). -/
def Obligations.RestartByScope : Prop :=
  ∀ (s : State) (h : CommandHead), s.hears h.host = true →
    let ended (n : Nat) (cause : EndCause) : StreamRecord :=
      { s.stream n with state := .ending, endCause := cause, drained := false }
    let station (r : StationRecord) : StationRecord := { r with
      ownFilling := Bank.fill 48 0, written := Bank.fill 48 false, ownReady := Bank.fill 48 0, readyGroup := none,
      heard := 0, talk := none }
    let group (g : GroupRecord) : GroupRecord := { g with filling := Bank.fill 48 0, ready := Bank.fill 48 0 }
    let waits (s : State) (n : Nat) : List OwnRequest := s.transit.ownQueue.filter fun q => q.stream == n
    let showStops : Prop := s.theatre.state = .running ∨ s.theatre.state = .held
    let rest (scope : Nat) (t : State) (ends : Nat → Prop) (shows : Prop) : Prop :=
      let live (n : Nat) : Prop := ends n ∧ (s.stream n).source = .live
      t.transit = { s.transit with ownQueue := t.transit.ownQueue } ∧ t.transit.ownQueue.Sublist s.transit.ownQueue
      ∧ (∀ n < 8, (ends n → waits t n = []) ∧ (¬ ends n → waits t n = waits s n))
      ∧ t.page = { s.page with capture := t.page.capture }
      ∧ ((∃ n < 8, live n) → t.page.capture = none) ∧ ((∀ n < 8, ¬ live n) → t.page.capture = s.page.capture)
      ∧ t.control = { (s.atTake h (.rst scope)).control with
          busyStream := t.control.busyStream, busyIntercom := t.control.busyIntercom, busyShow := t.control.busyShow,
          pendingNotices := t.control.pendingNotices }
      ∧ (∀ k < 9, t.control.pendingNotices.get k = true
          ↔ s.control.pendingNotices.get k = true ∨ (k = 4 ∧ ∃ n < 8, ends n) ∨ (k = 5 ∧ shows))
      ∧ ((∀ n < 8, ¬ ends n) → t.lastEnded = s.lastEnded)
      ∧ (∀ n < 8, ends n → (∀ m < 8, n < m → ¬ ends m) →
          t.lastEnded = some { index := n, cause := (t.stream n).endCause, owner := (s.stream n).owner })
      ∧ t.lines = s.lines ∧ t.freeDraws = s.freeDraws ∧ t.pending = s.pending
    (s.alarm.state ≠ .quiet → s.control.busyIntercom = false →
      exec (.rstIntercom h) s = s.commandRefused h (.rst 2) .alarm
      ∧ (s.control.busyStream = false → s.control.busyShow = false →
        exec (.rstAll h) s = s.commandRefused h (.rst 1) .alarm))
    ∧ (s.alarm.state = .quiet → s.control.busyStream = false → s.control.busyIntercom = false → s.control.busyShow = false →
      ∃ t : State, exec (.rstAll h) s = t.commandAccepted h (.rst 1) 0
        ∧ rest 1 t (fun n => (s.stream n).live = true) showStops
        ∧ (∀ n < 8, t.stream n = if (s.stream n).live = true then ended n .restart else s.stream n)
        ∧ t.stations = s.stations.map station ∧ t.groups = s.groups.map group
        ∧ t.theatre = s.clearShow.theatre ∧ t.zones = s.clearShow.zones ∧ t.alarm = s.alarm ∧ t.clock = s.clock
        ∧ t.control.busyIntercom = true
        ∧ (t.control.busyStream = false ↔ ∀ n < 8, (s.stream n).state = .free)
        ∧ (t.control.busyShow = true ↔ ∃ n < 8, (t.stream n).state = .ending ∧ (t.stream n).owner ≠ .announce))
    ∧ (s.alarm.state = .quiet → s.control.busyIntercom = false →
      ∃ t : State, exec (.rstIntercom h) s = t.commandAccepted h (.rst 2) 0
        ∧ rest 2 t (fun n => (s.stream n).source = .group ∧ (s.stream n).sounding = true) False
        ∧ (∀ n < 8, t.stream n = if (s.stream n).source = .group ∧ (s.stream n).sounding = true then ended n .restart
            else s.stream n)
        ∧ t.stations = s.stations.map station ∧ t.groups = s.groups.map group
        ∧ t.theatre = s.theatre ∧ t.zones = s.zones ∧ t.alarm = s.alarm ∧ t.clock = s.clock
        ∧ t.control.busyIntercom = true ∧ t.control.busyStream = s.control.busyStream
        ∧ t.control.busyShow = s.control.busyShow)
    ∧ (s.control.busyShow = false →
      ∃ t : State, exec (.rstShow h) s = t.commandAccepted h (.rst 3) 0
        ∧ rest 3 t (fun n => (s.stream n).live = true ∧ (s.stream n).owner ≠ .announce) showStops
        ∧ t.streams = s.clearShow.streams ∧ t.theatre = s.clearShow.theatre ∧ t.zones = s.clearShow.zones
        ∧ t.stations = s.stations ∧ t.groups = s.groups ∧ t.alarm = s.alarm ∧ t.clock = s.clock
        ∧ t.control.busyIntercom = s.control.busyIntercom
        ∧ (s.control.busyStream = false → t.control.busyStream = false)
        ∧ (t.control.busyShow = true ↔ ∃ n < 8, (t.stream n).state = .ending ∧ (t.stream n).owner ≠ .announce))

/-! ## The clock -/

/-- SAMPLE_CLOCK_EDGE, INTERNAL_STEP and GAP_EXPIRY by the clock source (R69, R70, R72, R73): the steps, the tick phase and the
tick, the two runs and the change of source with its CLOCK notice. Each step, and each of the three credited at a gap expiry,
raises the step count by one up to 65,535, and leaves the lock state and the marks as they are, where it closes no window (R75); a
window of LOCKED or HOLDOVER that closes at the j-th of `n` steps leaves the step count 16 with the steps after it, and its
synthesized mark counted (R77, R78). While reset is asserted none of them does anything (R80).
A gap is in millionths of the nominal interval, on nominal from 990,000 to 1,010,000 (log 6). -/
def Obligations.ClockStepsAndMonitorBySource : Prop :=
  ∀ (s : State) (gap : Nat) (order : Interleave),
    let c := s.clock
    let nominal : Prop := 990000 ≤ gap ∧ gap ≤ 1010000
    let closes (n : Nat) : Prop := (c.lock = .locked ∨ c.lock = .holdover)
      ∧ c.lockedInterval + 16 ≤ min 65535 (c.stepCount + n)
    let closed (t : State) (lock : LockState) (synthesized : Nat) : Prop := t.clock.lock = lock
      ∧ t.clock.synthesized = synthesized ∧ t.clock.lockedInterval = c.lockedInterval
      ∧ t.clock.markCount = (c.markCount + 1) % 16777216
    let stepped (t : State) (n : Nat) : Prop := t.clock.tickPhase = (c.tickPhase + n) % 48
      ∧ t.clock.tickCount = (if 48 ≤ c.tickPhase + n then (c.tickCount + 1) % 4294967296 else c.tickCount)
      ∧ (¬ closes n → t.clock = { t.clock with
          stepCount := min 65535 (c.stepCount + n), lock := c.lock, acquisitionRun := c.acquisitionRun,
          previousInterval := c.previousInterval, lockedInterval := c.lockedInterval, synthesized := c.synthesized,
          markCount := c.markCount })
      ∧ ∀ j, 1 ≤ j → j ≤ n → c.stepCount + j = c.lockedInterval + 16 → 800 ≤ c.lockedInterval → c.lockedInterval ≤ 2000 →
        (c.lock = .locked → closed t .holdover 1 ∧ t.clock.stepCount = 16 + (n - j))
        ∧ (c.lock = .holdover → c.synthesized + 1 ≠ 24 →
          closed t .holdover (c.synthesized + 1) ∧ t.clock.stepCount = 16 + (n - j))
        ∧ (c.lock = .holdover → c.synthesized + 1 = 24 → closed t .free 0)
    let idle : Answer := .next s.begun.latch
    (s.lines.resetAsserted = true → exec (.sampleClockEdge gap order) s = idle ∧ exec (.internalStep order) s = idle
      ∧ exec (.gapExpiry order) s = idle)
    ∧ (s.lines.resetAsserted = false → c.source = .line →
      exec (.internalStep order) s = idle
      ∧ (∃ t : State, exec (.sampleClockEdge gap order) s = .next t ∧ stepped t 1 ∧ t.clock.goodRun = (
          if nominal ∨ c.offRun + 1 ≠ 48 then c.goodRun else 0)
        ∧ (nominal → t.clock.source = .line ∧ t.clock.offRun = 0)
        ∧ (¬ nominal → c.offRun + 1 ≠ 48 → t.clock.source = .line ∧ t.clock.offRun = c.offRun + 1)
        ∧ (¬ nominal → c.offRun + 1 = 48 → t.clock.source = .reference ∧ t.clock.offRun = 0
          ∧ t.control.pendingNotices.get 3 = true))
      ∧ ∃ t : State, exec (.gapExpiry order) s = .next t ∧ stepped t 3 ∧ t.clock.source = .reference ∧ t.clock.offRun = 0
        ∧ t.clock.goodRun = 0 ∧ t.control.pendingNotices.get 3 = true)
    ∧ (s.lines.resetAsserted = false → c.source = .reference →
      exec (.gapExpiry order) s = idle
      ∧ (∃ t : State, exec (.internalStep order) s = .next t ∧ stepped t 1 ∧ t.clock.source = .reference
        ∧ t.clock.offRun = c.offRun ∧ t.clock.goodRun = c.goodRun ∧ t.clock.edgeSeen = c.edgeSeen)
      ∧ (c.edgeSeen = true ∧ nominal → c.goodRun + 1 ≠ 480 →
        exec (.sampleClockEdge gap order) s
          = .next (State.latch { s.begun with clock := { c with goodRun := c.goodRun + 1 } }))
      ∧ (c.edgeSeen = true ∧ nominal → c.goodRun + 1 = 480 →
        exec (.sampleClockEdge gap order) s
          = .next (State.latch (State.post { s.begun with
              clock := { c with source := .line, offRun := 0, goodRun := 0 } } .clock)))
      ∧ (¬ (c.edgeSeen = true ∧ nominal) →
        exec (.sampleClockEdge gap order) s
          = .next (State.latch { s.begun with clock := { c with goodRun := 0, edgeSeen := true } })))

/-- TICK, at the event at which the tick phase reaches 48, whatever the order of the blocks (R71): the tick count rises, every
defined group's and every active station's sums and buffers are swapped (R118, R119), the intercom engine is not BUSY after
it (R128), every mapped zone's watch falls (R149); at any other event there is no tick (log 5).
A GROUP stream at a tick (R101, R120): in STARTING or PLAYING with fewer than 4 slots left by its own step, it receives its
group's completed period as a READY slot, and otherwise the period is dropped; the period is the ready sum at the group gain,
clamped, or zeros while the group is muted. The last part is the whole tick, where neither the show nor the panel acts at it: the
queue as the record's own step left it, then the slot or the drop, of the sum the tick has just completed. Which of the unused
buffers the slot takes is free (log 9). -/
def Obligations.TickAndGroupOffers : Prop :=
  (∀ (s : State) (e : TimeEvent), s.clock.tickPhase < 48 →
    (s.ticksAt e = false → exec (.tick e) s = .next s)
    ∧ (s.ticksAt e = true → ∃ t : State, exec (.tick e) s = .next t
      ∧ t.clock.tickCount = (s.clock.tickCount + 1) % 4294967296
      ∧ (∀ g < 16, t.group g = if (s.group g).defined = true then
          { s.group g with ready := (s.group g).filling, filling := Bank.fill 48 0 } else s.group g)
      ∧ (∀ n < 32, t.station n = if (s.station n).active = true then
          { s.station n with
            ownReady := (s.station n).ownFilling, readyGroup := (s.station n).talk,
            heard := ((List.range 48).filter (s.station n).written.get).length, ownFilling := Bank.fill 48 0,
            written := Bank.fill 48 false } else s.station n)
      ∧ t.control.busyIntercom = false
      ∧ (∀ z < 64, (t.zone z).watch
          = if (s.zone z).mapped = true then (s.zone z).watch - 1 else (s.zone z).watch)
      ∧ t.transit.tags = s.transit.tags ∧ t.transit.forwarded = s.transit.forwarded ∧ t.transit.anchor = s.transit.anchor
      ∧ t.transit.pins = s.transit.pins ∧ t.lines = s.lines ∧ t.control.errors = s.control.errors
      ∧ t.control.captured = s.control.captured ∧ t.control.outcome = s.control.outcome
      ∧ t.control.selector = s.control.selector ∧ t.control.mask = s.control.mask))
  ∧ (∀ (s : State) (g n : Nat), g < 16 → n < 8 → (s.group g).defined = true →
    let t := s.offerGroup g
    let r := s.stream n
    let takes : Prop := (r.state = .starting ∨ r.state = .playing) ∧ r.source = .group ∧ r.group = g
      ∧ s.control.busyStream = false
    (takes → r.queue.length < 4 → ∃ (x : Slot) (period : Bank 48 Word),
      t.stream n = { r with queue := r.queue ++ [x], buffers := r.buffers.set x.buffer period }
      ∧ x.ready = true ∧ x.buffer < 4 ∧ (∀ y ∈ r.queue, y.buffer ≠ x.buffer)
      ∧ ∀ i < 48, period.get i = if s.alarm.state ≠ .quiet ∧ (s.group g).essential = false then 0#32
        else BitVec.ofInt 32 (max (-8388608) (min 8388607 (Int.tdiv ((s.group g).ready.get i * (s.group g).gain) 4096))))
    ∧ (takes → 4 ≤ r.queue.length →
      t.stream n = { r with droppedCount := if r.droppedCount < 255 then r.droppedCount + 1 else r.droppedCount })
    ∧ (¬ takes → t.stream n = r)
    ∧ t = { s with streams := t.streams, freeDraws := t.freeDraws })
  ∧ ∀ (s : State) (e : TimeEvent) (n : Nat), s.ticksAt e = true → s.showRests = true → s.panelRests = true → n < 8 →
    let r := s.stream n
    let g := s.group r.group
    let left := if r.state = .playing ∧ r.current = true then r.queue.tail else r.queue
    let offered : Prop := g.defined = true ∧ s.control.busyStream = false
    let sample (i : Nat) : Word := if s.alarm.state ≠ .quiet ∧ g.essential = false then 0#32
      else BitVec.ofInt 32 (max (-8388608) (min 8388607 (Int.tdiv (g.filling.get i * g.gain) 4096)))
    (r.state = .starting ∨ r.state = .playing) → r.source = .group → r.group < 16 → ∃ t : State,
      exec (.tick e) s = .next t
      ∧ (offered → left.length < 4 → ∃ x : Slot, (t.stream n).queue = left ++ [x] ∧ x.ready = true ∧ x.buffer < 4
        ∧ (∀ y ∈ left, y.buffer ≠ x.buffer) ∧ (∀ i < 48, ((t.stream n).buffers.get x.buffer).get i = sample i)
        ∧ (∀ b < 4, b ≠ x.buffer → (t.stream n).buffers.get b = r.buffers.get b)
        ∧ (t.stream n).droppedCount = r.droppedCount)
      ∧ (offered → 4 ≤ left.length → (t.stream n).queue = left ∧ (t.stream n).buffers = r.buffers
        ∧ (t.stream n).droppedCount = if r.droppedCount < 255 then r.droppedCount + 1 else r.droppedCount)
      ∧ (¬ offered → (t.stream n).queue = left ∧ (t.stream n).buffers = r.buffers
        ∧ (t.stream n).droppedCount = r.droppedCount)

/-- SHOW_MARK by the lock state (R75 to R79): what the mark makes of the reference, the runs, the lock state and the mark count,
with its SHOW notice, and the mark event handed to the show engine; a mark out of HOLDOVER's window is ignored, and one while
reset is asserted is not seen (R80).
LOCK_EXPIRY and HOLDOVER_WINDOW_CLOSE at a step that brings the step count 16 past the time a mark was due (R77, R78): a
synthesized mark is made and counted, and the step count is 16; the first makes LOCKED HOLDOVER, the 24th makes HOLDOVER FREE,
each with SHOW posted.
A row named by what comes about at an event is that event (the model's choice, log 5). -/
def Obligations.MarksByLockState : Prop :=
  (∀ s : State,
    let c := s.clock
    let i := c.stepCount
    let early : Prop := i + 16 < c.lockedInterval
    let valid : Prop := 800 ≤ i ∧ i ≤ 2000
    let near : Prop := i ≤ c.previousInterval + 4 ∧ c.previousInterval ≤ i + 4
    let run := if ¬ valid then 0 else if c.acquisitionRun ≠ 0 ∧ near then c.acquisitionRun + 1 else 1
    let previous := if valid then i else c.previousInterval
    let counted (c' : ClockUnit) : ClockUnit := { c' with stepCount := 0, markCount := (c.markCount + 1) % 16777216 }
    let ignored : Prop := exec .showMark s = .next s.begun.latch
    let stays (c' : ClockUnit) : Prop :=
      exec .showMark s = .next (State.consider { s.begun with clock := counted c' }).latch
    let moves (c' : ClockUnit) : Prop :=
      exec .showMark s = .next (State.consider (State.post { s.begun with clock := counted c' } .showNotice)).latch
    (s.lines.resetAsserted = true → ignored)
    ∧ (s.lines.resetAsserted = false →
      (c.lock = .free → moves { c with lock := .acquiring, acquisitionRun := 0 })
      ∧ (c.lock = .acquiring → run ≠ 6 → stays { c with acquisitionRun := run, previousInterval := previous })
      ∧ (c.lock = .acquiring → run = 6 → moves { c with
          lock := .locked, lockedInterval := i, acquisitionRun := 0, previousInterval := previous })
      ∧ (c.lock = .locked → ¬ early → stays c)
      ∧ (c.lock = .locked → early → moves { c with lock := .holdover, synthesized := 0 })
      ∧ (c.lock = .holdover → early → ignored)
      ∧ (c.lock = .holdover → ¬ early → moves { c with lock := .locked, synthesized := 0 })))
  ∧ (∀ (s : State) (gap : Nat) (order : Interleave), s.windowCloses = true →
    let e : TimeEvent := .nextStep gap order
    let count (t : State) : Prop := t.clock.markCount = (s.clock.markCount + 1) % 16777216
    (s.clock.lock = .locked → ∃ t : State, exec (.lockExpiry e) s = .next t ∧ t.clock.lock = .holdover
      ∧ t.clock.synthesized = 1 ∧ t.clock.stepCount = 16 ∧ t.clock.lockedInterval = s.clock.lockedInterval ∧ count t
      ∧ t.control.pendingNotices.get 5 = true)
    ∧ (s.clock.lock = .holdover → s.clock.synthesized + 1 ≠ 24 →
      ∃ t : State, exec (.holdoverWindowClose e) s = .next t ∧ t.clock.lock = .holdover
      ∧ t.clock.synthesized = s.clock.synthesized + 1 ∧ t.clock.stepCount = 16
      ∧ t.clock.lockedInterval = s.clock.lockedInterval ∧ count t)
    ∧ (s.clock.lock = .holdover → s.clock.synthesized + 1 = 24 →
      ∃ t : State, exec (.holdoverWindowClose e) s = .next t ∧ t.clock.lock = .free
      ∧ t.clock.synthesized = 0 ∧ t.clock.lockedInterval = s.clock.lockedInterval ∧ count t
      ∧ t.control.pendingNotices.get 5 = true))

/-! ## The panel, the pattern and the watch -/

/-- PANEL_LINE_CHANGE, LINE_STATE_SEEN and ATTENTION_WINDOW_EXPIRY (R136 to R142): a different line state returns the hold count to
0; at the 20th tick it is seen, and the decoder and the alarm go by the tables of R138 to R141; the window of ATTENDED
expires at the tick that takes it from 1 to 0 unless a SOUND or REST is seen at that tick. At any other tick the hold count below
19 rises by one and stays at 20, the window above 1 falls by one in ATTENDED, and the decoder and the alarm stay as they are.
A row named by what comes about at an event is that event (the model's choice, log 5). -/
def Obligations.PanelDecoderByItsTables : Prop :=
  (∀ (s : State) (a b : Bool),
    (a = s.lines.panelA ∧ b = s.lines.panelB → exec (.panelLineChange a b) s = .next s.begun.latch)
    ∧ (¬ (a = s.lines.panelA ∧ b = s.lines.panelB) → exec (.panelLineChange a b) s = .next (State.latch { s.begun with
        lines := { s.lines with panelA := a, panelB := b }, alarm := { s.alarm with holdCount := 0 } })))
  ∧ (∀ (s : State) (e : TimeEvent), s.ticksAt e = true → s.alarm.holdCount = 19 → ∃ t : State,
      exec (.lineStateSeen e) s = .next t ∧ t.alarm.holdCount = 20
      ∧ (let was := s.alarm.state
         let silenced : AlarmState := if was = .sounding then .muster else was
         match s.alarm.decoder, s.lines.panelA, s.lines.panelB with
         | .idle, false, true =>
           t.alarm.decoder = .attended ∧ t.alarm.window = 3000 ∧ t.alarm.state = was
         | .idle, true, false => t.alarm.decoder = .idle ∧ t.alarm.state = silenced
         | .idle, _, _ => t.alarm.decoder = .idle ∧ t.alarm.state = was
         | .attended, false, false =>
           t.alarm.decoder = .latched ∧ t.alarm.window = 0 ∧ t.alarm.state = .sounding ∧ t.alarm.panelAbort = false
             ∧ (was ≠ .sounding → t.alarm.source = some .panel ∧ t.control.pendingNotices.get 0 = true)
             ∧ (was = .sounding → t.alarm.source = s.alarm.source ∧ t.alarm.entryTick = s.alarm.entryTick)
         | .attended, true, true =>
           t.alarm.decoder = .idle ∧ t.alarm.window = 0 ∧ t.alarm.panelAbort = true ∧ t.alarm.state = was
         | .attended, true, false => t.alarm.state = silenced
         | .attended, false, true => t.alarm.state = was
         | .latched, true, true => t.alarm.decoder = .idle ∧ t.alarm.state = was
         | .latched, true, false => t.alarm.decoder = .latched ∧ t.alarm.state = silenced
         | .latched, _, _ => t.alarm.decoder = .latched ∧ t.alarm.state = was))
  ∧ (∀ (s : State) (e : TimeEvent), s.ticksAt e = true → s.alarm.decoder = .attended → s.alarm.window = 1 →
      (s.alarm.holdCount ≠ 19 ∨ s.lines.panelA ≠ s.lines.panelB) → ∃ t : State,
      exec (.attentionWindowExpiry e) s = .next t ∧ t.alarm.decoder = .idle ∧ t.alarm.window = 0
        ∧ t.alarm.panelAbort = true)
  ∧ ∀ (s : State) (e : TimeEvent), s.ticksAt e = true → ∃ t : State, exec (.tick e) s = .next t
      ∧ (s.alarm.holdCount < 20 → t.alarm.holdCount = s.alarm.holdCount + 1)
      ∧ (20 ≤ s.alarm.holdCount → t.alarm.holdCount = s.alarm.holdCount)
      ∧ (s.alarm.decoder = .attended → 1 < s.alarm.window → s.panelRests = true ∨ s.lines.panelA ≠ s.lines.panelB →
        t.alarm.decoder = .attended ∧ t.alarm.window = s.alarm.window - 1)
      ∧ (s.panelRests = true → s.alarm.decoder ≠ .attended →
        t.alarm.decoder = s.alarm.decoder ∧ t.alarm.window = s.alarm.window)
      ∧ (s.panelRests = true → ¬ (s.alarm.decoder = .attended ∧ s.alarm.window ≤ 1) →
        t.alarm.panelAbort = s.alarm.panelAbort)
      ∧ (s.panelRests = true → t.alarm.state = s.alarm.state ∧ t.alarm.source = s.alarm.source
        ∧ t.alarm.entryTick = s.alarm.entryTick)

/-- SEGMENT_ADVANCE and ZONE_SILENT at a tick: the played segment that reaches its duration gives way to the next, elapsed count
and phase 0, and at any other tick of SOUNDING the elapsed count rises by one and p0 by 48 times the frequency; outside SOUNDING the
pattern stands (R145); a watch that reaches 0 makes its zone silent, counts it, posts SILENT, and outside QUIET asserts the line
of its fallback group (R149 to R151).
A row named by what comes about at an event is that event (the model's choice, log 5). -/
def Obligations.SegmentAdvancesAndZonesFallSilent : Prop :=
  ∀ (s : State) (e : TimeEvent), s.ticksAt e = true →
    (s.alarm.state = .sounding →
      s.alarm.elapsed + 1 = (s.alarm.segments.get s.alarm.segment).duration → ∃ t : State,
      exec (.segmentAdvance e) s = .next t ∧ t.alarm.elapsed = 0 ∧ t.alarm.phase = 0
        ∧ t.alarm.segment = if s.alarm.segment + 1 = s.alarm.patternLength then 0 else s.alarm.segment + 1)
    ∧ (∃ t : State, exec (.tick e) s = .next t
      ∧ (s.alarm.state = .sounding → s.alarm.elapsed + 1 ≠ (s.alarm.segments.get s.alarm.segment).duration →
        t.alarm.segment = s.alarm.segment ∧ t.alarm.elapsed = s.alarm.elapsed + 1
          ∧ t.alarm.phase = (s.alarm.phase + 48 * (s.alarm.segments.get s.alarm.segment).frequency) % 48000)
      ∧ (s.alarm.state ≠ .sounding → s.panelRests = true → t.alarm.segment = s.alarm.segment
        ∧ t.alarm.elapsed = s.alarm.elapsed ∧ t.alarm.phase = s.alarm.phase)
      ∧ t.alarm.segments = s.alarm.segments ∧ t.alarm.patternLength = s.alarm.patternLength
      ∧ ∀ z < 64, (s.zone z).mapped = false ∨ (s.zone z).watch ≠ 1 →
        (t.zone z).silent = (s.zone z).silent ∧ (t.zone z).silentEvents = (s.zone z).silentEvents)
    ∧ ∀ z < 64, (s.zone z).mapped = true → (s.zone z).watch = 1 → (s.zone z).silent = false → ∃ t : State,
      exec (.zoneSilent z e) s = .next t ∧ (t.zone z).watch = 0 ∧ (t.zone z).silent = true
        ∧ (t.zone z).silentEvents = (if (s.zone z).silentEvents < 255 then (s.zone z).silentEvents + 1
            else (s.zone z).silentEvents)
        ∧ t.control.pendingNotices.get 1 = true
        ∧ ((s.zone z).silentEvents = 127 → t.control.pendingNotices.get 7 = true)
        ∧ ∀ g < 8, s.alarm.state ≠ .quiet → (s.zone z).fallbackGroup = some g → t.alarm.fallback.get g = true

/-! ## What comes about at a tick -/

/-- CLIP_COMPLETE and PAGE_TIMEOUT at a tick at which neither the show nor the panel acts on the streams: the last period
retired ends a PLAYING clip COMPLETE (R91); a page without a current slot whose starved run reaches the page timeout ends
PAGE_TIMEOUT (R100).
The tick of every record, there: STARTING becomes PLAYING at a READY head (R90); PLAYING retires its current slot, and completes,
promotes the new head or starves and counts it (R91, R99); an open page counts its starved run (R100); a clip fetches again into
the freed buffer, its READs behind its others in an own queue that is in order, as it always is (R19, R88,
StreamLawHoldsAtEveryStep); a PAUSED or FREE record stands, and an ENDING one is emptied and unbound, and FREE with nothing in
flight (R93). What a GROUP record is offered besides is TickAndGroupOffers.
A row named by what comes about at an event is that event (the model's choice, log 5), the buffer a new slot takes is free (log 9),
and a FREE record keeps its other fields (the model's choice, log 17). -/
def Obligations.StreamRecordsAtATick : Prop :=
  (∀ (s : State) (e : TimeEvent) (n : Nat), s.ticksAt e = true → s.showRests = true → s.panelRests = true → n < 8 →
    let r := s.stream n
    let queueAfter := if r.current = true then r.queue.tail else r.queue
    (r.state = .playing → r.source = .clip → r.current = true → r.periodsLeft = 1 → ∃ t : State,
      exec (.clipComplete n e) s = .next t ∧ (t.stream n).state = .ending ∧ (t.stream n).endCause = .complete
        ∧ (t.stream n).periodsLeft = 0 ∧ t.control.pendingNotices.get 4 = true)
    ∧ (r.source = .live → r.closing = false → (r.state = .playing ∨ (r.state = .starting ∧ r.current = false)) →
      (∀ x rest, queueAfter = x :: rest → x.ready = false) → r.starvedRun < 65535 →
      s.control.pageTimeout ≤ r.starvedRun + 1 → ∃ t : State,
      exec (.pageTimeout n e) s = .next t ∧ (t.stream n).state = .ending ∧ (t.stream n).endCause = .pageTimeout
        ∧ t.page.capture = none ∧ t.control.pendingNotices.get 4 = true))
  ∧ ∀ (s : State) (e : TimeEvent) (n : Nat), s.ticksAt e = true → s.showRests = true → s.panelRests = true → n < 8 →
    let r := s.stream n
    let sounds : Prop := r.state = .starting ∨ r.state = .playing
    let retires : Prop := r.state = .playing ∧ r.current = true
    let queue := if retires then r.queue.tail else r.queue
    let left := if retires ∧ r.source = .clip then r.periodsLeft - 1 else r.periodsLeft
    let ready := match queue with
      | [] => false
      | x :: _ => x.ready
    let openPage : Prop := r.source = .live ∧ r.closing = false
    let hasSlot : Prop := ready = true ∨ (r.state = .starting ∧ r.current = true)
    let run := if openPage then (if hasSlot then 0 else min 65535 (r.starvedRun + 1)) else r.starvedRun
    let next : StreamRecord :=
      if ready then { r with state := .playing, queue := queue, current := true, periodsLeft := left, starvedRun := run }
      else if r.state = .starting then { r with starvedRun := run }
      else { r with queue := queue, current := false, periodsLeft := left, starvedRun := run,
                    starvedCount := if r.starvedCount < 255 then r.starvedCount + 1 else r.starvedCount }
    let waits (s : State) : List OwnRequest := s.transit.ownQueue.filter fun q => q.stream == n
    let read (part : Nat) : OwnRequest := { stream := n, pass := r.passUnderFetch, period := r.nextFetch, part := part,
                                            addr := r.clipBase + 48 * r.nextFetch + 16 * part }
    let wraps : Prop := r.nextFetch + 1 = r.clipPeriods ∧ 0 < r.repeatsLeft
    let fetches : Prop := r.state = .playing ∧ queue.length < 4 ∧ (∀ x ∈ queue, x.ready = true) ∧ r.nextFetch < r.clipPeriods
    let completes : Prop := (r.state = .playing ∧ r.source = .clip ∧ left = 0)
      ∨ (r.source = .live ∧ r.closing = true ∧ queue = [])
    ∃ t : State, exec (.tick e) s = .next t
    ∧ (r.state = .free ∨ r.state = .paused → t.stream n = r)
    ∧ (r.state = .ending → t.stream n = { r with
          queue := [], current := false, drained := true, state := if s.inFlight n = 0 then .free else .ending }
        ∧ ∀ z < 64, (s.zone z).bound = some n → (t.zone z).bound = none)
    ∧ (sounds → completes → (t.stream n).state = .ending ∧ (t.stream n).endCause = .complete
      ∧ t.control.pendingNotices.get 4 = true)
    ∧ (sounds → ¬ completes → openPage → s.control.pageTimeout ≤ run →
        (t.stream n).state = .ending ∧ (t.stream n).endCause = .pageTimeout ∧ t.control.pendingNotices.get 4 = true)
    ∧ (sounds → ¬ completes → ¬ (openPage ∧ s.control.pageTimeout ≤ run) →
        (∀ z < 64, (t.zone z).bound = some n ↔ (s.zone z).bound = some n)
        ∧ (r.source = .live → t.stream n = next)
        ∧ (r.source = .group →
          { t.stream n with queue := queue, buffers := r.buffers, droppedCount := r.droppedCount } = next)
        ∧ (r.source = .clip → ¬ fetches → t.stream n = next ∧ waits t = waits s)
        ∧ (r.source = .clip → fetches →
          ((s.transit.ownQueue.Pairwise fun a b => a.stream ≤ b.stream) → waits t = waits s ++ [read 0, read 1, read 2])
          ∧ ∃ b < 4, (∀ x ∈ queue, x.buffer ≠ b) ∧ t.stream n = { next with
            queue := queue ++ [{ ready := false, pass := r.passUnderFetch, period := r.nextFetch, parts := 0, ringPeriod := 0,
                                 buffer := b }],
            nextFetch := if wraps then 0 else r.nextFetch + 1,
            repeatsLeft := if wraps then r.repeatsLeft - 1 else r.repeatsLeft,
            passUnderFetch := if wraps then r.passUnderFetch + 1 else r.passUnderFetch }))

/-- STREAM_FREE and BUSY_END (R93, R44, R105, R128, R191): an ENDING record with nothing in flight is FREE at its tick, its queue and
zone set empty; one past its first tick there is FREE at its last response; an engine leaves the busy set at the event that
leaves nothing of its restart to drain, the intercom engine at the first tick.
A FREE record keeps its other fields (the model's choice, log 17), and the rows are their events (log 5). -/
def Obligations.RecordsComeToRestAndEnginesLeaveBusy : Prop :=
  (∀ (s : State) (e : TimeEvent) (n : Nat), s.ticksAt e = true → s.showRests = true → n < 8 →
    (s.stream n).state = .ending → s.inFlight n = 0 → ∃ t : State, exec (.streamFree n (.time e)) s = .next t
      ∧ (t.stream n).state = .free ∧ (t.stream n).queue = [] ∧ (t.stream n).endCause = (s.stream n).endCause
      ∧ ∀ z < 64, (s.zone z).bound = some n → (t.zone z).bound = none)
  ∧ (∀ (s : State) (n k : Nat) (r : OwnRequest) (status : MemStatus) (words : List Word), s.portOpen = true → n < 8 → k < 32 →
    s.transit.ownTags.get k = some r → r.stream = n → (s.stream n).state = .ending → (s.stream n).drained = true →
    s.inFlight n = 1 → ∃ t : State, exec (.streamFree n (.response (32 + k) status words)) s = .next t
      ∧ t.stream n = { s.stream n with state := .free }
      ∧ (s.control.busyStream = true → (∀ m < 8, m ≠ n → (s.stream m).state = .free) →
        exec (.busyEnd .stream (.response (32 + k) status words)) s = .next t ∧ t.control.busyStream = false)
      ∧ (s.control.busyShow = true →
        (∀ m < 8, m ≠ n → ¬ ((s.stream m).state = .ending ∧ (s.stream m).owner ≠ .announce)) →
        exec (.busyEnd .showEngine (.response (32 + k) status words)) s = .next t ∧ t.control.busyShow = false))
  ∧ ∀ (s : State) (e : TimeEvent), s.ticksAt e = true →
    (s.control.busyIntercom = true → ∃ t : State, exec (.busyEnd .intercom (.time e)) s = .next t
      ∧ t.control.busyIntercom = false)
    ∧ (s.control.busyStream = true → s.showRests = true →
      (∀ n < 8, (s.stream n).state = .free ∨ ((s.stream n).state = .ending ∧ s.inFlight n = 0)) →
      ∃ t : State, exec (.busyEnd .stream (.time e)) s = .next t ∧ t.control.busyStream = false)
    ∧ (s.control.busyShow = true → s.showRests = true →
      (∀ n < 8, (s.stream n).owner ≠ .announce →
        (s.stream n).state = .free ∨ ((s.stream n).state = .ending ∧ s.inFlight n = 0)) →
      ∃ t : State, exec (.busyEnd .showEngine (.time e)) s = .next t ∧ t.control.busyShow = false)

/-- A ramp: started from the level as it stands over `r` ticks, stepped once a tick, and at its last tick at the target exactly
(R184).
A tick at which the panel does not act and no cue is considered takes one step of every ramp with more than one tick left, and
leaves every other level and the show record as they are; so does one at which the pointer cue of a RUNNING show waits: a GO cue,
or a MARK cue not due, nor made due by a mark at that event (R175, R176); a follow remaining above 1 falls by one and its cue waits
(R177, R178).
FOLLOW_EXPIRY and LEVEL_RAMP_END at a tick at which the panel does not act: the follow remaining of the pointer cue reaches 0
and it fires (R177, R178); the last step of a ramp takes the level to its target and ends it, where the show starts no ramp at
that tick (R184).
A row named by what comes about at an event is that event (the model's choice, log 5). -/
def Obligations.FollowsAndRamps : Prop :=
  (∀ (e : ZoneEntry) (target r : Nat),
    (r = 0 → e.startRamp target r = { e with level := target, levelTarget := target, ramp := none })
    ∧ (0 < r → e.startRamp target r = { e with levelTarget := target, ramp := some {
        step := Int.tdiv ((target : Int) - e.level) r, ticksLeft := r } })
    ∧ (e.level ≤ 4096 → target ≤ 4096 → 0 < r → r ≤ 4095 →
      (∀ k < r, (Nat.iterate ZoneEntry.stepRamp k (e.startRamp target r)).level
          = ((e.level : Int) + k * Int.tdiv ((target : Int) - e.level) r).toNat)
      ∧ (∀ k ≤ r, (Nat.iterate ZoneEntry.stepRamp k (e.startRamp target r)).level ≤ 4096)
      ∧ Nat.iterate ZoneEntry.stepRamp r (e.startRamp target r)
          = { e with level := target, levelTarget := target, ramp := none }))
  ∧ (∀ (s : State) (e : TimeEvent), s.ticksAt e = true → s.panelRests = true →
    let n := s.theatre.pointer
    (s.theatre.state = .running → n < s.theatre.length → s.theatre.length ≤ 256 →
      (s.theatre.cue n).trigger = .follow → s.theatre.follow = 1 → ∃ t : State,
      exec (.followExpiry e) s = .next t ∧ n < t.theatre.pointer
        ∧ ((t.theatre.cue n).state = .fired ∨ (t.theatre.cue n).state = .faulted))
    ∧ ∀ z < 64, ∀ m, (s.zone z).ramp = some m → m.ticksLeft = 1 → s.showRests = true → ∃ t : State,
      exec (.levelRampEnd z e) s = .next t ∧ (t.zone z).ramp = none ∧ (t.zone z).level = (s.zone z).levelTarget
        ∧ (t.zone z).levelTarget = (s.zone z).levelTarget)
  ∧ ∀ (s : State) (e : TimeEvent), s.ticksAt e = true → s.panelRests = true →
    let n := s.theatre.pointer
    let ramped (t : State) : Prop := ∀ z < 64, (t.zone z).levelTarget = (s.zone z).levelTarget
      ∧ (∀ m, (s.zone z).ramp = some m → 1 < m.ticksLeft →
        (t.zone z).level = (((s.zone z).level : Int) + m.step).toNat
        ∧ (t.zone z).ramp = some { step := m.step, ticksLeft := m.ticksLeft - 1 })
      ∧ ((s.zone z).ramp = none → (t.zone z).level = (s.zone z).level ∧ (t.zone z).ramp = none)
    let c := s.clock
    let unlocked : Prop := c.lock = .free ∨ c.lock = .acquiring
    let steps := match e with
      | .nextStep _ _ => 1
      | .gapExpiry _ => 3
    let number (markCount : Nat) : Nat := (markCount + 16777216 - s.theatre.markBase) % 16777216
    let value := (s.theatre.cue n).value
    let notDue : Prop := unlocked ∨ (number c.markCount < value ∧ (c.stepCount + steps < c.lockedInterval + 16
      ∨ (800 ≤ c.lockedInterval ∧ number ((c.markCount + 1) % 16777216) < value)))
    (s.showRests = true → ∃ t : State, exec (.tick e) s = .next t ∧ ramped t ∧ t.theatre = s.theatre)
    ∧ (s.theatre.state = .running → n < s.theatre.length →
      ((s.theatre.cue n).trigger = .go ∨ ((s.theatre.cue n).trigger = .mark ∧ notDue)) →
      ∃ t : State, exec (.tick e) s = .next t ∧ ramped t ∧ t.theatre = s.theatre)
    ∧ (s.theatre.state = .running → n < s.theatre.length → (s.theatre.cue n).trigger = .follow → 1 < s.theatre.follow →
      ∃ t : State, exec (.tick e) s = .next t ∧ ramped t
        ∧ t.theatre = { s.theatre with follow := s.theatre.follow - 1 })

/-! ## Words of the rings -/

/-- A sense word (R156, R157, R158): not taken while the pilot level is 0; scored at its first write in a period, a match only with
all lanes enabled; at position 47 the period closes, as the second part says.
A sense period closes (R158 to R161, R163): it passes at the threshold; the runs, then the verdict; a fail with the verdict
FAILING is counted; becoming FAILING posts SUPERVISION and has the fallback lines evaluated. -/
def Obligations.SenseWordsAndVerdict : Prop :=
  (∀ (s : State) (tag addr z offset : Nat) (w : WriteWord), s.accepts tag = true → s.classify addr = .sense z offset →
    let e := s.zone z
    let i := offset % 48
    let good : Prop := w.lanes = 15#4
      ∧ (pilotPositive e.pilotPattern ((i + 48 - e.senseLag) % 48) = true ↔ 0 ≤ sampleOf w.data)
    let scored (n : Nat) : State := { s.begun with
      zones := s.zones.set z { e with seen := e.seen.set i true, tally := n } }
    let close (t : State) : State := if i = 47 then t.closeSense z else t
    let answer (t : State) : Prop := exec (.writeRequest tag addr [w]) s = .next (t.afterWord tag addr w)
    (e.pilotLevel = 0 → answer s.begun)
    ∧ (0 < e.pilotLevel →
      (e.seen.get i = true → answer (close s.begun))
      ∧ (e.seen.get i = false → good → answer (close (scored (e.tally + 1))))
      ∧ (e.seen.get i = false → ¬ good → answer (close (scored e.tally)))))
  ∧ (∀ (s : State) (z : Nat), z < 64 →
    let e := s.zone z
    let pass : Prop := s.control.passThreshold ≤ e.tally
    let passRun := if pass then min 8 (e.passRun + 1) else 0
    let failRun := if pass then 0 else min 16 (e.failRun + 1)
    let verdict : Verdict := match e.verdict with
      | .unchecked => if passRun = 8 then .passing else if failRun = 16 then .failing else .unchecked
      | .passing => if failRun = 16 then .failing else .passing
      | .failing => if passRun = 8 then .passing else .failing
    let counts : Prop := ¬ pass ∧ verdict = .failing
    let becomes : Prop := verdict = .failing ∧ e.verdict ≠ .failing
    let t := s.closeSense z
    t.zone z = { e with
      tally := 0, seen := Bank.fill 48 false, passRun := passRun, failRun := failRun, verdict := verdict,
      failingPeriods := if counts ∧ e.failingPeriods < 255 then e.failingPeriods + 1 else e.failingPeriods }
    ∧ (∀ y < 64, y ≠ z → t.zone y = s.zone y)
    ∧ (becomes → t.control.pendingNotices.get 2 = true ∧ t.alarm = (State.evaluateFallback { s with zones := t.zones }).alarm)
    ∧ (¬ becomes → t.alarm = s.alarm ∧ t.control.pendingNotices.get 2 = s.control.pendingNotices.get 2)
    ∧ (counts → e.failingPeriods = 127 → t.control.pendingNotices.get 7 = true))

/-- A microphone word (R116, R117, R127): taken for the talk group when the engine is not BUSY and the word is whole, replacing
the station's contribution at its position; torn when a lane is clear; else only forwarded. -/
def Obligations.MicrophoneWordReplacesItsShare : Prop :=
  ∀ (s : State) (tag addr n offset : Nat) (w : WriteWord), s.accepts tag = true → s.classify addr = .microphone n offset →
    let r := s.station n
    let i := offset % 48
    let v := sampleOf w.data
    let answer (t : State) : Prop := exec (.writeRequest tag addr [w]) s = .next (t.afterWord tag addr w)
    (r.talk = none ∨ s.control.busyIntercom = true → answer s.begun)
    ∧ (r.talk ≠ none → s.control.busyIntercom = false → w.lanes ≠ 15#4 →
      (r.torn = 127 → answer (State.post { s.begun with stations := s.stations.set n { r with torn := 128 } } .counter))
      ∧ (r.torn ≠ 127 → answer { s.begun with
          stations := s.stations.set n { r with torn := if r.torn < 255 then r.torn + 1 else r.torn } }))
    ∧ ∀ g < 16, r.talk = some g → s.control.busyIntercom = false → w.lanes = 15#4 →
      answer { s.begun with
        groups := s.groups.set g { s.group g with
          filling := (s.group g).filling.set i ((s.group g).filling.get i + (v - r.ownFilling.get i)) },
        stations := s.stations.set n { r with ownFilling := r.ownFilling.set i v, written := r.written.set i true } }

/-- A page ring word (R95 to R98): stray while no page is open, counted once a ring period; while one is, position 0 starts its
period, or drops it where the queue is full, and drops an unfinished one, each drop counted, with COUNTER where the counter passes
from 127 to 128 (R37, R107); a later word of the period in capture is its
sample, and position 47 makes the slot READY; any other is not taken. The other positions of a new slot keep what its buffer
held; which of the unused buffers it takes is free (log 9). -/
def Obligations.PageWordCapturedDroppedOrStray : Prop :=
  ∀ (s : State) (tag addr offset : Nat) (w : WriteWord), s.accepts tag = true → s.classify addr = .pageRing offset →
    let p := offset / 48
    let i := offset % 48
    let c := s.page
    let up (k : Nat) : Nat := if k < 255 then k + 1 else k
    let page (n : Nat) : Prop := (s.stream n).source = .live
      ∧ ((s.stream n).state = .starting ∨ (s.stream n).state = .playing) ∧ (s.stream n).closing = false
    let answers (t : State) : Prop := exec (.writeRequest tag addr [w]) s = .next (t.afterWord tag addr w)
    ((∀ n < 8, ¬ page n) →
      (i ≠ 0 → c.stray = some p → answers s.begun)
      ∧ (i = 0 ∨ c.stray ≠ some p → c.strayCount ≠ 127 →
        answers { s.begun with page := { c with stray := some p, strayCount := up c.strayCount } })
      ∧ (i = 0 ∨ c.stray ≠ some p → c.strayCount = 127 →
        answers (State.post { s.begun with page := { c with stray := some p, strayCount := 128 } } .counter)))
    ∧ ∀ n < 8, page n → (∀ m < n, ¬ page m) →
      let r := s.stream n
      let opens (q : List Slot) (dropped : Nat) (t : State) : Prop :=
        (q.length < 4 → t.page.capture = some p ∧ t.page.dropped = dropped ∧ ∃ x : Slot, (t.stream n).queue = q ++ [x]
          ∧ x.ready = false ∧ x.ringPeriod = p ∧ x.buffer < 4 ∧ (∀ y ∈ q, y.buffer ≠ x.buffer)
          ∧ ((t.stream n).buffers.get x.buffer).get 0 = w.data
          ∧ (∀ j, 1 ≤ j → j < 48 → ((t.stream n).buffers.get x.buffer).get j = (r.buffers.get x.buffer).get j)
          ∧ ∀ b < 4, b ≠ x.buffer → (t.stream n).buffers.get b = r.buffers.get b)
        ∧ (4 ≤ q.length → t.page.capture = none ∧ t.page.dropped = up dropped ∧ (t.stream n).queue = q
          ∧ (t.stream n).droppedCount = up r.droppedCount
          ∧ (t.control.pendingNotices.get 7 = true ↔ s.control.pendingNotices.get 7 = true ∨ dropped = 127))
      let written : Bank 4 (Bank 48 Word) := (r.queue.filter fun x => !x.ready).foldl
        (fun b x => b.set x.buffer ((b.get x.buffer).set i w.data)) r.buffers
      (i ≠ 0 → c.capture ≠ some p → answers s.begun)
      ∧ (i ≠ 47 → c.capture = some p → answers { s.begun with streams := s.streams.set n { r with
          buffers := written } })
      ∧ (i = 47 → c.capture = some p → answers { s.begun with
          streams := s.streams.set n { r with
            buffers := written, queue := r.queue.map fun x => { x with ready := true } },
          page := { c with capture := none } })
      ∧ (i = 0 → c.capture = none → ∃ t : State, answers t ∧ opens r.queue c.dropped t
        ∧ (∀ m < 8, m ≠ n → t.stream m = s.stream m) ∧ t.zones = s.zones)
      ∧ ∀ q, i = 0 → c.capture = some q → q ≠ p → r.queue.length ≤ 4 → (∃ x ∈ r.queue, x.ready = false) →
        ∃ t : State, answers t ∧ opens (r.queue.filter fun x => x.ready) (up c.dropped) t
        ∧ (t.stream n).droppedCount = up r.droppedCount ∧ (c.dropped = 127 → t.control.pendingNotices.get 7 = true)
        ∧ (∀ m < 8, m ≠ n → t.stream m = s.stream m) ∧ t.zones = s.zones

/-! ## Composition -/

/-- A playout word, by the table of R59: gained samples rounded toward zero (R60), the pilot term (R61), one clamp to the sample
range and the sign extended (R62). `x` holds the samples of the current slot of the PLAYING stream bound to the zone, with the
stream engine not BUSY (R58). -/
def Obligations.PlayoutWordIsComposed : Prop :=
  ∀ (s : State) (z i : Nat) (word : Word),
    let e := s.zone z
    let times (a : Int) (gain : Nat) : Int := Int.tdiv (a * gain) 4096
    let m := sampleOf word
    let g := if e.kind = .theatreZone then e.level else e.programGain
    let q : Int := if e.sensePresent = true ∧ pilotPositive e.pilotPattern i = true then e.pilotLevel
      else if e.sensePresent = true then -e.pilotLevel else 0
    let out (v : Int) : Prop := s.playoutWord z i word = BitVec.ofInt 32 (max (-8388608) (min 8388607 (v + q)))
    let from' (x : Bank 48 Word) : Prop := ∃ n slot rest, e.bound = some n ∧ s.control.busyStream = false
      ∧ (s.stream n).state = .playing ∧ (s.stream n).current = true ∧ (s.stream n).queue = slot :: rest
      ∧ x = (s.stream n).buffers.get slot.buffer
    let alone : Prop := ∀ x, ¬ from' x
    (s.alarm.state = .sounding → out (times (s.alarm.tone i) e.alarmGain))
    ∧ (∀ x, from' x → let v := times (sampleOf (x.get i)) e.overlayGain
      (s.alarm.state = .quiet ∨ (s.alarm.state = .muster ∧ e.kind = .crewZone) → out (times (times m g) e.duckGain + v))
      ∧ (s.alarm.state = .muster → e.kind ≠ .crewZone → out v))
    ∧ (alone → (s.alarm.state = .quiet ∨ (s.alarm.state = .muster ∧ e.kind = .crewZone) → out (times m g))
      ∧ (s.alarm.state = .muster → e.kind ≠ .crewZone → out 0))

/-- An earpiece word (R122): memory's sample, the conference term of every group listened to, defined, not muted and of an engine
not BUSY, less the station's own voice in its ready group, and the tone while SOUNDING; added exactly and clamped once. -/
def Obligations.EarpieceWordIsMixedMinusSelf : Prop :=
  ∀ (s : State) (n i : Nat) (word : Word),
    let r := s.station n
    let times (a : Int) (gain : Nat) : Int := Int.tdiv (a * gain) 4096
    let muted (g : Nat) : Bool := s.alarm.state != .quiet && !(s.group g).essential
    let heard (g : Nat) : Bool := r.listen.get g && (s.group g).defined && !muted g && !s.control.busyIntercom
    let own (g : Nat) : Int := if r.readyGroup = some g then r.ownReady.get i else 0
    let tone : Int := if s.alarm.state = .sounding then times (s.alarm.tone i) r.alarmGain else 0
    s.earpieceWord n i word = BitVec.ofInt 32 (max (-8388608) (min 8388607 (sampleOf word
      + (((List.range 16).filter heard).map fun g => times ((s.group g).ready.get i - own g) (s.group g).gain).sum + tone)))

/-- The tone is the sine of R146: 0 in a rest segment; else, at every position and pattern position, 8,388,607 times the sine of
the phase, rounded to the nearest integer, halves away from zero. -/
def Obligations.ToneIsTheRoundedSine : Prop :=
  ∀ (a : AlarmUnit) (i : Nat),
    let f := (a.segments.get a.segment).frequency
    let phase := (a.phase + f * i) % 48000
    let exact : ℝ := 8388607 * Real.sin (2 * Real.pi * (phase : ℝ) / 48000)
    (f = 0 → a.tone i = 0)
    ∧ (0 < f → |exact - (a.tone i : ℝ)| ≤ 1 / 2 ∧ (|exact - (a.tone i : ℝ)| = 1 / 2 → |exact| < |(a.tone i : ℝ)|))

/-! ## Laws every step keeps -/

/-- R40: whenever no kind is in service, none is pending and unmasked. -/
def Obligations.NoticesStaySettled : Prop := ∀ s s' : State, s.settled = true → step s = .next s' → s'.settled = true

/-- The ranges of the clock unit's registers (chapter 4) and of the counters (R37). -/
def Obligations.ClockAndCountersStayInRange : Prop :=
  (∀ s s' : State, ClockLaw s → step s = .next s' → ClockLaw s')
    ∧ ∀ s s' : State, CounterLaw s → step s = .next s' → CounterLaw s'

/-- What the alarm forbids (R152, R102, R168): a fallback line in QUIET, a live stream in SOUNDING, one below priority 7 in
MUSTER, a RUNNING show in either. -/
def Obligations.AlarmLawHoldsAtEveryStep : Prop := ∀ s s' : State, AlarmLaw s → step s = .next s' → AlarmLaw s'

/-- The slot queues of R83, with at most one slot FILLING and that the last; one LIVE record at a time (R85), its slots as R95 to R97
leave them; the empty zone sets of records at rest (R84, R93); the order of the own queue (R19); and every own request, waiting or in flight,
naming a stream (R18). -/
def Obligations.StreamLawHoldsAtEveryStep : Prop := ∀ s s' : State, StreamLaw s → step s = .next s' → StreamLaw s'

/-- The regions of R4 stay pairwise disjoint, and an unanchored part has none but the anchor block (R9). -/
def Obligations.RegionsStayDisjoint : Prop := ∀ s s' : State, RegionLaw s → step s = .next s' → RegionLaw s'

/-- A station's talk group is in its listen set, and no group has more than 6 talkers (R124, R125); a listen set has at most 4
groups (R126), and a talker is active and its group defined (R113, R115). -/
def Obligations.IntercomLawHoldsAtEveryStep : Prop := ∀ s s' : State, IntercomLaw s → step s = .next s' → IntercomLaw s'

/-- A group's filling sum is the sum of its talkers' own-filling samples, at every position (R110, R116, R119, R125). -/
def Obligations.GroupSumsAreTheirTalkers : Prop :=
  ∀ s s' : State, IntercomLaw s → GroupSumLaw s → step s = .next s' → GroupSumLaw s'

/-- While the show is IDLE or STOPPED every mapped THEATRE zone is at its program gain with no ramp (R185), and every level stays
between 0 and 4096 (R184). -/
def Obligations.LevelLawHoldsAtEveryStep : Prop := ∀ s s' : State, LevelLaw s → step s = .next s' → LevelLaw s'

/-- Every law holds right after reset. -/
def Obligations.ResetKeepsTheLaws : Prop :=
  State.reset.settled = true ∧ ClockLaw State.reset ∧ CounterLaw State.reset ∧ AlarmLaw State.reset
    ∧ StreamLaw State.reset ∧ RegionLaw State.reset ∧ IntercomLaw State.reset ∧ GroupSumLaw State.reset ∧ LevelLaw State.reset
end

