-- ==== Sys2Proof/Laws/Bank.lean ====
section
/-! SUPPORT. Reading a bank after each of its operations. -/

namespace Sys2Proof.Bank

variable {n : Nat} {α β : Type}

/-- Two banks with the same cells are the same. -/
@[ext] theorem ext_cells {a b : Bank n α} (h : a.cells = b.cells) : a = b := by
  cases a; cases b; cases h; rfl

/-- A cell inside the bank is the list's. -/
theorem get_eq_getElem [NeZero n] (b : Bank n α) (i : Nat) (h : i < n) :
    b.get i = b.cells[i]'(by rw [b.size]; exact h) := by
  unfold get
  rw [List.getD_eq_getElem?_getD, List.getElem?_eq_getElem (by rw [b.size]; exact h), Option.getD_some]

/-- Two banks that read the same everywhere are the same. -/
theorem ext_get [NeZero n] {a b : Bank n α} (h : ∀ i < n, a.get i = b.get i) : a = b := by
  refine ext_cells (List.ext_getElem (by rw [a.size, b.size]) ?_)
  intro i hi _
  have hn : i < n := by rw [← a.size]; exact hi
  have := h i hn
  rwa [get_eq_getElem a i hn, get_eq_getElem b i hn] at this

@[simp] theorem get_fill [NeZero n] (a : α) (i : Nat) (h : i < n) : (fill n a).get i = a := by
  rw [get_eq_getElem _ _ h]; exact List.getElem_replicate ..

@[simp] theorem get_ofFn [NeZero n] (f : Nat → α) (i : Nat) (h : i < n) : (ofFn n f).get i = f i := by
  rw [get_eq_getElem _ _ h]; simp [ofFn]

@[simp] theorem get_map [NeZero n] (f : α → β) (b : Bank n α) (i : Nat) (h : i < n) :
    (b.map f).get i = f (b.get i) := by
  rw [get_eq_getElem _ _ h, get_eq_getElem _ _ h]; simp [map]

@[simp] theorem get_set_self [NeZero n] (b : Bank n α) (i : Nat) (a : α) (h : i < n) : (b.set i a).get i = a := by
  rw [get_eq_getElem _ _ h]; simp [set]

theorem get_set_ne [NeZero n] (b : Bank n α) (i j : Nat) (a : α) (hj : j < n) (h : i ≠ j) :
    (b.set i a).get j = b.get j := by
  rw [get_eq_getElem _ _ hj, get_eq_getElem _ _ hj]; simp [set, h]

/-- Reading after a write, either way. -/
theorem get_set [NeZero n] (b : Bank n α) (i j : Nat) (a : α) (hj : j < n) :
    (b.set i a).get j = if i = j then a else b.get j := by
  by_cases h : i = j
  · subst h; rw [get_set_self _ _ _ hj, if_pos rfl]
  · rw [get_set_ne _ _ _ _ hj h, if_neg h]

theorem set_set (b : Bank n α) (i : Nat) (x y : α) : (b.set i x).set i y = b.set i y := by
  apply ext_cells; simp [set]

/-- Writing what is there changes nothing. -/
theorem set_get [NeZero n] (b : Bank n α) (i : Nat) : b.set i (b.get i) = b := by
  refine ext_get fun j hj => ?_
  rw [get_set _ _ _ _ hj]; split
  · next e => rw [e]
  · rfl

/-- A count of none says every cell fails. -/
theorem count_eq_zero [NeZero n] (p : α → Bool) (b : Bank n α) : b.count p = 0 ↔ ∀ i < n, p (b.get i) = false := by
  unfold count
  rw [List.countP_eq_zero]
  constructor
  · intro h i hi
    rw [get_eq_getElem _ _ hi]
    exact Bool.eq_false_iff.mpr (h _ (List.getElem_mem _))
  · intro h a ha
    obtain ⟨i, hi, e⟩ := List.getElem_of_mem ha
    have hn : i < n := by rw [← b.size]; exact hi
    have := h i hn
    rw [get_eq_getElem _ _ hn, e] at this
    simp [this]

/-- What holds of every cell. -/
theorem all_cells [NeZero n] (p : α → Prop) (b : Bank n α) : (∀ a ∈ b.cells, p a) ↔ ∀ i < n, p (b.get i) := by
  constructor
  · intro h i hi
    rw [get_eq_getElem _ _ hi]
    exact h _ (List.getElem_mem _)
  · intro h a ha
    obtain ⟨i, hi, e⟩ := List.getElem_of_mem ha
    have hn : i < n := by rw [← b.size]; exact hi
    have := h i hn
    rwa [get_eq_getElem _ _ hn, e] at this

end Sys2Proof.Bank
end

