-- ==== Sys2Proof/Laws/State.lean ====
section
/-! SUPPORT. Every field of the state after each of its updates, and reading one of many after writing one. -/

namespace Sys2Proof.Machine

/-! ## setZone -/

@[simp] theorem setZone_transit (s : State) (z : Nat) (e : ZoneEntry) : (s.setZone z e).transit = s.transit := rfl

@[simp] theorem setZone_control (s : State) (z : Nat) (e : ZoneEntry) : (s.setZone z e).control = s.control := rfl

@[simp] theorem setZone_zones (s : State) (z : Nat) (e : ZoneEntry) : (s.setZone z e).zones = s.zones.set z e := rfl

@[simp] theorem setZone_clock (s : State) (z : Nat) (e : ZoneEntry) : (s.setZone z e).clock = s.clock := rfl

@[simp] theorem setZone_streams (s : State) (z : Nat) (e : ZoneEntry) : (s.setZone z e).streams = s.streams := rfl

@[simp] theorem setZone_page (s : State) (z : Nat) (e : ZoneEntry) : (s.setZone z e).page = s.page := rfl

@[simp] theorem setZone_lastEnded (s : State) (z : Nat) (e : ZoneEntry) : (s.setZone z e).lastEnded = s.lastEnded := rfl

@[simp] theorem setZone_stations (s : State) (z : Nat) (e : ZoneEntry) : (s.setZone z e).stations = s.stations := rfl

@[simp] theorem setZone_groups (s : State) (z : Nat) (e : ZoneEntry) : (s.setZone z e).groups = s.groups := rfl

@[simp] theorem setZone_alarm (s : State) (z : Nat) (e : ZoneEntry) : (s.setZone z e).alarm = s.alarm := rfl

@[simp] theorem setZone_theatre (s : State) (z : Nat) (e : ZoneEntry) : (s.setZone z e).theatre = s.theatre := rfl

@[simp] theorem setZone_lines (s : State) (z : Nat) (e : ZoneEntry) : (s.setZone z e).lines = s.lines := rfl

@[simp] theorem setZone_event (s : State) (z : Nat) (e : ZoneEntry) : (s.setZone z e).event = s.event := rfl

@[simp] theorem setZone_freeDraws (s : State) (z : Nat) (e : ZoneEntry) : (s.setZone z e).freeDraws = s.freeDraws := rfl

@[simp] theorem setZone_pending (s : State) (z : Nat) (e : ZoneEntry) : (s.setZone z e).pending = s.pending := rfl

/-! ## setStream -/

@[simp] theorem setStream_transit (s : State) (n : Nat) (r : StreamRecord) : (s.setStream n r).transit = s.transit := rfl

@[simp] theorem setStream_control (s : State) (n : Nat) (r : StreamRecord) : (s.setStream n r).control = s.control := rfl

@[simp] theorem setStream_zones (s : State) (n : Nat) (r : StreamRecord) : (s.setStream n r).zones = s.zones := rfl

@[simp] theorem setStream_clock (s : State) (n : Nat) (r : StreamRecord) : (s.setStream n r).clock = s.clock := rfl

@[simp] theorem setStream_streams (s : State) (n : Nat) (r : StreamRecord) : (s.setStream n r).streams = s.streams.set n r := rfl

@[simp] theorem setStream_page (s : State) (n : Nat) (r : StreamRecord) : (s.setStream n r).page = s.page := rfl

@[simp] theorem setStream_lastEnded (s : State) (n : Nat) (r : StreamRecord) : (s.setStream n r).lastEnded = s.lastEnded := rfl

@[simp] theorem setStream_stations (s : State) (n : Nat) (r : StreamRecord) : (s.setStream n r).stations = s.stations := rfl

@[simp] theorem setStream_groups (s : State) (n : Nat) (r : StreamRecord) : (s.setStream n r).groups = s.groups := rfl

@[simp] theorem setStream_alarm (s : State) (n : Nat) (r : StreamRecord) : (s.setStream n r).alarm = s.alarm := rfl

@[simp] theorem setStream_theatre (s : State) (n : Nat) (r : StreamRecord) : (s.setStream n r).theatre = s.theatre := rfl

@[simp] theorem setStream_lines (s : State) (n : Nat) (r : StreamRecord) : (s.setStream n r).lines = s.lines := rfl

@[simp] theorem setStream_event (s : State) (n : Nat) (r : StreamRecord) : (s.setStream n r).event = s.event := rfl

@[simp] theorem setStream_freeDraws (s : State) (n : Nat) (r : StreamRecord) : (s.setStream n r).freeDraws = s.freeDraws := rfl

@[simp] theorem setStream_pending (s : State) (n : Nat) (r : StreamRecord) : (s.setStream n r).pending = s.pending := rfl

/-! ## setStation -/

@[simp] theorem setStation_transit (s : State) (n : Nat) (r : StationRecord) : (s.setStation n r).transit = s.transit := rfl

@[simp] theorem setStation_control (s : State) (n : Nat) (r : StationRecord) : (s.setStation n r).control = s.control := rfl

@[simp] theorem setStation_zones (s : State) (n : Nat) (r : StationRecord) : (s.setStation n r).zones = s.zones := rfl

@[simp] theorem setStation_clock (s : State) (n : Nat) (r : StationRecord) : (s.setStation n r).clock = s.clock := rfl

@[simp] theorem setStation_streams (s : State) (n : Nat) (r : StationRecord) : (s.setStation n r).streams = s.streams := rfl

@[simp] theorem setStation_page (s : State) (n : Nat) (r : StationRecord) : (s.setStation n r).page = s.page := rfl

@[simp] theorem setStation_lastEnded (s : State) (n : Nat) (r : StationRecord) : (s.setStation n r).lastEnded = s.lastEnded := rfl

@[simp] theorem setStation_stations (s : State) (n : Nat) (r : StationRecord) : (s.setStation n r).stations = s.stations.set n r := rfl

@[simp] theorem setStation_groups (s : State) (n : Nat) (r : StationRecord) : (s.setStation n r).groups = s.groups := rfl

@[simp] theorem setStation_alarm (s : State) (n : Nat) (r : StationRecord) : (s.setStation n r).alarm = s.alarm := rfl

@[simp] theorem setStation_theatre (s : State) (n : Nat) (r : StationRecord) : (s.setStation n r).theatre = s.theatre := rfl

@[simp] theorem setStation_lines (s : State) (n : Nat) (r : StationRecord) : (s.setStation n r).lines = s.lines := rfl

@[simp] theorem setStation_event (s : State) (n : Nat) (r : StationRecord) : (s.setStation n r).event = s.event := rfl

@[simp] theorem setStation_freeDraws (s : State) (n : Nat) (r : StationRecord) : (s.setStation n r).freeDraws = s.freeDraws := rfl

@[simp] theorem setStation_pending (s : State) (n : Nat) (r : StationRecord) : (s.setStation n r).pending = s.pending := rfl

/-! ## setGroup -/

@[simp] theorem setGroup_transit (s : State) (g : Nat) (r : GroupRecord) : (s.setGroup g r).transit = s.transit := rfl

@[simp] theorem setGroup_control (s : State) (g : Nat) (r : GroupRecord) : (s.setGroup g r).control = s.control := rfl

@[simp] theorem setGroup_zones (s : State) (g : Nat) (r : GroupRecord) : (s.setGroup g r).zones = s.zones := rfl

@[simp] theorem setGroup_clock (s : State) (g : Nat) (r : GroupRecord) : (s.setGroup g r).clock = s.clock := rfl

@[simp] theorem setGroup_streams (s : State) (g : Nat) (r : GroupRecord) : (s.setGroup g r).streams = s.streams := rfl

@[simp] theorem setGroup_page (s : State) (g : Nat) (r : GroupRecord) : (s.setGroup g r).page = s.page := rfl

@[simp] theorem setGroup_lastEnded (s : State) (g : Nat) (r : GroupRecord) : (s.setGroup g r).lastEnded = s.lastEnded := rfl

@[simp] theorem setGroup_stations (s : State) (g : Nat) (r : GroupRecord) : (s.setGroup g r).stations = s.stations := rfl

@[simp] theorem setGroup_groups (s : State) (g : Nat) (r : GroupRecord) : (s.setGroup g r).groups = s.groups.set g r := rfl

@[simp] theorem setGroup_alarm (s : State) (g : Nat) (r : GroupRecord) : (s.setGroup g r).alarm = s.alarm := rfl

@[simp] theorem setGroup_theatre (s : State) (g : Nat) (r : GroupRecord) : (s.setGroup g r).theatre = s.theatre := rfl

@[simp] theorem setGroup_lines (s : State) (g : Nat) (r : GroupRecord) : (s.setGroup g r).lines = s.lines := rfl

@[simp] theorem setGroup_event (s : State) (g : Nat) (r : GroupRecord) : (s.setGroup g r).event = s.event := rfl

@[simp] theorem setGroup_freeDraws (s : State) (g : Nat) (r : GroupRecord) : (s.setGroup g r).freeDraws = s.freeDraws := rfl

@[simp] theorem setGroup_pending (s : State) (g : Nat) (r : GroupRecord) : (s.setGroup g r).pending = s.pending := rfl

/-! ## setShow -/

@[simp] theorem setShow_transit (s : State) (r : ShowRecord) : (s.setShow r).transit = s.transit := rfl

@[simp] theorem setShow_control (s : State) (r : ShowRecord) : (s.setShow r).control = s.control := rfl

@[simp] theorem setShow_zones (s : State) (r : ShowRecord) : (s.setShow r).zones = s.zones := rfl

@[simp] theorem setShow_clock (s : State) (r : ShowRecord) : (s.setShow r).clock = s.clock := rfl

@[simp] theorem setShow_streams (s : State) (r : ShowRecord) : (s.setShow r).streams = s.streams := rfl

@[simp] theorem setShow_page (s : State) (r : ShowRecord) : (s.setShow r).page = s.page := rfl

@[simp] theorem setShow_lastEnded (s : State) (r : ShowRecord) : (s.setShow r).lastEnded = s.lastEnded := rfl

@[simp] theorem setShow_stations (s : State) (r : ShowRecord) : (s.setShow r).stations = s.stations := rfl

@[simp] theorem setShow_groups (s : State) (r : ShowRecord) : (s.setShow r).groups = s.groups := rfl

@[simp] theorem setShow_alarm (s : State) (r : ShowRecord) : (s.setShow r).alarm = s.alarm := rfl

@[simp] theorem setShow_theatre (s : State) (r : ShowRecord) : (s.setShow r).theatre = r := rfl

@[simp] theorem setShow_lines (s : State) (r : ShowRecord) : (s.setShow r).lines = s.lines := rfl

@[simp] theorem setShow_event (s : State) (r : ShowRecord) : (s.setShow r).event = s.event := rfl

@[simp] theorem setShow_freeDraws (s : State) (r : ShowRecord) : (s.setShow r).freeDraws = s.freeDraws := rfl

@[simp] theorem setShow_pending (s : State) (r : ShowRecord) : (s.setShow r).pending = s.pending := rfl

/-! ## addError -/

@[simp] theorem addError_transit (s : State) (f : ErrorFlag) : (s.addError f).transit = s.transit := rfl

@[simp] theorem addError_control (s : State) (f : ErrorFlag) : (s.addError f).control = s.control.addError f := rfl

@[simp] theorem addError_zones (s : State) (f : ErrorFlag) : (s.addError f).zones = s.zones := rfl

@[simp] theorem addError_clock (s : State) (f : ErrorFlag) : (s.addError f).clock = s.clock := rfl

@[simp] theorem addError_streams (s : State) (f : ErrorFlag) : (s.addError f).streams = s.streams := rfl

@[simp] theorem addError_page (s : State) (f : ErrorFlag) : (s.addError f).page = s.page := rfl

@[simp] theorem addError_lastEnded (s : State) (f : ErrorFlag) : (s.addError f).lastEnded = s.lastEnded := rfl

@[simp] theorem addError_stations (s : State) (f : ErrorFlag) : (s.addError f).stations = s.stations := rfl

@[simp] theorem addError_groups (s : State) (f : ErrorFlag) : (s.addError f).groups = s.groups := rfl

@[simp] theorem addError_alarm (s : State) (f : ErrorFlag) : (s.addError f).alarm = s.alarm := rfl

@[simp] theorem addError_theatre (s : State) (f : ErrorFlag) : (s.addError f).theatre = s.theatre := rfl

@[simp] theorem addError_lines (s : State) (f : ErrorFlag) : (s.addError f).lines = s.lines := rfl

@[simp] theorem addError_event (s : State) (f : ErrorFlag) : (s.addError f).event = s.event := rfl

@[simp] theorem addError_freeDraws (s : State) (f : ErrorFlag) : (s.addError f).freeDraws = s.freeDraws := rfl

@[simp] theorem addError_pending (s : State) (f : ErrorFlag) : (s.addError f).pending = s.pending := rfl

/-! ## post -/

@[simp] theorem post_transit (s : State) (k : NoticeKind) : (s.post k).transit = s.transit := rfl

@[simp] theorem post_control (s : State) (k : NoticeKind) : (s.post k).control = s.control.post k := rfl

@[simp] theorem post_zones (s : State) (k : NoticeKind) : (s.post k).zones = s.zones := rfl

@[simp] theorem post_clock (s : State) (k : NoticeKind) : (s.post k).clock = s.clock := rfl

@[simp] theorem post_streams (s : State) (k : NoticeKind) : (s.post k).streams = s.streams := rfl

@[simp] theorem post_page (s : State) (k : NoticeKind) : (s.post k).page = s.page := rfl

@[simp] theorem post_lastEnded (s : State) (k : NoticeKind) : (s.post k).lastEnded = s.lastEnded := rfl

@[simp] theorem post_stations (s : State) (k : NoticeKind) : (s.post k).stations = s.stations := rfl

@[simp] theorem post_groups (s : State) (k : NoticeKind) : (s.post k).groups = s.groups := rfl

@[simp] theorem post_alarm (s : State) (k : NoticeKind) : (s.post k).alarm = s.alarm := rfl

@[simp] theorem post_theatre (s : State) (k : NoticeKind) : (s.post k).theatre = s.theatre := rfl

@[simp] theorem post_lines (s : State) (k : NoticeKind) : (s.post k).lines = s.lines := rfl

@[simp] theorem post_event (s : State) (k : NoticeKind) : (s.post k).event = s.event := rfl

@[simp] theorem post_freeDraws (s : State) (k : NoticeKind) : (s.post k).freeDraws = s.freeDraws := rfl

@[simp] theorem post_pending (s : State) (k : NoticeKind) : (s.post k).pending = s.pending := rfl

/-! ## latch -/

@[simp] theorem latch_transit (s : State) : s.latch.transit = s.transit := rfl

@[simp] theorem latch_control (s : State) : s.latch.control = s.control.latch := rfl

@[simp] theorem latch_zones (s : State) : s.latch.zones = s.zones := rfl

@[simp] theorem latch_clock (s : State) : s.latch.clock = s.clock := rfl

@[simp] theorem latch_streams (s : State) : s.latch.streams = s.streams := rfl

@[simp] theorem latch_page (s : State) : s.latch.page = s.page := rfl

@[simp] theorem latch_lastEnded (s : State) : s.latch.lastEnded = s.lastEnded := rfl

@[simp] theorem latch_stations (s : State) : s.latch.stations = s.stations := rfl

@[simp] theorem latch_groups (s : State) : s.latch.groups = s.groups := rfl

@[simp] theorem latch_alarm (s : State) : s.latch.alarm = s.alarm := rfl

@[simp] theorem latch_theatre (s : State) : s.latch.theatre = s.theatre := rfl

@[simp] theorem latch_lines (s : State) : s.latch.lines = s.lines := rfl

@[simp] theorem latch_event (s : State) : s.latch.event = s.event := rfl

@[simp] theorem latch_freeDraws (s : State) : s.latch.freeDraws = s.freeDraws := rfl

@[simp] theorem latch_pending (s : State) : s.latch.pending = s.pending := rfl

/-! ## answer -/

@[simp] theorem answer_transit (s : State) (a : HostAnswer) : (s.answer a).transit = s.transit := rfl

@[simp] theorem answer_control (s : State) (a : HostAnswer) : (s.answer a).control = s.control := rfl

@[simp] theorem answer_zones (s : State) (a : HostAnswer) : (s.answer a).zones = s.zones := rfl

@[simp] theorem answer_clock (s : State) (a : HostAnswer) : (s.answer a).clock = s.clock := rfl

@[simp] theorem answer_streams (s : State) (a : HostAnswer) : (s.answer a).streams = s.streams := rfl

@[simp] theorem answer_page (s : State) (a : HostAnswer) : (s.answer a).page = s.page := rfl

@[simp] theorem answer_lastEnded (s : State) (a : HostAnswer) : (s.answer a).lastEnded = s.lastEnded := rfl

@[simp] theorem answer_stations (s : State) (a : HostAnswer) : (s.answer a).stations = s.stations := rfl

@[simp] theorem answer_groups (s : State) (a : HostAnswer) : (s.answer a).groups = s.groups := rfl

@[simp] theorem answer_alarm (s : State) (a : HostAnswer) : (s.answer a).alarm = s.alarm := rfl

@[simp] theorem answer_theatre (s : State) (a : HostAnswer) : (s.answer a).theatre = s.theatre := rfl

@[simp] theorem answer_lines (s : State) (a : HostAnswer) : (s.answer a).lines = s.lines := rfl

@[simp] theorem answer_event (s : State) (a : HostAnswer) : (s.answer a).event = { s.event with toHost := some a } := rfl

@[simp] theorem answer_freeDraws (s : State) (a : HostAnswer) : (s.answer a).freeDraws = s.freeDraws := rfl

@[simp] theorem answer_pending (s : State) (a : HostAnswer) : (s.answer a).pending = s.pending := rfl

/-! ## clearTag -/

@[simp] theorem clearTag_transit (s : State) (tag : Nat) : (s.clearTag tag).transit = s.transit.clearTag tag := rfl

@[simp] theorem clearTag_control (s : State) (tag : Nat) : (s.clearTag tag).control = s.control := rfl

@[simp] theorem clearTag_zones (s : State) (tag : Nat) : (s.clearTag tag).zones = s.zones := rfl

@[simp] theorem clearTag_clock (s : State) (tag : Nat) : (s.clearTag tag).clock = s.clock := rfl

@[simp] theorem clearTag_streams (s : State) (tag : Nat) : (s.clearTag tag).streams = s.streams := rfl

@[simp] theorem clearTag_page (s : State) (tag : Nat) : (s.clearTag tag).page = s.page := rfl

@[simp] theorem clearTag_lastEnded (s : State) (tag : Nat) : (s.clearTag tag).lastEnded = s.lastEnded := rfl

@[simp] theorem clearTag_stations (s : State) (tag : Nat) : (s.clearTag tag).stations = s.stations := rfl

@[simp] theorem clearTag_groups (s : State) (tag : Nat) : (s.clearTag tag).groups = s.groups := rfl

@[simp] theorem clearTag_alarm (s : State) (tag : Nat) : (s.clearTag tag).alarm = s.alarm := rfl

@[simp] theorem clearTag_theatre (s : State) (tag : Nat) : (s.clearTag tag).theatre = s.theatre := rfl

@[simp] theorem clearTag_lines (s : State) (tag : Nat) : (s.clearTag tag).lines = s.lines := rfl

@[simp] theorem clearTag_event (s : State) (tag : Nat) : (s.clearTag tag).event = s.event := rfl

@[simp] theorem clearTag_freeDraws (s : State) (tag : Nat) : (s.clearTag tag).freeDraws = s.freeDraws := rfl

@[simp] theorem clearTag_pending (s : State) (tag : Nat) : (s.clearTag tag).pending = s.pending := rfl

/-! ## setPin -/

@[simp] theorem setPin_transit (s : State) (e : Nat) (p : PinEntry) : (s.setPin e p).transit = { s.transit with pins := s.transit.pins.set e p } := rfl

@[simp] theorem setPin_control (s : State) (e : Nat) (p : PinEntry) : (s.setPin e p).control = s.control := rfl

@[simp] theorem setPin_zones (s : State) (e : Nat) (p : PinEntry) : (s.setPin e p).zones = s.zones := rfl

@[simp] theorem setPin_clock (s : State) (e : Nat) (p : PinEntry) : (s.setPin e p).clock = s.clock := rfl

@[simp] theorem setPin_streams (s : State) (e : Nat) (p : PinEntry) : (s.setPin e p).streams = s.streams := rfl

@[simp] theorem setPin_page (s : State) (e : Nat) (p : PinEntry) : (s.setPin e p).page = s.page := rfl

@[simp] theorem setPin_lastEnded (s : State) (e : Nat) (p : PinEntry) : (s.setPin e p).lastEnded = s.lastEnded := rfl

@[simp] theorem setPin_stations (s : State) (e : Nat) (p : PinEntry) : (s.setPin e p).stations = s.stations := rfl

@[simp] theorem setPin_groups (s : State) (e : Nat) (p : PinEntry) : (s.setPin e p).groups = s.groups := rfl

@[simp] theorem setPin_alarm (s : State) (e : Nat) (p : PinEntry) : (s.setPin e p).alarm = s.alarm := rfl

@[simp] theorem setPin_theatre (s : State) (e : Nat) (p : PinEntry) : (s.setPin e p).theatre = s.theatre := rfl

@[simp] theorem setPin_lines (s : State) (e : Nat) (p : PinEntry) : (s.setPin e p).lines = s.lines := rfl

@[simp] theorem setPin_event (s : State) (e : Nat) (p : PinEntry) : (s.setPin e p).event = s.event := rfl

@[simp] theorem setPin_freeDraws (s : State) (e : Nat) (p : PinEntry) : (s.setPin e p).freeDraws = s.freeDraws := rfl

@[simp] theorem setPin_pending (s : State) (e : Nat) (p : PinEntry) : (s.setPin e p).pending = s.pending := rfl

/-! ## advancePort -/

@[simp] theorem advancePort_transit (s : State) (w : Bool) : (s.advancePort w).transit = s.transit := rfl

@[simp] theorem advancePort_control (s : State) (w : Bool) : (s.advancePort w).control = s.control.advance w := rfl

@[simp] theorem advancePort_zones (s : State) (w : Bool) : (s.advancePort w).zones = s.zones := rfl

@[simp] theorem advancePort_clock (s : State) (w : Bool) : (s.advancePort w).clock = s.clock := rfl

@[simp] theorem advancePort_streams (s : State) (w : Bool) : (s.advancePort w).streams = s.streams := rfl

@[simp] theorem advancePort_page (s : State) (w : Bool) : (s.advancePort w).page = s.page := rfl

@[simp] theorem advancePort_lastEnded (s : State) (w : Bool) : (s.advancePort w).lastEnded = s.lastEnded := rfl

@[simp] theorem advancePort_stations (s : State) (w : Bool) : (s.advancePort w).stations = s.stations := rfl

@[simp] theorem advancePort_groups (s : State) (w : Bool) : (s.advancePort w).groups = s.groups := rfl

@[simp] theorem advancePort_alarm (s : State) (w : Bool) : (s.advancePort w).alarm = s.alarm := rfl

@[simp] theorem advancePort_theatre (s : State) (w : Bool) : (s.advancePort w).theatre = s.theatre := rfl

@[simp] theorem advancePort_lines (s : State) (w : Bool) : (s.advancePort w).lines = s.lines := rfl

@[simp] theorem advancePort_event (s : State) (w : Bool) : (s.advancePort w).event = s.event := rfl

@[simp] theorem advancePort_freeDraws (s : State) (w : Bool) : (s.advancePort w).freeDraws = s.freeDraws := rfl

@[simp] theorem advancePort_pending (s : State) (w : Bool) : (s.advancePort w).pending = s.pending := rfl

/-! ## queued -/

@[simp] theorem queued_transit (s : State) (tag : Nat) (e : TagEntry) (r : Forwarded) : (s.queued tag e r).transit = s.transit.enqueue tag e r := rfl

@[simp] theorem queued_control (s : State) (tag : Nat) (e : TagEntry) (r : Forwarded) : (s.queued tag e r).control = s.control := rfl

@[simp] theorem queued_zones (s : State) (tag : Nat) (e : TagEntry) (r : Forwarded) : (s.queued tag e r).zones = s.zones := rfl

@[simp] theorem queued_clock (s : State) (tag : Nat) (e : TagEntry) (r : Forwarded) : (s.queued tag e r).clock = s.clock := rfl

@[simp] theorem queued_streams (s : State) (tag : Nat) (e : TagEntry) (r : Forwarded) : (s.queued tag e r).streams = s.streams := rfl

@[simp] theorem queued_page (s : State) (tag : Nat) (e : TagEntry) (r : Forwarded) : (s.queued tag e r).page = s.page := rfl

@[simp] theorem queued_lastEnded (s : State) (tag : Nat) (e : TagEntry) (r : Forwarded) : (s.queued tag e r).lastEnded = s.lastEnded := rfl

@[simp] theorem queued_stations (s : State) (tag : Nat) (e : TagEntry) (r : Forwarded) : (s.queued tag e r).stations = s.stations := rfl

@[simp] theorem queued_groups (s : State) (tag : Nat) (e : TagEntry) (r : Forwarded) : (s.queued tag e r).groups = s.groups := rfl

@[simp] theorem queued_alarm (s : State) (tag : Nat) (e : TagEntry) (r : Forwarded) : (s.queued tag e r).alarm = s.alarm := rfl

@[simp] theorem queued_theatre (s : State) (tag : Nat) (e : TagEntry) (r : Forwarded) : (s.queued tag e r).theatre = s.theatre := rfl

@[simp] theorem queued_lines (s : State) (tag : Nat) (e : TagEntry) (r : Forwarded) : (s.queued tag e r).lines = s.lines := rfl

@[simp] theorem queued_event (s : State) (tag : Nat) (e : TagEntry) (r : Forwarded) : (s.queued tag e r).event = s.event := rfl

@[simp] theorem queued_freeDraws (s : State) (tag : Nat) (e : TagEntry) (r : Forwarded) : (s.queued tag e r).freeDraws = s.freeDraws := rfl

@[simp] theorem queued_pending (s : State) (tag : Nat) (e : TagEntry) (r : Forwarded) : (s.queued tag e r).pending = s.pending := rfl

/-! ## begun -/

@[simp] theorem begun_transit (s : State) : s.begun.transit = s.transit := rfl

@[simp] theorem begun_control (s : State) : s.begun.control = s.control := rfl

@[simp] theorem begun_zones (s : State) : s.begun.zones = s.zones := rfl

@[simp] theorem begun_clock (s : State) : s.begun.clock = s.clock := rfl

@[simp] theorem begun_streams (s : State) : s.begun.streams = s.streams := rfl

@[simp] theorem begun_page (s : State) : s.begun.page = s.page := rfl

@[simp] theorem begun_lastEnded (s : State) : s.begun.lastEnded = s.lastEnded := rfl

@[simp] theorem begun_stations (s : State) : s.begun.stations = s.stations := rfl

@[simp] theorem begun_groups (s : State) : s.begun.groups = s.groups := rfl

@[simp] theorem begun_alarm (s : State) : s.begun.alarm = s.alarm := rfl

@[simp] theorem begun_theatre (s : State) : s.begun.theatre = s.theatre := rfl

@[simp] theorem begun_lines (s : State) : s.begun.lines = s.lines := rfl

@[simp] theorem begun_event (s : State) : s.begun.event = EventRecord.none := rfl

@[simp] theorem begun_freeDraws (s : State) : s.begun.freeDraws = s.freeDraws := rfl

@[simp] theorem begun_pending (s : State) : s.begun.pending = s.pending := rfl

/-! ## One of many -/

@[simp] theorem zone_setZone_self (s : State) (z : Nat) (e : ZoneEntry) (h : z < 64) : (s.setZone z e).zone z = e :=
  Bank.get_set_self _ _ _ h

theorem zone_setZone (s : State) (z y : Nat) (e : ZoneEntry) (h : y < 64) :
    (s.setZone z e).zone y = if z = y then e else s.zone y := Bank.get_set _ _ _ _ h

@[simp] theorem stream_setStream_self (s : State) (n : Nat) (r : StreamRecord) (h : n < 8) :
    (s.setStream n r).stream n = r := Bank.get_set_self _ _ _ h

theorem stream_setStream (s : State) (n m : Nat) (r : StreamRecord) (h : m < 8) :
    (s.setStream n r).stream m = if n = m then r else s.stream m := Bank.get_set _ _ _ _ h

@[simp] theorem station_setStation_self (s : State) (n : Nat) (r : StationRecord) (h : n < 32) :
    (s.setStation n r).station n = r := Bank.get_set_self _ _ _ h

theorem station_setStation (s : State) (n m : Nat) (r : StationRecord) (h : m < 32) :
    (s.setStation n r).station m = if n = m then r else s.station m := Bank.get_set _ _ _ _ h

@[simp] theorem group_setGroup_self (s : State) (g : Nat) (r : GroupRecord) (h : g < 16) :
    (s.setGroup g r).group g = r := Bank.get_set_self _ _ _ h

theorem group_setGroup (s : State) (g k : Nat) (r : GroupRecord) (h : k < 16) :
    (s.setGroup g r).group k = if g = k then r else s.group k := Bank.get_set _ _ _ _ h

/-! ## Notices -/

/-- A settled state has nothing to latch (R40). -/
theorem latch_settled (s : State) (h : s.settled = true) : s.latch = s := by
  have hc : s.control.latch = s.control := by
    unfold ControlUnit.latch
    split
    · rfl
    · next hk =>
      have hn : noticeKinds.find? s.control.latchable = none := by
        rw [List.find?_eq_none]
        intro k hm
        simp only [State.settled, hk, Option.isSome_none, Bool.false_or, List.all_eq_true] at h
        simpa using h k hm
      rw [hn, ← hk]
  exact congrArg (fun c => { s with control := c }) hc

/-- Latching settles (R40). -/
theorem settled_latch (s : State) : s.latch.settled = true := by
  unfold State.settled State.latch ControlUnit.latch
  cases hk : s.control.inService with
  | some k => simp [hk]
  | none =>
    cases hf : noticeKinds.find? s.control.latchable with
    | some k => simp
    | none =>
      rw [List.find?_eq_none] at hf
      simp only [Option.isSome_none, Bool.false_or, List.all_eq_true]
      intro k hm
      have := hf k hm
      simpa [ControlUnit.latchable, imp_iff_not_or] using this

end Sys2Proof.Machine
end

