-- ==== Sys2Proof/Laws/Blocks.lean ====
section
/-! SUPPORT. The shared operations of the blocks: how a loop over records, the cue chain, a tick and a step carry a law through,
and what the ending and the starting of streams leave alone. -/

namespace Sys2Proof.Machine

/-! ## Loops -/

theorem forEach_nil (s : State) (f : Nat → State → State) : s.forEach [] f = s := rfl

theorem forEach_cons (s : State) (n : Nat) (ns : List Nat) (f : Nat → State → State) :
    s.forEach (n :: ns) f = (f n s).forEach ns f := rfl

/-- What every turn of a loop keeps, the loop keeps. -/
theorem forEach_keeps {P : State → Prop} {f : Nat → State → State} {ns : List Nat}
    (h : ∀ n ∈ ns, ∀ s, P s → P (f n s)) {s : State} (hs : P s) : P (s.forEach ns f) := by
  induction ns generalizing s with
  | nil => exact hs
  | cons n ns ih =>
    rw [forEach_cons]
    exact ih (fun m hm => h m (List.mem_cons_of_mem _ hm)) (h n List.mem_cons_self s hs)

/-- A part of the state that no turn of a loop changes is as it was. -/
theorem forEach_same {α : Type} (part : State → α) {f : Nat → State → State} {ns : List Nat}
    (h : ∀ n ∈ ns, ∀ s, part (f n s) = part s) (s : State) : part (s.forEach ns f) = part s :=
  forEach_keeps (P := fun t => part t = part s) (fun n hn t ht => (h n hn t).trans ht) rfl

/-- Changing each zone of a list without repeats, each by what it was. -/
theorem forEach_setZone (g : Nat → ZoneEntry → ZoneEntry) {ns : List Nat} (hd : ns.Nodup) (hr : ∀ n ∈ ns, n < 64)
    (s : State) {z : Nat} (hz : z < 64) :
    (s.forEach ns fun n s => s.setZone n (g n (s.zone n))).zone z = if z ∈ ns then g z (s.zone z) else s.zone z := by
  induction ns generalizing s with
  | nil => rfl
  | cons n ns ih =>
    rw [forEach_cons, ih (List.nodup_cons.mp hd).2 (fun m hm => hr m (List.mem_cons_of_mem _ hm)), zone_setZone _ _ _ _ hz]
    by_cases e : n = z
    · subst e
      simp [(List.nodup_cons.mp hd).1]
    · simp [e, Ne.symm e]

/-! ## The cue chain, the tick, the step -/

/-- What firing and skipping the pointer cue keep, considering it keeps (R174). -/
theorem considerChain_keeps {P : State → Prop} (fires : ∀ s, P s → P s.fireCue) (skips : ∀ s, P s → P s.skipCue)
    (fuel : Nat) {s : State} (hs : P s) : P (considerChain fuel s) := by
  induction fuel generalizing s with
  | zero => exact hs
  | succ fuel ih =>
    unfold considerChain
    split
    · split
      · exact hs
      · exact ih (fires s hs)
      · exact ih (skips s hs)
    · exact hs

theorem consider_keeps {P : State → Prop} (fires : ∀ s, P s → P s.fireCue) (skips : ∀ s, P s → P s.skipCue)
    {s : State} (hs : P s) : P s.consider := considerChain_keeps fires skips 257 hs

/-- Every order takes each block once, the stream engine before the intercom engine (R71, R101, R194). -/
theorem tickBlocks_orders (o : TickOrder) :
    (tickBlocks o).Perm [.stream, .intercom, .alarm, .showEngine]
      ∧ (tickBlocks o).idxOf .stream < (tickBlocks o).idxOf .intercom := by cases o <;> decide

/-- A list of blocks' works (R71). -/
theorem foldl_blockTick_keeps {P : State → Prop} {before : State} (blocks : ∀ t b, P t → P (State.blockTick before t b))
    (bs : List TickBlock) {t : State} (ht : P t) : P (bs.foldl (State.blockTick before) t) := by
  induction bs generalizing t with
  | nil => exact ht
  | cons b bs ih => exact ih (blocks t b ht)

/-- What the tick count and every block's work keep, a tick keeps (R71). -/
theorem makeTick_keeps {P : State → Prop} {s : State} {order : TickOrder}
    (blocks : ∀ before t b, P t → P (State.blockTick before t b))
    (hs : P { s with clock := { s.clock with tickCount := (s.clock.tickCount + 1) % 4294967296 } }) :
    P (s.makeTick order) := foldl_blockTick_keeps (blocks _) (tickBlocks order) hs

/-- What a measured step, a tick and the tick phase keep, credited steps keep (R69, R70, R72, R75). -/
theorem creditSteps_keeps {P : State → Prop} {s : State} {n : Nat} {order : Interleave}
    (measures : ∀ t, P t → P t.measureStep) (ticks : ∀ t o, P t → P (t.makeTick o))
    (hs : P { s with clock := s.clock.advancePhase n }) : P (s.creditSteps n order) := by
  have all : ∀ t, P t → P (t.forEach (List.range n) fun _ s => s.measureStep) := fun t ht =>
    forEach_keeps (fun _ _ u hu => measures u hu) ht
  unfold State.creditSteps
  simp only
  split
  · exact all _ hs
  · split
    · exact ticks _ _ (all _ hs)
    · exact all _ (ticks _ _ hs)

/-! ## What ending a stream leaves alone -/

/-- The parts of the state that ending streams never touches (R92): all but the streams, the own queue, the page window, the last
ended stream word, the notices and the event record. -/
structure SameButStreams (s t : State) : Prop where
  tags : t.transit.tags = s.transit.tags
  ownTags : t.transit.ownTags = s.transit.ownTags
  forwarded : t.transit.forwarded = s.transit.forwarded
  anchor : t.transit.anchor = s.transit.anchor
  pins : t.transit.pins = s.transit.pins
  zones : t.zones = s.zones
  clock : t.clock = s.clock
  stations : t.stations = s.stations
  groups : t.groups = s.groups
  alarm : t.alarm = s.alarm
  theatre : t.theatre = s.theatre
  lines : t.lines = s.lines
  errors : t.control.errors = s.control.errors
  mask : t.control.mask = s.control.mask
  inService : t.control.inService = s.control.inService
  freeDraws : t.freeDraws = s.freeDraws
  pending : t.pending = s.pending

theorem SameButStreams.rfl' (s : State) : SameButStreams s s :=
  ⟨rfl, rfl, rfl, rfl, rfl, rfl, rfl, rfl, rfl, rfl, rfl, rfl, rfl, rfl, rfl, rfl, rfl⟩

theorem SameButStreams.trans {s t u : State} (a : SameButStreams s t) (b : SameButStreams t u) : SameButStreams s u :=
  ⟨b.tags.trans a.tags, b.ownTags.trans a.ownTags, b.forwarded.trans a.forwarded, b.anchor.trans a.anchor,
    b.pins.trans a.pins, b.zones.trans a.zones, b.clock.trans a.clock, b.stations.trans a.stations,
    b.groups.trans a.groups, b.alarm.trans a.alarm, b.theatre.trans a.theatre, b.lines.trans a.lines,
    b.errors.trans a.errors, b.mask.trans a.mask, b.inService.trans a.inService, b.freeDraws.trans a.freeDraws,
    b.pending.trans a.pending⟩

/-- Ending a stream (R92). -/
theorem endStream_same (cause : EndCause) (n : Nat) (s : State) : SameButStreams s (s.endStream cause n) := by
  unfold State.endStream State.noteEnded
  dsimp only
  repeat' split
  all_goals exact ⟨rfl, rfl, rfl, rfl, rfl, rfl, rfl, rfl, rfl, rfl, rfl, rfl, rfl, rfl, rfl, rfl, rfl⟩

/-- A loop that ends some of the streams (R102, R104, R105). -/
theorem endMany_same (cause : EndCause) (p : Nat → State → Prop) [∀ n s, Decidable (p n s)] (s : State) :
    SameButStreams s (s.forEach (List.range 8) fun n s => if p n s then s.endStream cause n else s) :=
  forEach_keeps (P := SameButStreams s)
    (fun n _ t ht => by
      split
      · exact ht.trans (endStream_same cause n t)
      · exact ht)
    (SameButStreams.rfl' s)

/-- The alarm's ending of every stream (R102). -/
theorem endAll_same (cause : EndCause) (s : State) : SameButStreams s (s.endAll cause) :=
  forEach_keeps (P := SameButStreams s) (fun n _ t ht => ht.trans (endStream_same cause n t)) (SameButStreams.rfl' s)

/-- The show's ending of its streams (R104). -/
theorem endShowStreams_same (s : State) : SameButStreams s s.endShowStreams :=
  endMany_same .stopped (fun n s => (s.stream n).showOwned = true) s

/-- A HALT (R104, R182). -/
theorem endCueStream_same (s : State) (cue : Nat) : SameButStreams s (s.endCueStream cue) :=
  endMany_same .stopped (fun n s => (s.stream n).owner = .showCue cue) s

/-- RST INTERCOM's ending of the group streams (R105). -/
theorem endGroupStreams_same (s : State) : SameButStreams s s.endGroupStreams :=
  endMany_same .restart (fun n s => (s.stream n).source = .group ∧ (s.stream n).sounding = true) s

/-- One stream after an ending: itself where it was the one and live, else as it was (R92). -/
theorem endStream_stream (cause : EndCause) (n m : Nat) (s : State) (hm : m < 8) :
    (s.endStream cause n).stream m
      = if n = m ∧ (s.stream n).live = true then
          { s.stream n with state := .ending, endCause := cause, drained := false }
        else s.stream m := by
  have key : ∀ t : State, t.streams = (s.setStream n
      { s.stream n with state := .ending, endCause := cause, drained := false }).streams →
      t.stream m = if n = m then { s.stream n with state := .ending, endCause := cause, drained := false } else s.stream m := by
    intro t ht
    have := stream_setStream s n m { s.stream n with state := .ending, endCause := cause, drained := false } hm
    unfold State.stream at this ⊢
    rw [ht]; exact this
  unfold State.endStream
  dsimp only
  cases h : (s.stream n).live with
  | false => simp
  | true =>
    simp only [and_true, if_true]
    unfold State.noteEnded
    repeat' split
    all_goals first | exact (key _ rfl).trans (if_pos ‹_›) | exact (key _ rfl).trans (if_neg ‹_›)

/-! ## Counts and fields -/

/-- A counter stays within its range (R37). -/
theorem bump_le (n : Nat) (h : n ≤ 255) : bump n ≤ 255 := by unfold bump; split <;> omega

theorem field_lt (w : Word) (lo width : Nat) : field w lo width < 2 ^ width := Nat.mod_lt _ (Nat.two_pow_pos _)

/-- A clamped value is a sample (00, Samples). -/
theorem clamp_range (v : Int) : -8388608 ≤ clamp v ∧ clamp v ≤ 8388607 := by
  unfold clamp; split
  · omega
  · split <;> omega

/-- The buffer a new slot takes is one of the record's four, and no slot of the queue has it, while the queue is not full
(R83). -/
theorem chooseBuffer_free (r : StreamRecord) (draw : Nat) (h : r.freeBuffers ≠ []) :
    r.chooseBuffer draw < 4 ∧ ∀ x ∈ r.queue, x.buffer ≠ r.chooseBuffer draw := by
  have hl : Config.bufferChoice draw % r.freeBuffers.length < r.freeBuffers.length :=
    Nat.mod_lt _ (List.length_pos_of_ne_nil h)
  have hm : r.chooseBuffer draw ∈ r.freeBuffers := by
    unfold StreamRecord.chooseBuffer
    rw [List.getD_eq_getElem _ _ hl]
    exact List.getElem_mem _
  unfold StreamRecord.freeBuffers at hm
  rw [List.mem_filter] at hm
  refine ⟨List.mem_range.mp hm.1, fun x hx e => ?_⟩
  have := hm.2
  simp only [Bool.not_eq_true', List.any_eq_false, beq_iff_eq] at this
  exact this x hx e

/-- A queue with fewer than four slots leaves a buffer free (R83). -/
theorem freeBuffers_ne_nil (r : StreamRecord) (h : r.queue.length < 4) : r.freeBuffers ≠ [] := by
  intro he
  have hall : ∀ b ∈ List.range 4, b ∈ r.queue.map fun x => x.buffer := by
    intro b hb
    have : b ∉ r.freeBuffers := by rw [he]; exact List.not_mem_nil
    unfold StreamRecord.freeBuffers at this
    rw [List.mem_filter] at this
    simp only [hb, true_and, Bool.not_eq_true', Bool.not_eq_false, List.any_eq_true, beq_iff_eq] at this
    obtain ⟨x, hx, e⟩ := this
    exact List.mem_map.mpr ⟨x, hx, e⟩
  have := (List.nodup_range (n := 4)).subperm hall |>.length_le
  rw [List.length_range, List.length_map] at this
  omega

end Sys2Proof.Machine
end

