-- ==== Sys2Proof/Laws/Events.lean ====
section
/-! SUPPORT. Everything a command can do to the part, said once: it does nothing, or it runs one of eleven works as one event;
and what every work keeps, a step keeps. -/

namespace Sys2Proof.Laws

open Sys2Proof.Machine

/-- The works of the part: what any event does before the latching that ends it. -/
inductive Work
  | passRead (tag addr count : Nat)
  | passWrite (tag addr : Nat) (words : List WriteWord)
  | arbitrate
  | memoryReturns (tag : Nat) (answer : MemAnswer)
  | fullReset (cause : ResetCause)
  | releaseReset
  | clockEdge (gap : Nat) (order : Interleave)
  | referenceStep (order : Interleave)
  | expireGap (order : Interleave)
  | changePanel (lineA lineB : Bool)
  | showPulse

/-- A work on a state. -/
def Work.act : Work → State → State
  | .passRead tag addr count, s => s.passRead tag addr count
  | .passWrite tag addr words, s => s.passWrite tag addr words
  | .arbitrate, s => s.arbitrate
  | .memoryReturns tag answer, s => s.memoryReturns tag answer
  | .fullReset cause, s => s.fullReset cause
  | .releaseReset, s => s.releaseReset
  | .clockEdge gap order, s => s.clockEdge gap order
  | .referenceStep order, s => s.referenceStep order
  | .expireGap order, s => s.expireGap order
  | .changePanel lineA lineB, s => s.changePanel lineA lineB
  | .showPulse, s => s.showPulse

/-- The event a work is: begun, done, latched once (R193). -/
theorem run_eq (s : State) (work : State → State) : s.run work = (work s.begun).latch := rfl

/-- An event in time is a work of the clock unit. -/
theorem passTime_work (s : State) (e : TimeEvent) : ∃ w : Work, s.passTime e = w.act s := by
  cases e with
  | gapExpiry order => exact ⟨.expireGap order, rfl⟩
  | nextStep gap order =>
    unfold State.passTime
    cases h : s.clock.source with
    | line => exact ⟨.clockEdge gap order, rfl⟩
    | reference => exact ⟨.referenceStep order, rfl⟩

/-- An event at which a record can become FREE is a work. -/
theorem passDrain_work (s : State) (e : DrainEvent) : ∃ w : Work, s.passDrain e = w.act s := by
  cases e with
  | time e => exact passTime_work s e
  | response tag status words => exact ⟨.memoryReturns tag (.data status words), rfl⟩

/-- A row named by what comes about at its event is that event, or nothing. -/
theorem runIf_work (s : State) (due : State → State → Bool) (work : State → State)
    (h : ∃ w : Work, work s.begun = w.act s.begun) :
    s.runIf due work = s ∨ ∃ w : Work, s.runIf due work = s.run w.act := by
  obtain ⟨w, hw⟩ := h
  unfold State.runIf
  split
  · exact .inr ⟨w, by rw [run_eq, run_eq, hw]⟩
  · exact .inl rfl

/-- Everything a command can do: it answers the state itself, or one work run as one event. -/
theorem exec_cases (c : Instr) (s : State) :
    exec c s = .next s ∨ ∃ w : Work, exec c s = .next (s.run w.act) := by
  have lift : ∀ {t : State}, (t = s ∨ ∃ w : Work, t = s.run w.act) →
      ((.next t : Answer) = .next s ∨ ∃ w : Work, (.next t : Answer) = .next (s.run w.act)) := by
    rintro t (rfl | ⟨w, rfl⟩)
    · exact .inl rfl
    · exact .inr ⟨w, rfl⟩
  have time := fun due e => lift (runIf_work s due (fun s => s.passTime e) (passTime_work _ e))
  have drains := fun due e => lift (runIf_work s due (fun s => s.passDrain e) (passDrain_work _ e))
  cases c with
  | readRequest tag addr count => exact .inr ⟨.passRead tag addr count, rfl⟩
  | writeRequest tag addr words => exact .inr ⟨.passWrite tag addr words, rfl⟩
  | arbiterIssue => exact .inr ⟨.arbitrate, rfl⟩
  | dataResponse tag status words => exact .inr ⟨.memoryReturns tag (.data status words), rfl⟩
  | doneResponse tag status => exact .inr ⟨.memoryReturns tag (.done status), rfl⟩
  | ownResponse tag status words => exact .inr ⟨.memoryReturns tag (.data status words), rfl⟩
  | unmatchedResponse tag answer => exact .inr ⟨.memoryReturns tag answer, rfl⟩
  | portDataRead tag status word =>
    have e : exec (.portDataRead tag status word) s = execPortDataRead tag status word s := rfl
    rw [e, execPortDataRead]
    split
    · exact .inr ⟨.memoryReturns tag (.data status [word]), rfl⟩
    · exact .inl rfl
  | fullReset cause => exact .inr ⟨.fullReset cause, rfl⟩
  | resetRelease => exact .inr ⟨.releaseReset, rfl⟩
  | drainResponse tag answer => exact .inr ⟨.memoryReturns tag answer, rfl⟩
  | anchorRecord tag record => exact .inr ⟨.passWrite tag 0x80 ((anchorWords record).map wholeWord), rfl⟩
  | noticeAcknowledge a w => exact .inr ⟨.passWrite a.tag (a.window + 16) [w], rfl⟩
  | portSelectorWrite a w => exact .inr ⟨.passWrite a.tag (a.window + 17) [w], rfl⟩
  | controlWordWrite a k w => exact .inr ⟨.passWrite a.tag (a.window + k) [w], rfl⟩
  | configWrite p index data => exact .inr ⟨.passWrite _ _ (portBurst p.mode .config index (wholeWord data)), rfl⟩
  | zoneMap p zone shape => exact .inr ⟨.passWrite _ _ (portBurst p.mode .zone (8 * zone) _), rfl⟩
  | zoneUnmap p zone shape => exact .inr ⟨.passWrite _ _ (portBurst p.mode .zone (8 * zone) _), rfl⟩
  | zoneFieldWrite p zone word data => exact .inr ⟨.passWrite _ _ (portBurst p.mode .zone (8 * zone + word) _), rfl⟩
  | stationActivate p station n => exact .inr ⟨.passWrite _ _ (portBurst p.mode .station (6 * station) _), rfl⟩
  | stationDeactivate p station n => exact .inr ⟨.passWrite _ _ (portBurst p.mode .station (6 * station) _), rfl⟩
  | stationFieldWrite p station word data =>
    exact .inr ⟨.passWrite _ _ (portBurst p.mode .station (6 * station + word) _), rfl⟩
  | groupDefine p group essential => exact .inr ⟨.passWrite _ _ (portBurst p.mode .group (4 * group) _), rfl⟩
  | groupUndefine p group essential => exact .inr ⟨.passWrite _ _ (portBurst p.mode .group (4 * group) _), rfl⟩
  | groupGainWrite p group word data => exact .inr ⟨.passWrite _ _ (portBurst p.mode .group (4 * group + word) _), rfl⟩
  | cueWrite p cue word data => exact .inr ⟨.passWrite _ _ (portBurst p.mode .cue (4 * cue + word) _), rfl⟩
  | listLengthWrite p data => exact .inr ⟨.passWrite _ _ (portBurst p.mode .cue 1024 _), rfl⟩
  | patternWrite p word data => exact .inr ⟨.passWrite _ _ (portBurst p.mode .pattern word _), rfl⟩
  | readOnlyTableWrite p table index w => exact .inr ⟨.passWrite _ _ (portBurst p.mode table index w), rfl⟩
  | ansClip h priority zones base periods repeats => exact .inr ⟨.passWrite _ _ ((recordWords h _).map wholeWord), rfl⟩
  | ansLive h priority zones => exact .inr ⟨.passWrite _ _ ((recordWords h _).map wholeWord), rfl⟩
  | ansGroup h priority zones group => exact .inr ⟨.passWrite _ _ ((recordWords h _).map wholeWord), rfl⟩
  | anx h index => exact .inr ⟨.passWrite _ _ ((recordWords h _).map wholeWord), rfl⟩
  | pgc h => exact .inr ⟨.passWrite _ _ ((recordWords h _).map wholeWord), rfl⟩
  | ict h station group => exact .inr ⟨.passWrite _ _ ((recordWords h _).map wholeWord), rfl⟩
  | icl h station groups => exact .inr ⟨.passWrite _ _ ((recordWords h _).map wholeWord), rfl⟩
  | als h => exact .inr ⟨.passWrite _ _ ((recordWords h _).map wholeWord), rfl⟩
  | asi h => exact .inr ⟨.passWrite _ _ ((recordWords h _).map wholeWord), rfl⟩
  | aen h => exact .inr ⟨.passWrite _ _ ((recordWords h _).map wholeWord), rfl⟩
  | svr h zones => exact .inr ⟨.passWrite _ _ ((recordWords h _).map wholeWord), rfl⟩
  | shg h => exact .inr ⟨.passWrite _ _ ((recordWords h _).map wholeWord), rfl⟩
  | shh h => exact .inr ⟨.passWrite _ _ ((recordWords h _).map wholeWord), rfl⟩
  | shr h => exact .inr ⟨.passWrite _ _ ((recordWords h _).map wholeWord), rfl⟩
  | shs h => exact .inr ⟨.passWrite _ _ ((recordWords h _).map wholeWord), rfl⟩
  | pin h base length => exact .inr ⟨.passWrite _ _ ((recordWords h _).map wholeWord), rfl⟩
  | unp h entry => exact .inr ⟨.passWrite _ _ ((recordWords h _).map wholeWord), rfl⟩
  | rstAll h => exact .inr ⟨.passWrite _ _ ((recordWords h _).map wholeWord), rfl⟩
  | rstIntercom h => exact .inr ⟨.passWrite _ _ ((recordWords h _).map wholeWord), rfl⟩
  | rstShow h => exact .inr ⟨.passWrite _ _ ((recordWords h _).map wholeWord), rfl⟩
  | cnc h zones stations page => exact .inr ⟨.passWrite _ _ ((recordWords h _).map wholeWord), rfl⟩
  | busyEnd engine event => exact drains (leftBusy engine) event
  | streamFree record event => exact drains (leftEnding record) event
  | sampleClockEdge gap order => exact .inr ⟨.clockEdge gap order, rfl⟩
  | gapExpiry order => exact .inr ⟨.expireGap order, rfl⟩
  | internalStep order => exact .inr ⟨.referenceStep order, rfl⟩
  | tick event => exact time tickMade event
  | clipComplete record event => exact time (sourceEnded record .clip .complete) event
  | pageTimeout record event => exact time (sourceEnded record .live .pageTimeout) event
  | segmentAdvance event => exact time segmentEnds event
  | zoneSilent zone event => exact time (becameSilent zone) event
  | panelLineChange lineA lineB => exact .inr ⟨.changePanel lineA lineB, rfl⟩
  | lineStateSeen event => exact time lineSeen event
  | attentionWindowExpiry event => exact time windowExpired event
  | showMark => exact .inr ⟨.showPulse, rfl⟩
  | lockExpiry event => exact time lockExpired event
  | holdoverWindowClose event => exact time windowClosedAt event
  | followExpiry event => exact time followExpired event
  | levelRampEnd zone event => exact time (rampEnded zone) event

/-- What a step can come to: nothing on an empty queue; else the rest of the queue on the state, or one work run on it. -/
theorem step_cases {s t : State} (h : step s = .next t) :
    (s.pending = [] ∧ t = s) ∨ ∃ c rest, s.pending = c :: rest
      ∧ (t = { s with pending := rest } ∨ ∃ w : Work, t = State.run { s with pending := rest } w.act) := by
  unfold step at h
  split at h
  · next e => cases h; exact .inl ⟨e, rfl⟩
  · next c rest e =>
    refine .inr ⟨c, rest, e, ?_⟩
    rcases exec_cases c { s with pending := rest } with hc | ⟨w, hc⟩
    · rw [hc] at h; cases h; exact .inl rfl
    · rw [hc] at h; cases h; exact .inr ⟨w, rfl⟩

/-- A law that neither the queue, the event record nor the latching can touch, and that every work keeps, every step keeps. -/
theorem step_keeps {P : State → Prop} (queue : ∀ s rest, P s → P { s with pending := rest })
    (begins : ∀ s, P s → P s.begun) (latches : ∀ s, P s → P s.latch) (works : ∀ (w : Work) s, P s → P (w.act s))
    {s t : State} (hs : P s) (h : step s = .next t) : P t := by
  rcases step_cases h with ⟨_, rfl⟩ | ⟨c, rest, _, rfl | ⟨w, rfl⟩⟩
  · exact hs
  · exact queue s rest hs
  · exact latches _ (works w _ (begins _ (queue s rest hs)))

end Sys2Proof.Laws
end

