-- ==== Sys2Proof/Laws/Fields.lean ====
section
/-! SUPPORT. A word put together from fields, as a number: what the reading of a field is computed from. -/

namespace Sys2Proof.Machine

/-- The number of a packed word. -/
theorem toNat_pack (fs : List FieldValue) : (pack fs).toNat = (fs.map FieldValue.weight).sum % 4294967296 := by
  unfold pack; rw [BitVec.toNat_ofNat]

/-- One field's part of it. -/
theorem sum_field_cons (v lo width : Nat) (fs : List FieldValue) :
    ((⟨v, lo, width⟩ :: fs).map FieldValue.weight).sum = v % 2 ^ width * 2 ^ lo + (fs.map FieldValue.weight).sum := by
  rw [List.map_cons, List.sum_cons, FieldValue.weight]

theorem sum_field_nil : (([] : List FieldValue).map FieldValue.weight).sum = 0 := by rw [List.map_nil, List.sum_nil]

/-- A run of flags from bit `lo` up is the number of the set of them, in place. -/
theorem sum_flags (count lo : Nat) (p : Nat → Bool) :
    (((List.range count).map fun i => (⟨bit (p i), lo + i, 1⟩ : FieldValue)).map FieldValue.weight).sum
      = 2 ^ lo * ((List.range count).map fun i => if p i then 2 ^ i else 0).sum := by
  induction count with
  | zero => rfl
  | succ n ih =>
    rw [List.range_succ, List.map_append, List.map_append, List.sum_append, ih, List.map_append, List.sum_append, Nat.mul_add]
    cases h : p n <;> simp [FieldValue.weight, bit, h, Nat.pow_add]

/-- A set of flags stays below the bit above it. -/
theorem sum_flags_lt (count : Nat) (p : Nat → Bool) :
    ((List.range count).map fun i => if p i then 2 ^ i else 0).sum < 2 ^ count := by
  induction count with
  | zero => exact Nat.one_pos
  | succ n ih =>
    rw [List.range_succ, List.map_append, List.sum_append, Nat.pow_succ]
    cases h : p n <;> simp [h] <;> omega

/-- A word of 32 flags. -/
theorem toNat_flagsWord (p : Nat → Bool) :
    (flagsWord p).toNat = ((List.range 32).map fun i => if p i then 2 ^ i else 0).sum := by
  have h := sum_flags 32 0 p
  rw [Nat.pow_zero, Nat.one_mul] at h
  have h' : (List.range 32).map (fun i => (⟨bit (p i), 0 + i, 1⟩ : FieldValue))
      = (List.range 32).map fun i => ⟨bit (p i), i, 1⟩ := by simp only [Nat.zero_add]
  rw [h'] at h
  rw [flagsWord, toNat_pack, h]
  exact Nat.mod_eq_of_lt (sum_flags_lt 32 p)

theorem bit_le_one (b : Bool) : bit b ≤ 1 := by cases b <;> decide

/-- A flag is its one-bit field. -/
theorem flag_eq_field (w : Word) (i : Nat) : flag w i = decide (field w i 1 = 1) := by
  unfold flag field
  rw [BitVec.getLsbD, Nat.testBit_eq_decide_div_mod_eq]
  simp

end Sys2Proof.Machine
end

