-- ==== Sys2Proof/Laws/OwnQueue.lean ====
section
/-! SUPPORT. The own queue (R19): what a request joining it, and the withdrawal of a stream's requests, leave of its order. -/

namespace Sys2Proof.Machine

/-- What is in the queue after a request has joined it. -/
theorem mem_insertOwn (q : List OwnRequest) (r x : OwnRequest) : x ∈ insertOwn q r ↔ x = r ∨ x ∈ q := by
  induction q with
  | nil => simp [insertOwn]
  | cons y q ih =>
    unfold insertOwn
    split
    · rw [List.mem_cons, ih, List.mem_cons]; tauto
    · simp only [List.mem_cons]

/-- The queue stays in the order of the stream indices. -/
theorem insertOwn_ordered (q : List OwnRequest) (r : OwnRequest) (h : q.Pairwise fun a b => a.stream ≤ b.stream) :
    (insertOwn q r).Pairwise fun a b => a.stream ≤ b.stream := by
  induction q with
  | nil => simp [insertOwn]
  | cons y q ih =>
    obtain ⟨hy, hq⟩ := List.pairwise_cons.1 h
    unfold insertOwn
    split
    next hle =>
      refine List.pairwise_cons.2 ⟨fun x hx => ?_, ih hq⟩
      rcases (mem_insertOwn q r x).1 hx with rfl | hx
      · exact hle
      · exact hy x hx
    next hlt =>
      refine List.pairwise_cons.2 ⟨fun x hx => ?_, h⟩
      rcases List.mem_cons.1 hx with rfl | hx
      · omega
      · exact Nat.le_trans (by omega) (hy x hx)

/-- A request goes behind the ones of its own stream. -/
theorem insertOwn_filter_same (q : List OwnRequest) (r : OwnRequest) (h : q.Pairwise fun a b => a.stream ≤ b.stream) :
    (insertOwn q r).filter (fun x => x.stream == r.stream) = q.filter (fun x => x.stream == r.stream) ++ [r] := by
  induction q with
  | nil => simp [insertOwn]
  | cons y q ih =>
    obtain ⟨hy, hq⟩ := List.pairwise_cons.1 h
    unfold insertOwn
    split
    · rw [List.filter_cons, List.filter_cons, ih hq]; split <;> rfl
    next hlt =>
      have none_left : (y :: q).filter (fun x => x.stream == r.stream) = [] := by
        refine List.filter_eq_nil_iff.2 fun x hx => ?_
        have : r.stream < x.stream := by
          rcases List.mem_cons.1 hx with rfl | hx
          · omega
          · exact Nat.lt_of_lt_of_le (by omega) (hy x hx)
        simp; omega
      rw [List.filter_cons, none_left]; simp

/-- The requests of the other streams keep their places. -/
theorem insertOwn_filter_other (q : List OwnRequest) (r : OwnRequest) (n : Nat) (h : r.stream ≠ n) :
    (insertOwn q r).filter (fun x => x.stream == n) = q.filter (fun x => x.stream == n) := by
  induction q with
  | nil => simp [insertOwn, h]
  | cons y q ih =>
    unfold insertOwn
    split
    · rw [List.filter_cons, List.filter_cons, ih]
    · rw [List.filter_cons]; simp [h]

end Sys2Proof.Machine
end

