-- ==== Sys2Proof/Laws/Ports.lean ====
section
/-! SUPPORT. Requests and responses at the two ports, case by case: what passing a request, a response or an issue comes to. -/

namespace Sys2Proof.Machine

/-! ## Requests (R2, R5, R7, R15, R20) -/

theorem passRead_closed {s : State} (tag addr count : Nat) (h : s.portOpen = false) : s.passRead tag addr count = s := by
  simp [State.passRead, h]

theorem passRead_tagFault {s : State} (tag addr count : Nat) (h : s.portOpen = true) (ht : s.transit.tagFree tag = false) :
    s.passRead tag addr count = s.answer (.data tag .tagFaultStatus []) := by simp [State.passRead, h, ht]

theorem passRead_queued {s : State} (tag addr count : Nat) (h : s.accepts tag = true) :
    s.passRead tag addr count
      = s.queued tag { isWrite := false, addr := addr, count := count } (.read tag addr count) := by
  rw [State.accepts, Bool.and_eq_true] at h
  simp [State.passRead, h.1, h.2, State.queued]

theorem passWrite_closed {s : State} (tag addr : Nat) (words : List WriteWord) (h : s.portOpen = false) :
    s.passWrite tag addr words = s := by simp [State.passWrite, h]

theorem passWrite_tagFault {s : State} (tag addr : Nat) (words : List WriteWord) (h : s.portOpen = true)
    (ht : s.transit.tagFree tag = false) : s.passWrite tag addr words = s.answer (.done tag .tagFaultStatus) := by
  simp [State.passWrite, h, ht]

theorem passWrite_protected {s : State} (tag addr : Nat) (words : List WriteWord) (h : s.accepts tag = true)
    (hp : (s.burstRegions addr words.length).any Region.isPinned = true) :
    s.passWrite tag addr words = s.answer (.done tag .protectedStatus) := by
  rw [State.accepts, Bool.and_eq_true] at h
  simp [State.passWrite, h.1, h.2, hp]

theorem passWrite_queued {s : State} (tag addr : Nat) (words : List WriteWord) (h : s.accepts tag = true)
    (hp : (s.burstRegions addr words.length).any Region.isPinned = false) :
    s.passWrite tag addr words = (s.offerBurst addr words).queued tag
      { isWrite := true, addr := addr, count := words.length } (.write tag addr words) := by
  rw [State.accepts, Bool.and_eq_true] at h
  simp [State.passWrite, h.1, h.2, hp, State.queued]

/-! ## Responses (R3, R18, R20) -/

theorem memoryReturns_closed {s : State} (tag : Nat) (a : MemAnswer) (h : s.portOpen = false) :
    s.memoryReturns tag a = { s with transit := { s.transit with drain := s.transit.drain - 1 } } := by
  simp [State.memoryReturns, h]

theorem memoryReturns_own {s : State} {tag : Nat} {r : OwnRequest} (a : MemAnswer) (h : s.portOpen = true)
    (ho : s.transit.ownEntry tag = some r) : s.memoryReturns tag a = s.ownAnswer tag r a := by
  simp [State.memoryReturns, h, ho]

theorem memoryReturns_host {s : State} {tag : Nat} {e : TagEntry} (a : MemAnswer) (h : s.portOpen = true)
    (ho : s.transit.ownEntry tag = none) (he : s.transit.hostEntry tag = some e) :
    s.memoryReturns tag a = s.hostResponse tag e a := by simp [State.memoryReturns, h, ho, he]

theorem memoryReturns_unmatched {s : State} {tag : Nat} (a : MemAnswer) (h : s.portOpen = true)
    (ho : s.transit.ownEntry tag = none) (he : s.transit.hostEntry tag = none) : s.memoryReturns tag a = s := by
  simp [State.memoryReturns, h, ho, he]

/-- A host tag has no entry in the own-tag table. -/
theorem ownEntry_host (t : TransitUnit) {tag : Nat} (h : tag ≤ 31) : t.ownEntry tag = none := by
  unfold TransitUnit.ownEntry
  rw [if_neg (by omega)]

theorem hostEntry_host (t : TransitUnit) {tag : Nat} (h : tag ≤ 31) : t.hostEntry tag = t.tags.get tag := if_pos h

theorem ownEntry_own (t : TransitUnit) {k : Nat} (h : k < 32) : t.ownEntry (32 + k) = t.ownTags.get k := by
  unfold TransitUnit.ownEntry
  rw [if_pos (by omega)]
  simp

/-! ## Issuing (R18, R19) -/

/-- The lowest-numbered free own tag is free, and every one below it is taken (R18). -/
theorem freeOwnTag_some {t : TransitUnit} {k : Nat} (h : t.freeOwnTag = some k) :
    k < 32 ∧ t.ownTags.get k = none ∧ ∀ j < k, (t.ownTags.get j).isSome = true := by
  unfold TransitUnit.freeOwnTag at h
  rw [List.find?_range_eq_some] at h
  obtain ⟨hp, hm, hlow⟩ := h
  refine ⟨List.mem_range.mp hm, by simpa using hp, fun j hj => ?_⟩
  have := hlow j hj
  simpa [Option.ne_none_iff_isSome] using this

/-- The M-port takes the head of the forwarded queue, the head of the own queue, or nothing (R19). -/
theorem arbitrate_cases (s : State) :
    (s.transit.forwarded = [] ∧ s.transit.ownQueue = [] ∧ s.arbitrate = s)
      ∨ (∃ f rest, s.transit.forwarded = f :: rest ∧ s.arbitrate = s.issueForwarded f)
      ∨ ∃ o rest, s.transit.ownQueue = o :: rest ∧ s.arbitrate = s.issueOwn o := by
  unfold State.arbitrate
  split
  · next hf ho => exact .inl ⟨hf, ho, rfl⟩
  · next f rest hf ho => exact .inr (.inl ⟨f, rest, hf, rfl⟩)
  · next o rest hf ho => exact .inr (.inr ⟨o, rest, ho, rfl⟩)
  · next f rest _ _ hf ho ht => exact .inr (.inl ⟨f, rest, hf, rfl⟩)
  · next _ _ o rest hf ho ht => exact .inr (.inr ⟨o, rest, ho, rfl⟩)

end Sys2Proof.Machine
end

