-- ==== Sys2Proof/Laws/Window.lean ====
section
/-! SUPPORT. What a WRITE into the control window does: one lemma for one word, one for a table write, one for a whole command
record. -/

namespace Sys2Proof.Machine

/-! ## Classification -/

theorem windowAt_anchor {s : State} {window : Nat} (h : s.windowAt window = true) :
    ∃ a, s.transit.anchor = some a ∧ a.window = window ∧ 0x88 ≤ window := by
  unfold State.windowAt at h
  split at h
  · cases h
  · next a ha =>
    simp only [Bool.and_eq_true, beq_iff_eq, decide_eq_true_eq] at h
    exact ⟨a, ha, h.1, h.2⟩

/-- Control window word `k` is classified as such (R4). -/
theorem classify_window {s : State} {window k : Nat} (h : s.windowAt window = true) (hk : k < 1024) :
    s.classify (window + k) = .window k := by
  obtain ⟨a, ha, rfl, hw⟩ := windowAt_anchor h
  have h1 : Machine.anchorBlock.holds (a.window + k) = false := by
    unfold Span.holds Machine.anchorBlock
    simp only [Bool.and_eq_false_iff, decide_eq_false_iff_not]
    omega
  have h2 : a.windowSpan.holds (a.window + k) = true := by
    unfold Span.holds Anchor.windowSpan
    simp only [Bool.and_eq_true, decide_eq_true_eq]
    omega
  unfold State.classify State.classifyAnchor
  simp [h1, h2, ha]

/-- The regions of a burst inside the control window. -/
theorem burstRegions_window {s : State} {window k n : Nat} (h : s.windowAt window = true) (hk : k + n ≤ 1024) :
    s.burstRegions (window + k) n = (List.range n).map fun j => Region.window (k + j) := by
  unfold State.burstRegions
  refine List.map_congr_left fun j hj => ?_
  have := List.mem_range.mp hj
  rw [Nat.add_assoc]
  exact classify_window h (by omega)

/-- Offering a burst inside the control window is writing its words in turn (R5, R22). -/
theorem offerBurst_window {s : State} {window k : Nat} {ws : List WriteWord} (h : s.windowAt window = true)
    (hk : k + ws.length ≤ 1024) (d : WriteWord) :
    s.offerBurst (window + k) ws
      = (List.range ws.length).foldl (fun t j => t.writeWindow (k + j) (ws.getD j d)) s := by
  obtain ⟨a, ha, -, -⟩ := windowAt_anchor h
  have he : examined s.transit.anchor (window + k) ws = false := by simp [examined, ha]
  have hz : (s.burstRegions (window + k) ws.length).zip ws
      = (List.range ws.length).map fun j => (Region.window (k + j), ws.getD j d) := by
    rw [burstRegions_window h hk]
    refine List.ext_getElem (by simp) ?_
    intro i h1 h2
    simp only [List.length_map, List.length_range] at h2
    simp [List.getD_eq_getElem?_getD, List.getElem?_eq_getElem h2]
  simp only [State.offerBurst, he, hz, List.foldl_map, Bool.false_eq_true, if_false]
  rfl

/-- A WRITE the part hears, wholly inside the control window, is offered and queued (R5). -/
theorem passWrite_window {s : State} {a : HostAccess} {k : Nat} {ws : List WriteWord} (h : s.hears a = true)
    (hk : k + ws.length ≤ 1024) (d : WriteWord) :
    s.passWrite a.tag (a.window + k) ws
      = ((List.range ws.length).foldl (fun t j => t.writeWindow (k + j) (ws.getD j d)) s).queued a.tag
          { isWrite := true, addr := a.window + k, count := ws.length } (.write a.tag (a.window + k) ws) := by
  simp only [State.hears, State.accepts, Bool.and_eq_true] at h
  obtain ⟨⟨ho, ht⟩, hw⟩ := h
  have hp : (s.burstRegions (a.window + k) ws.length).any Region.isPinned = false := by
    rw [burstRegions_window hw hk]
    simp [Region.isPinned]
  unfold State.passWrite
  simp only [ho, ht, hp, Bool.not_true, Bool.false_eq_true, if_false]
  rw [offerBurst_window hw hk d]
  rfl

/-- One control window word (R22). -/
theorem writeControl_hears {s : State} {a : HostAccess} {k : Nat} (w : WriteWord) (h : s.hears a = true) (hk : k < 1024) :
    s.writeControl a k w
      = (s.writeWindow k w).queued a.tag { isWrite := true, addr := a.window + k, count := 1 }
          (.write a.tag (a.window + k) [w]) := by
  have := passWrite_window (ws := [w]) h (by simpa using hk) w
  simpa [State.writeControl] using this

/-! ## Table writes -/

/-- A selector word is read back as the selector it was made of (11.5). -/
theorem selectorOf_selectorWord (sel : Selector) (h : sel.index ≤ lastIndex sel.table) :
    selectorOf (selectorWord sel) = some sel := by
  obtain ⟨table, index, mode⟩ := sel
  have hi : index < 2048 := by revert h; cases table <;> simp only [lastIndex] <;> omega
  have f : ∀ t m : Nat, t < 16 → m < 4 →
      field (pack [⟨t, 0, 4⟩, ⟨index, 8, 11⟩, ⟨m, 24, 2⟩]) 0 4 = t ∧
      field (pack [⟨t, 0, 4⟩, ⟨index, 8, 11⟩, ⟨m, 24, 2⟩]) 8 11 = index ∧
      field (pack [⟨t, 0, 4⟩, ⟨index, 8, 11⟩, ⟨m, 24, 2⟩]) 24 2 = m := by
    intro t m ht hm
    unfold field
    rw [toNat_pack]
    simp only [sum_field_cons, sum_field_nil]
    refine ⟨?_, ?_, ?_⟩ <;> omega
  obtain ⟨f1, f2, f3⟩ := f (portTableNumber table) (incModeNumber mode) (by cases table <;> decide)
    (by cases mode <;> decide)
  have g1 : portTableOf (portTableNumber table) = some table := by cases table <;> rfl
  have g2 : incModeOf (incModeNumber mode) = some mode := by cases mode <;> rfl
  have e : ∀ w : Word, field w 0 4 = portTableNumber table → field w 8 11 = index → field w 24 2 = incModeNumber mode →
      selectorOf w = some { table := table, index := index, mode := mode } := by
    intro w h1 h2 h3
    unfold selectorOf
    rw [h1, h2, h3, g1, g2]
    exact if_pos h
  exact e _ f1 f2 f3

/-- A write of the port selector in a table write's burst (R33). -/
theorem select_selectorWord (c : ControlUnit) (sel : Selector) (h : sel.index ≤ lastIndex sel.table) :
    c.select (wholeWord (selectorWord sel)) = { c with selector := sel } := by
  have e : ∀ w : WriteWord, selectorOf w.data = some sel → w.lanes = 15#4 → c.select w = { c with selector := sel } := by
    intro w h1 h2
    unfold ControlUnit.select
    rw [h1]
    exact if_pos h2
  exact e _ (selectorOf_selectorWord sel h) rfl

/-- A table write the part hears: the selector is set, the word is offered to the table's owner, a refusal adds
PORT_REFUSED, the index advances, the burst is queued (R33 to R36). -/
theorem writeTableLanes_hears {s : State} {p : PortAccess} {table : PortTable} {index : Nat} (w : WriteWord)
    (h : s.hears p.host = true) (hi : index ≤ lastIndex table) :
    (s.begun.writeTableLanes p table index w).latch
      = State.afterPort (((s.atPort p table index).offerTable w).getD ((s.atPort p table index).addError .portRefused))
          p table index w := by
  have hb : s.begun.hears p.host = true := h
  have := passWrite_window (k := 17) (ws := portBurst p.mode table index w) hb (by simp [portBurst]) w
  unfold State.writeTableLanes
  rw [this]
  simp only [portBurst, List.length_cons, List.length_nil, List.range_succ, List.range_zero, List.nil_append,
    List.foldl_append, List.foldl_cons, List.foldl_nil, List.getD_cons_zero, List.getD_cons_succ, Nat.zero_add,
    Nat.add_zero]
  have h17 : s.begun.writeWindow 17 (wholeWord (selectorWord { table := table, index := index, mode := p.mode }))
      = s.atPort p table index := by
    have hsel := select_selectorWord s.begun.control { table := table, index := index, mode := p.mode } hi
    simp only [State.writeWindow, hsel]
    rfl
  have h18 : ∀ t : State, t.writeWindow 18 w = t.writePort w := fun t => rfl
  rw [h17, show 17 + 1 = 18 from rfl, h18]
  rfl

/-! ## Command records -/

/-- A whole word replaces what was captured (R25). -/
theorem mergeWord_whole (old data : Word) : mergeWord old (wholeWord data) = data := by
  have h : laneMask 15#4 = BitVec.allOnes 32 := by decide
  unfold mergeWord wholeWord
  simp only [h, BitVec.and_allOnes, BitVec.not_allOnes, BitVec.and_zero, BitVec.or_zero]

/-- The slot with the first `j` words of a record captured. -/
def State.slotLoaded (s : State) (ws : List Word) (j : Nat) : State :=
  { s with control := { s.control with
      captured := Bank.ofFn 16 fun k => if k < j then ws.getD k 0#32 else s.control.captured.get k,
      freshHeader := s.control.freshHeader || decide (0 < j) } }

theorem slotLoaded_header {s : State} {ws : List Word} {j : Nat} (h : 0 < j) :
    (s.slotLoaded ws j).control.header = ws.getD 0 0#32 := by
  unfold State.slotLoaded ControlUnit.header
  simp [h]

/-- Capturing the next word of a record (R25). -/
theorem capture_slotLoaded (s : State) (ws : List Word) (j : Nat) (hj : j < 16) :
    { s.slotLoaded ws j with
        control := (s.slotLoaded ws j).control.capture j (wholeWord (ws.getD j 0#32)) } = s.slotLoaded ws (j + 1) := by
  have hc : (s.slotLoaded ws j).control.capture j (wholeWord (ws.getD j 0#32)) = (s.slotLoaded ws (j + 1)).control := by
    unfold ControlUnit.capture
    rw [mergeWord_whole]
    unfold State.slotLoaded
    simp only [ControlUnit.mk.injEq, and_true]
    refine ⟨Bank.ext_get fun k hk => ?_, ?_⟩
    · rw [Bank.get_set _ _ _ _ hk, Bank.get_ofFn _ _ hk, Bank.get_ofFn _ _ hk]
      by_cases e : j = k
      · subst e; simp
      · rw [if_neg e]
        by_cases l : k < j
        · rw [if_pos l, if_pos (by omega)]
        · rw [if_neg l, if_neg (by omega)]
    · have : ((wholeWord (ws.getD j 0#32)).lanes != 0#4) = true := by simp [wholeWord]
      rw [this]
      cases j <;> simp
  rw [hc]
  rfl

/-- Writing a slot word before the trailer captures it and takes nothing (R26). -/
theorem writeWindow_slotLoaded {s : State} {ws : List Word} {L j : Nat} (hL : L ≤ 14)
    (hh : payloadLengthOf (ws.getD 0 0#32) = L) (hj : j ≤ L) :
    (s.slotLoaded ws j).writeWindow (32 + j) (wholeWord (ws.getD j 0#32)) = s.slotLoaded ws (j + 1) := by
  have h1 : (s.slotLoaded ws j).writeWindow (32 + j) (wholeWord (ws.getD j 0#32))
      = (s.slotLoaded ws j).writeSlot j (wholeWord (ws.getD j 0#32)) := by
    unfold State.writeWindow
    rw [if_neg (by omega), if_neg (by omega), if_neg (by omega), if_pos (by omega)]
    congr 1
    omega
  rw [h1]
  unfold State.writeSlot
  rw [capture_slotLoaded s ws j (by omega)]
  have h2 : (s.slotLoaded ws (j + 1)).control.trailerPosition = L + 1 := by
    unfold ControlUnit.trailerPosition
    rw [slotLoaded_header (Nat.succ_pos j), hh, if_pos hL]
  simp only [h2]
  exact if_neg (by omega)

/-- The words of a record before its trailer. -/
theorem foldl_slotLoaded {s : State} {ws : List Word} {L : Nat} (hL : L ≤ 14)
    (hh : payloadLengthOf (ws.getD 0 0#32) = L) (j : Nat) (hj : j ≤ L + 1) :
    (List.range j).foldl (fun t i => t.writeWindow (32 + i) (wholeWord (ws.getD i 0#32))) s = s.slotLoaded ws j := by
  induction j with
  | zero =>
    have : (s.slotLoaded ws 0) = s := by
      unfold State.slotLoaded
      have e : (Bank.ofFn 16 fun k => if k < 0 then ws.getD k 0#32 else s.control.captured.get k)
          = s.control.captured := Bank.ext_get fun k hk => by rw [Bank.get_ofFn _ _ hk]; simp
      rw [e]
      simp
    rw [this]
    rfl
  | succ j ih =>
    rw [List.range_succ, List.foldl_append, ih (by omega)]
    exact writeWindow_slotLoaded hL hh (by omega)

/-- The trailer is captured and the take happens, on the whole record (R26). -/
theorem writeWindow_trailer {s : State} {ws : List Word} {L : Nat} (hL : L ≤ 14) (hlen : ws.length = L + 2)
    (hh : payloadLengthOf (ws.getD 0 0#32) = L) :
    (s.slotLoaded ws (L + 1)).writeWindow (32 + (L + 1)) (wholeWord (ws.getD (L + 1) 0#32))
      = (let j := (s.slotHolding ws).judgeTake true
         { j.after with control := j.after.control.report (ws.getD 0 0#32) j.result j.error }) := by
  have h1 : (s.slotLoaded ws (L + 1)).writeWindow (32 + (L + 1)) (wholeWord (ws.getD (L + 1) 0#32))
      = (s.slotLoaded ws (L + 1)).writeSlot (L + 1) (wholeWord (ws.getD (L + 1) 0#32)) := by
    unfold State.writeWindow
    rw [if_neg (by omega), if_neg (by omega), if_neg (by omega), if_pos (by omega)]
    congr 1
    omega
  rw [h1]
  unfold State.writeSlot
  rw [capture_slotLoaded s ws (L + 1) (by omega)]
  have h2 : (s.slotLoaded ws (L + 1 + 1)).control.trailerPosition = L + 1 := by
    unfold ControlUnit.trailerPosition
    rw [slotLoaded_header (Nat.succ_pos _), hh, if_pos hL]
  simp only [h2, if_true]
  have h3 : { s.slotLoaded ws (L + 1 + 1) with
      control := { (s.slotLoaded ws (L + 1 + 1)).control with freshHeader := false } } = s.slotHolding ws := by
    unfold State.slotLoaded State.slotHolding
    rw [hlen]
  have h4 : (s.slotLoaded ws (L + 1 + 1)).control.freshHeader = true := by simp [State.slotLoaded]
  unfold State.take
  simp only [h3, h4, slotLoaded_header (Nat.succ_pos (L + 1))]

/-- A record the part hears is captured whole and taken once (R25, R26). -/
theorem writeRecord_hears {s : State} {h : CommandHead} {c : Command} (hs : s.hears h.host = true)
    (hlen : c.payload.length ≤ 14)
    (hh : payloadLengthOf (headerWord c.code h.sequence h.answer c.payload.length) = c.payload.length) :
    (s.begun.writeRecord h c).latch
      = (let j := (s.atTake h c).judgeTake true
         State.afterTake j.after h c j.result j.error) := by
  have hb : s.begun.hears h.host = true := hs
  have hl : (recordWords h c).length = c.payload.length + 2 := by simp [recordWords, withCrc]
  have h0 : (recordWords h c).getD 0 0#32 = headerWord c.code h.sequence h.answer c.payload.length := by
    simp [recordWords, withCrc]
  have hw := passWrite_window (k := 32) (ws := (recordWords h c).map wholeWord) hb
    (by rw [List.length_map, hl]; omega) (wholeWord 0#32)
  have hg : ∀ i, ((recordWords h c).map wholeWord).getD i (wholeWord 0#32) = wholeWord ((recordWords h c).getD i 0#32) := by
    intro i
    rw [List.getD_eq_getElem?_getD, List.getD_eq_getElem?_getD, List.getElem?_map]
    cases (recordWords h c)[i]? <;> rfl
  unfold State.writeRecord
  rw [hw]
  simp only [hg, List.length_map, hl]
  rw [List.range_succ, List.foldl_append, foldl_slotLoaded hlen (by rw [h0, hh]) _ (Nat.le_refl _)]
  rw [List.foldl_cons, List.foldl_nil, writeWindow_trailer hlen hl (by rw [h0, hh])]
  simp only [h0, State.afterTake, List.length_map, hl]
  rfl

/-- The length field of a header written for a payload is read back (11.3). -/
theorem payloadLengthOf_headerWord {code sequence n : Nat} {answer : Bool} (hn : n ≤ 31) :
    payloadLengthOf (headerWord code sequence answer n) = n := by
  have hb := bit_le_one answer
  unfold payloadLengthOf headerWord field
  rw [toNat_pack]
  simp only [sum_field_cons, sum_field_nil]
  omega

/-- The captured words of a record, as the take reads them. -/
theorem atTake_captured {s : State} {h : CommandHead} {c : Command} {k : Nat} (hk : k < (recordWords h c).length)
    (h16 : k < 16) : (s.atTake h c).control.captured.get k = (recordWords h c).getD k 0#32 := by
  unfold State.atTake State.slotHolding
  simp [Bank.get_ofFn _ _ h16, hk]

/-- A record's trailer passes the CRC check (R27 check 3). -/
theorem crcGood_atTake {s : State} {h : CommandHead} {c : Command} (hlen : c.payload.length ≤ 14) :
    (s.atTake h c).control.crcGood c.payload.length = true := by
  have hl : (recordWords h c).length = c.payload.length + 2 := by simp [recordWords, withCrc]
  have ht : (s.atTake h c).control.captured.cells.take (c.payload.length + 1)
      = headerWord c.code h.sequence h.answer c.payload.length :: c.payload := by
    refine List.ext_getElem ?_ ?_
    · rw [List.length_take, Bank.size]; simp; omega
    · intro i h1 h2
      simp only [List.length_cons] at h2
      have := atTake_captured (s := s) (h := h) (c := c) (k := i) (by omega) (by omega)
      rw [Bank.get_eq_getElem _ _ (by omega)] at this
      rw [List.getElem_take, this, List.getD_eq_getElem?_getD, List.getElem?_eq_getElem (by omega), Option.getD_some]
      simp only [recordWords, withCrc]
      rw [List.getElem_append_left]
  have hc : (s.atTake h c).control.captured.get (c.payload.length + 1)
      = (crc16 (headerWord c.code h.sequence h.answer c.payload.length :: c.payload)).setWidth 32 := by
    rw [atTake_captured (by omega) (by omega), List.getD_eq_getElem?_getD,
      List.getElem?_eq_getElem (by omega), Option.getD_some]
    simp [recordWords, withCrc]
  unfold ControlUnit.crcGood
  rw [ht, hc]
  have hm := (crc16 (headerWord c.code h.sequence h.answer c.payload.length :: c.payload)).isLt
  simp only [field, BitVec.toNat_setWidth, beq_iff_eq]
  omega

/-- The code field of a record's header is read back. -/
theorem code_headerWord {code sequence n : Nat} {answer : Bool} (hc : code < 32) :
    field (headerWord code sequence answer n) 0 5 = code := by
  have hb := bit_le_one answer
  unfold headerWord field
  rw [toNat_pack]
  simp only [sum_field_cons, sum_field_nil]
  omega

/-- What the checks of a take come to for a record whose words are read back as its command (R27): BUSY, or the command's own
rule. -/
theorem judgeTake_record {s : State} {h : CommandHead} {c : Command} (hn : c.payloadLength = some c.payload.length)
    (hlen : c.payload.length ≤ 14) (hp : parseCommand c.code (s.atTake h c).control.captured.get = some c) :
    (s.atTake h c).judgeTake true
      = if (s.atTake h c).control.busyFor c then { result := .busy, error := some .busy, after := s.atTake h c }
        else match (s.atTake h c).ownRule c with
          | .ok (value, t) => { result := .accepted value, error := none, after := t }
          | .error reason => { result := .refused reason, error := some .refused, after := s.atTake h c } := by
  have hl : (recordWords h c).length = c.payload.length + 2 := by simp [recordWords, withCrc]
  have hd : (s.atTake h c).control.header = headerWord c.code h.sequence h.answer c.payload.length := by
    unfold ControlUnit.header
    rw [atTake_captured (by omega) (by omega)]
    simp [recordWords, withCrc]
  have hcode : c.code < 32 := by cases c <;> simp only [Command.code] <;> decide
  unfold State.judgeTake
  simp only [hd, payloadLengthOf_headerWord (show c.payload.length ≤ 31 by omega), code_headerWord hcode, hp,
    crcGood_atTake hlen, Bool.not_true, Bool.false_eq_true, if_false]
  rw [if_neg (by omega)]
  split
  · rfl
  · unfold State.judgeCommand
    refine (if_pos hn).trans ?_
    cases (s.atTake h c).ownRule c <;> rfl

end Sys2Proof.Machine
end

