-- ==== Sys2Proof/Tests/Slice0.lean ====
section
/-! SUPPORT. Tests of the model against the values the manual prints, the refusals of the well-formedness check, and a witness for the
hypotheses of every statement. -/

namespace Sys2Proof.Tests

set_option Elab.async false

open Sys2Proof.Machine

/-! ## States and operands -/

/-- The state a command leaves. -/
def after (c : Instr) (s : State) : State :=
  match exec c s with
  | .next t => t
  | .fault f => nomatch f
  | .refused _ => s

/-- The result an answered command publishes. -/
def resultOf (c : Instr) (s : State) : TakeResult := (after c s).control.outcome.result

/-- The errors in the accumulator after a command, by their bits (11.4). -/
def errorsOf (c : Instr) (s : State) : Word := errorWord (after c s).control.errors

def host : HostAccess := { tag := 1, window := 65536 }
def head : CommandHead := { host := host, sequence := 42, answer := true }
def port : PortAccess := { host := host, mode := .none }
def order : Interleave := { blocks := .streamIntercomAlarmShow, markFirst := true }
def timeStep : TimeEvent := .nextStep 1000000 order

/-- Anchored as the first worked sequence anchors it (10.2). -/
def anchored : State :=
  { State.reset with transit := { State.reset.transit with anchor := some { window := 65536, pageRing := 66560 } } }

/-- One timebase step short of a tick. -/
def atTick (s : State) : State := { s with clock := { s.clock with tickPhase := 47 } }

def inAlarm (a : AlarmState) (s : State) : State := { s with alarm := { s.alarm with state := a } }

def withShow (s : State) (r : ShowRecord) : State := { s with theatre := r }

def publicEntry : ZoneEntry :=
  { ZoneEntry.reset with mapped := true, ringPeriods := 8, playoutBase := 131072, watch := 20 }

def theatreEntry : ZoneEntry :=
  { publicEntry with kind := .theatreZone, playoutBase := 163840, level := 2048, levelTarget := 2048, programGain := 4096 }

/-- Zone 0 PUBLIC and zone 40 THEATRE are mapped. -/
def zoned : State := (anchored.setZone 0 publicEntry).setZone 40 theatreEntry

def zone40 : ZoneSet := { lo := 0#32, hi := 0x100#32 }
def zone0 : ZoneSet := { lo := 1#32, hi := 0#32 }

def readySlot (period buffer : Nat) : Slot :=
  { ready := true, pass := 0, period := period, parts := 3, ringPeriod := 0, buffer := buffer }

def fillingSlot (period parts buffer : Nat) : Slot :=
  { ready := false, pass := 0, period := period, parts := parts, ringPeriod := 0, buffer := buffer }

/-- A clip of ten periods: one playing, one with its third part in flight. -/
def clipRecord : StreamRecord :=
  { StreamRecord.reset with
    state := .playing, priority := 4, clipBase := 4096, clipPeriods := 10, periodsLeft := 10, nextFetch := 2,
    queue := [readySlot 0 0, fillingSlot 1 2 1], current := true }

def thirdPart : OwnRequest := { stream := 1, pass := 0, period := 1, part := 2, addr := 4176 }

/-- Record 1 plays that clip on zone 0, its third part under own tag 32. -/
def playing : State :=
  let s := (zoned.setStream 1 clipRecord).setZone 0 { publicEntry with bound := some 1 }
  { s with transit := { s.transit with ownTags := s.transit.ownTags.set 0 (some thirdPart) } }

def ending (s : State) (n : Nat) (drained : Bool) : State :=
  s.setStream n { s.stream n with state := .ending, drained := drained, endCause := .aborted }

/-- A live page that has just been opened. -/
def paged : State :=
  (zoned.setStream 2 { StreamRecord.reset with state := .starting, source := .live, priority := 6 }).setZone 0
    { publicEntry with bound := some 2 }

def stationRecord : StationRecord :=
  { StationRecord.reset with active := true, micBase := 200000, earBase := 210000, listen := Bank.fill 16 true }

/-- Station 10 is active and listens to every group, groups 4 and 7 are defined (10.5). -/
def manned : State :=
  ((zoned.setStation 10 stationRecord).setGroup 4 { GroupRecord.reset with defined := true, essential := true }).setGroup 7
    { GroupRecord.reset with defined := true, gain := 2048 }

/-- Station 10 speaks in group 4, and 400,000 of the sum at position 5 is its own. -/
def speaking : State :=
  (manned.setStation 10 { stationRecord with talk := some 4, ownFilling := (Bank.fill 48 0).set 5 400000 }).setGroup 4
    { GroupRecord.reset with defined := true, essential := true, filling := (Bank.fill 48 0).set 5 500000 }

def cueOf (t : Trigger) (v : Nat) (a : CueAction) (w1 w2 w3 : Word) : Cue :=
  { Cue.reset with trigger := t, value := v, action := a, notify := true, word1 := w1, word2 := w2, word3 := w3 }

/-- A show of these cues in this state at this pointer, with the show clock LOCKED. -/
def showing (state : ShowState) (pointer : Nat) (cues : List Cue) : State :=
  let r : ShowRecord := { ShowRecord.reset with
    state := state, length := cues.length, pointer := pointer, cues := Bank.ofFn 256 fun n => cues.getD n Cue.reset }
  { zoned with theatre := r, clock := { zoned.clock with lock := .locked, lockedInterval := 1600 } }

/-- A show held by SHH over zone 40 at level target 1024. -/
def heldShow : State :=
  let s := showing .held 0 [cueOf .go 0 .note 0#32 0#32 0#32]
  withShow s { s.theatre with
    holdCause := some .command, snapshot := some { levels := (Bank.fill 64 none).set 40 (some 1024), follow := 7 } }

/-! ## What well-formedness refuses -/

def illTag : HostAccess := { host with tag := 64 }
def illWindow : HostAccess := { host with window := 268434433 }
def illPort : PortAccess := { port with host := illTag }
def illHead : CommandHead := { head with sequence := 256 }
def illShape : ZoneShape := { kind := .publicZone, ringPeriods := 64, sensePresent := false, senseLag := 0 }
def illLag : ZoneShape := { kind := .publicZone, ringPeriods := 2, sensePresent := false, senseLag := 64 }
def whole : WriteWord := wholeWord 0#32

theorem test_illFormed_requests :
    (Instr.readRequest 64 0 1).wellFormed = false ∧ (Instr.readRequest 0 268435456 1).wellFormed = false
      ∧ (Instr.readRequest 0 0 0).wellFormed = false ∧ (Instr.readRequest 0 0 17).wellFormed = false
      ∧ (Instr.writeRequest 64 0 [whole]).wellFormed = false ∧ (Instr.writeRequest 0 268435456 [whole]).wellFormed = false
      ∧ (Instr.writeRequest 0 0 []).wellFormed = false
      ∧ (Instr.writeRequest 0 0 (List.replicate 17 whole)).wellFormed = false := by decide +kernel

theorem test_illFormed_responses :
    (Instr.dataResponse 64 .ok []).wellFormed = false
      ∧ (Instr.dataResponse 0 .ok (List.replicate 17 0#32)).wellFormed = false
      ∧ (Instr.doneResponse 64 .ok).wellFormed = false ∧ (Instr.ownResponse 64 .ok []).wellFormed = false
      ∧ (Instr.ownResponse 32 .ok (List.replicate 17 0#32)).wellFormed = false
      ∧ (Instr.unmatchedResponse 64 (.done .ok)).wellFormed = false
      ∧ (Instr.unmatchedResponse 0 (.data .ok (List.replicate 17 0#32))).wellFormed = false
      ∧ (Instr.portDataRead 64 .ok 0#32).wellFormed = false ∧ (Instr.drainResponse 64 (.done .ok)).wellFormed = false
      ∧ (Instr.drainResponse 0 (.data .ok (List.replicate 17 0#32))).wellFormed = false := by decide +kernel

theorem test_illFormed_windowWrites :
    (Instr.anchorRecord 64 default).wellFormed = false ∧ (Instr.noticeAcknowledge illTag whole).wellFormed = false
      ∧ (Instr.noticeAcknowledge illWindow whole).wellFormed = false
      ∧ (Instr.portSelectorWrite illTag whole).wellFormed = false
      ∧ (Instr.controlWordWrite illTag 0 whole).wellFormed = false
      ∧ (Instr.controlWordWrite host 1024 whole).wellFormed = false := by decide +kernel

theorem test_illFormed_zoneWrites :
    (Instr.configWrite illPort 0 0#32).wellFormed = false ∧ (Instr.configWrite port 3 0#32).wellFormed = false
      ∧ (Instr.zoneMap illPort 0 default).wellFormed = false ∧ (Instr.zoneMap port 64 default).wellFormed = false
      ∧ (Instr.zoneMap port 0 illShape).wellFormed = false ∧ (Instr.zoneMap port 0 illLag).wellFormed = false
      ∧ (Instr.zoneUnmap illPort 0 default).wellFormed = false ∧ (Instr.zoneUnmap port 64 default).wellFormed = false
      ∧ (Instr.zoneUnmap port 0 illShape).wellFormed = false ∧ (Instr.zoneFieldWrite illPort 0 1 0#32).wellFormed = false
      ∧ (Instr.zoneFieldWrite port 64 1 0#32).wellFormed = false
      ∧ (Instr.zoneFieldWrite port 0 8 0#32).wellFormed = false := by decide +kernel

theorem test_illFormed_intercomWrites :
    (Instr.stationActivate illPort 0 2).wellFormed = false ∧ (Instr.stationActivate port 32 2).wellFormed = false
      ∧ (Instr.stationActivate port 0 64).wellFormed = false ∧ (Instr.stationDeactivate illPort 0 2).wellFormed = false
      ∧ (Instr.stationDeactivate port 32 2).wellFormed = false ∧ (Instr.stationDeactivate port 0 64).wellFormed = false
      ∧ (Instr.stationFieldWrite illPort 0 1 0#32).wellFormed = false
      ∧ (Instr.stationFieldWrite port 32 1 0#32).wellFormed = false
      ∧ (Instr.stationFieldWrite port 0 6 0#32).wellFormed = false ∧ (Instr.groupDefine illPort 0 true).wellFormed = false
      ∧ (Instr.groupDefine port 16 true).wellFormed = false ∧ (Instr.groupUndefine illPort 0 true).wellFormed = false
      ∧ (Instr.groupUndefine port 16 true).wellFormed = false ∧ (Instr.groupGainWrite illPort 0 1 0#32).wellFormed = false
      ∧ (Instr.groupGainWrite port 16 1 0#32).wellFormed = false ∧ (Instr.groupGainWrite port 0 0 0#32).wellFormed = false
      ∧ (Instr.groupGainWrite port 0 4 0#32).wellFormed = false := by decide +kernel

theorem test_illFormed_otherTables :
    (Instr.cueWrite illPort 0 0 0#32).wellFormed = false ∧ (Instr.cueWrite port 256 0 0#32).wellFormed = false
      ∧ (Instr.cueWrite port 0 4 0#32).wellFormed = false ∧ (Instr.listLengthWrite illPort 0#32).wellFormed = false
      ∧ (Instr.patternWrite illPort 0 0#32).wellFormed = false ∧ (Instr.patternWrite port 17 0#32).wellFormed = false
      ∧ (Instr.readOnlyTableWrite illPort .pin 0 whole).wellFormed = false
      ∧ (Instr.readOnlyTableWrite port .pin 2048 whole).wellFormed = false := by decide +kernel

theorem test_illFormed_streamCommands :
    (Instr.ansClip illHead 1 zone0 0 1 0).wellFormed = false ∧ (Instr.ansClip head 16 zone0 0 1 0).wellFormed = false
      ∧ (Instr.ansClip head 1 zone0 4294967296 1 0).wellFormed = false
      ∧ (Instr.ansClip head 1 zone0 0 65536 0).wellFormed = false
      ∧ (Instr.ansClip head 1 zone0 0 1 256).wellFormed = false ∧ (Instr.ansLive illHead 1 zone0).wellFormed = false
      ∧ (Instr.ansLive head 16 zone0).wellFormed = false ∧ (Instr.ansGroup illHead 1 zone0 0).wellFormed = false
      ∧ (Instr.ansGroup head 16 zone0 0).wellFormed = false ∧ (Instr.ansGroup head 1 zone0 256).wellFormed = false
      ∧ (Instr.anx illHead 0).wellFormed = false ∧ (Instr.anx head 4294967296).wellFormed = false
      ∧ (Instr.pgc illHead).wellFormed = false := by decide +kernel

theorem test_illFormed_otherCommands :
    (Instr.ict illHead 0 0).wellFormed = false ∧ (Instr.ict head 256 0).wellFormed = false
      ∧ (Instr.ict head 0 32).wellFormed = false ∧ (Instr.icl illHead 0 0#32).wellFormed = false
      ∧ (Instr.icl head 256 0#32).wellFormed = false ∧ (Instr.als illHead).wellFormed = false
      ∧ (Instr.asi illHead).wellFormed = false ∧ (Instr.aen illHead).wellFormed = false
      ∧ (Instr.svr illHead zone0).wellFormed = false ∧ (Instr.shg illHead).wellFormed = false
      ∧ (Instr.shh illHead).wellFormed = false ∧ (Instr.shr illHead).wellFormed = false
      ∧ (Instr.shs illHead).wellFormed = false ∧ (Instr.pin illHead 0 1).wellFormed = false
      ∧ (Instr.pin head 4294967296 1).wellFormed = false ∧ (Instr.pin head 0 4294967296).wellFormed = false
      ∧ (Instr.unp illHead 0).wellFormed = false ∧ (Instr.unp head 4294967296).wellFormed = false
      ∧ (Instr.rstAll illHead).wellFormed = false ∧ (Instr.rstIntercom illHead).wellFormed = false
      ∧ (Instr.rstShow illHead).wellFormed = false ∧ (Instr.cnc illHead zone0 0#32 0).wellFormed = false
      ∧ (Instr.cnc head zone0 0#32 4294967296).wellFormed = false := by decide +kernel

theorem test_illFormed_events :
    (Instr.busyEnd .stream (.response 64 .ok [])).wellFormed = false
      ∧ (Instr.busyEnd .stream (.response 32 .ok (List.replicate 17 0#32))).wellFormed = false
      ∧ (Instr.streamFree 8 (.time timeStep)).wellFormed = false
      ∧ (Instr.streamFree 0 (.response 64 .ok [])).wellFormed = false
      ∧ (Instr.clipComplete 8 timeStep).wellFormed = false ∧ (Instr.pageTimeout 8 timeStep).wellFormed = false
      ∧ (Instr.zoneSilent 64 timeStep).wellFormed = false ∧ (Instr.levelRampEnd 64 timeStep).wellFormed = false := by
  decide +kernel

theorem test_wellFormed_boundaries :
    (Instr.readRequest 63 268435455 16).wellFormed = true ∧ (Instr.controlWordWrite host 1023 whole).wellFormed = true
      ∧ (Instr.zoneFieldWrite port 63 7 0#32).wellFormed = true ∧ (Instr.pin head 4294967295 4294967295).wellFormed = true
      ∧ (Instr.ict head 255 31).wellFormed = true ∧ (Instr.sampleClockEdge 0 order).wellFormed = true := by decide +kernel

/-! ## Words and numbers the manual prints -/

/-- 11.3 and the example of chapter 11: the PIN of the first worked sequence. -/
theorem test_pinRecord :
    recordWords { head with sequence := 1 } (.pin 0x1000000 65536)
      = withCrc [0x0201010E#32, 0x01000000#32, 0x00010000#32]
    ∧ (after (.pin { head with sequence := 1 } 0x1000000 65536) anchored).control.outcome.word = 0x00000E01#32 := by
  decide +kernel

theorem test_crcOfNothing : crc16 [] = 0xFFFF#16 := by decide

/-- R197. -/
theorem test_pilotPatterns :
    (∀ k < 8, (pilotGroups k).flatten.length = 48 ∧ (pilotGroups k).flatten.countP id = 24)
      ∧ pilotSign 4 0 = 1 ∧ pilotSign 4 1 = -1 ∧ pilotSign 4 5 = -1 ∧ pilotSign 4 45 = -1 ∧ pilotSign 4 46 = 1 := by
  decide +kernel

/-- R146, at the quarter cycles and at 30 degrees. -/
theorem test_tone :
    toneOfPhase 0 = 0 ∧ toneOfPhase 4000 = 4194304 ∧ toneOfPhase 12000 = 8388607 ∧ toneOfPhase 24000 = 0
      ∧ toneOfPhase 36000 = -8388607 ∧ toneOfPhase 28000 = -4194304 := by decide +kernel

theorem test_samples :
    gained (-1000001) 3072 = -750000 ∧ clamp (-8576172) = -8388608 ∧ clamp 9000000 = 8388607
      ∧ sampleOf 0xFFFFFFFF#32 = -1 ∧ sampleWord (-64) = 0xFFFFFFC0#32 := by decide +kernel

/-- R24: family code 1 in bits 0 to 7, and the rest of the identity. -/
theorem test_resetLiveWords :
    State.reset.liveWord 1 = 1#32 ∧ State.reset.liveWord 2 = 0#32 ∧ State.reset.liveWord 3 = 0#32
      ∧ State.reset.liveWord 4 = 0#32 ∧ State.reset.liveWord 14 = 0#32 ∧ State.reset.liveWord 15 = 0#32 := by decide +kernel

/-! ## Composition: the examples of 3.6 and 10.5 -/

def entry12 : ZoneEntry :=
  { publicEntry with
    sensePresent := true, programGain := 3072, alarmGain := 2048, pilotLevel := 64, pilotPattern := 4, bound := some 3 }

/-- Zone 12 bound to stream 3, whose current slot holds this sample at position 5. -/
def over12 (sample : Word) : State :=
  (anchored.setZone 12 entry12).setStream 3 { StreamRecord.reset with
    state := .playing, current := true, queue := [readySlot 0 2],
    buffers := (Bank.fill 4 (Bank.fill 48 0#32)).set 2 ((Bank.fill 48 0#32).set 5 sample) }

def alone12 : State := anchored.setZone 12 { entry12 with bound := none }

theorem test_witness_playout_quiet :
    (alone12.playoutWord 12 5 2000000#32).toInt = 1499936
      ∧ ((over12 6000000#32).playoutWord 12 5 2000000#32).toInt = 6374936
      ∧ ((over12 (-8388608)).playoutWord 12 5 (-1000001)).toInt = -8388608 := by decide +kernel

theorem test_witness_playout_muster :
    ((inAlarm .muster (over12 6000000#32)).playoutWord 12 5 2000000#32).toInt = 5999936
      ∧ ((inAlarm .muster alone12).playoutWord 12 5 2000000#32).toInt = -64
      ∧ ((inAlarm .muster (alone12.setZone 12 { entry12 with bound := none, kind := .crewZone })).playoutWord 12 5
          2000000#32).toInt = 1499936
      ∧ ((inAlarm .muster ((over12 6000000#32).setZone 12 { entry12 with kind := .crewZone })).playoutWord 12 5
          2000000#32).toInt = 6374936 := by decide +kernel

/-- The first segment of the default pattern is 800 Hz: position 15 is at phase 12,000. -/
theorem test_witness_playout_sounding :
    ((inAlarm .sounding alone12).playoutWord 12 15 2000000#32).toInt = (gained 8388607 2048) + 64 * pilotSign 4 15
      ∧ (inAlarm .sounding alone12).alarm.tone 15 = 8388607 := by decide +kernel

/-- 3.6: a THEATRE zone at level 1024 under an announcement. -/
theorem test_theatreUnderAnnouncement :
    (((over12 3000000#32).setZone 12 { entry12 with
      kind := .theatreZone, sensePresent := false, programGain := 4096, duckGain := 2048, level := 1024 }).playoutWord 12 5
      4000000#32).toInt = 3500000 := by decide +kernel

def conferenceStation (talk : Nat) (own : Int) (groups : List Nat) : StationRecord :=
  { stationRecord with
    readyGroup := some talk, ownReady := (Bank.fill 48 0).set 5 own, listen := Bank.ofFn 16 fun g => groups.contains g }

/-- 10.5 after tick 1. -/
def conferring : State :=
  ((((manned.setGroup 4 { GroupRecord.reset with defined := true, essential := true, ready := (Bank.fill 48 0).set 5 550000 }).setGroup
    7 { GroupRecord.reset with defined := true, gain := 2048, ready := (Bank.fill 48 0).set 5 (-200000) }).setStation 10
    (conferenceStation 4 400000 [4, 7])).setStation 11 (conferenceStation 4 150000 [4])).setStation 12
    (conferenceStation 7 (-200000) [4, 7])

theorem test_witness_earpiece :
    (conferring.earpieceWord 10 5 0#32).toInt = 50000 ∧ (conferring.earpieceWord 11 5 0#32).toInt = 400000
      ∧ (conferring.earpieceWord 12 5 0#32).toInt = 550000
      ∧ ((inAlarm .muster conferring).earpieceWord 10 5 0#32).toInt = 150000 := by decide +kernel

/-- R111: a talk-off shows the heard count 0 at once, and the record keeps it (R109). -/
theorem test_heardCount :
    let s := manned.setStation 10 { stationRecord with talk := some 4, heard := 48, readyGroup := some 4 }
    s.tableWord .station 65 = 0x3004#32
      ∧ (after (.ict head 10 31) s).tableWord .station 65 = 4#32 ∧ ((after (.ict head 10 31) s).station 10).heard = 48 := by
  decide +kernel

/-! ## Requests and responses -/

theorem test_witness_tagFault :
    anchored.portOpen = true ∧ (after (.readRequest 32 0 1) anchored).event.toHost = some (.data 32 .tagFaultStatus [])
      ∧ (after (.writeRequest 1 0 [whole]) (after (.readRequest 1 0 1) anchored)).event.toHost
        = some (.done 1 .tagFaultStatus) := by decide +kernel

theorem test_witness_readQueued :
    (after (.readRequest 31 131072 16) zoned).transit.forwarded = [.read 31 131072 16]
      ∧ (after (.readRequest 31 131072 16) zoned).transit.tags.get 31
        = some { isWrite := false, addr := 131072, count := 16 } := by decide +kernel

theorem test_witness_writeOffered :
    zoned.accepts 31 = true ∧ examined zoned.transit.anchor 65567 [whole, whole] = false
      ∧ (∀ j < 2, (zoned.classify (65567 + j)).isPinned = false)
      ∧ (after (.writeRequest 31 65567 [whole, wholeWord 7#32]) zoned).control.captured.get 0 = 7#32
      ∧ (after (.writeRequest 31 65567 [whole, wholeWord 7#32]) zoned).transit.forwarded.length = 1 := by decide +kernel

def pinnedState : State := anchored.setPin 3 { inUse := true, base := 16777216, length := 65536 }

/-- 1.4: the last word of the pin, and the first beyond it. -/
theorem test_witness_pinnedWrite :
    pinnedState.settled = true ∧ pinnedState.classify 16842751 = .pinned 3 ∧ pinnedState.classify 16842752 = .plain
      ∧ (after (.writeRequest 0 16842750 [whole, whole]) pinnedState).event.toHost = some (.done 0 .protectedStatus)
      ∧ (after (.writeRequest 0 16842750 [whole, whole]) pinnedState).transit.forwarded = [] := by decide +kernel

def bothQueues (turn : Turn) : State :=
  { anchored with transit := { anchored.transit with forwarded := [.read 0 16 2], ownQueue := [thirdPart], turn := turn } }

theorem test_witness_arbiter :
    (after .arbiterIssue (bothQueues .forwarded)).event.toMemory = some (.read 0 16 2)
      ∧ (after .arbiterIssue (bothQueues .forwarded)).transit.turn = .own
      ∧ (after .arbiterIssue (bothQueues .own)).event.toMemory = some (.read 32 4176 16)
      ∧ (after .arbiterIssue (bothQueues .own)).transit.turn = .forwarded
      ∧ anchored.transit.forwarded = [] ∧ anchored.transit.ownQueue = []
      ∧ (after .arbiterIssue anchored).event.toMemory = none := by decide +kernel

/-- Zone 0's first word is asked for under tag 2, and the port data word under tag 3. -/
def asked : State := after (.readRequest 3 65554 1) (after (.readRequest 2 131072 2) (zoned.setZone 0 { publicEntry with watch := 3 }))

theorem test_witness_faultData :
    asked.settled = true ∧ asked.portOpen = true
      ∧ (after (.dataResponse 2 .fault [5#32]) asked).event.toHost = some (.data 2 .faultStatus [5#32])
      ∧ (after (.dataResponse 2 .fault [5#32]) asked).transit.tags.get 2 = none := by decide +kernel

theorem test_witness_okData :
    (after (.dataResponse 2 .ok [4096#32, 0xFFFFF000#32]) asked).event.toHost
        = some (.data 2 .okStatus [4096#32, 0xFFFFF000#32])
      ∧ ((after (.dataResponse 2 .ok [4096#32, 0xFFFFF000#32]) asked).zone 0).watch = 20
      ∧ (after (.dataResponse 3 .ok [9#32]) asked).event.toHost = some (.data 3 .okStatus [0#32]) := by decide +kernel

theorem test_witness_portRead :
    asked.windowAt 65536 = true ∧ asked.portReadPending 3 = true ∧ asked.portReadPending 2 = false
      ∧ (after (.portDataRead 3 .ok 9#32) asked).event.toHost = some (.data 3 .okStatus [0#32])
      ∧ (after (.portDataRead 3 .fault 9#32) asked).event.toHost = some (.data 3 .faultStatus [9#32]) := by decide +kernel

theorem test_witness_doneAndUnmatched :
    (after (.doneResponse 4 .ok) (after (.writeRequest 4 0 [whole]) anchored)).event.toHost = some (.done 4 .okStatus)
      ∧ (after (.doneResponse 4 .fault) (after (.writeRequest 4 0 [whole]) anchored)).event.toHost
        = some (.done 4 .faultStatus)
      ∧ anchored.settled = true ∧ anchored.transit.tags.get 31 = none ∧ anchored.transit.ownTags.get 31 = none
      ∧ (after (.unmatchedResponse 63 (.data .ok [])) anchored).event.toHost = none := by decide +kernel

theorem test_witness_ownResponse_fault :
    (playing.stream 1).live = true ∧ playing.transit.ownTags.get 0 = some thirdPart
      ∧ ((after (.ownResponse 32 .fault (List.replicate 16 1#32)) playing).stream 1).endCause = .fetchError
      ∧ (after (.ownResponse 32 .fault (List.replicate 16 1#32)) playing).transit.ownTags.get 0 = none := by decide +kernel

theorem test_witness_ownResponse_placed :
    (fillingSlot 1 2 1).labelled thirdPart = true
      ∧ (((after (.ownResponse 32 .ok (List.replicate 16 1#32)) playing).stream 1).queue.map fun x => x.ready)
        = [true, true, false]
      ∧ (((after (.ownResponse 32 .ok (List.replicate 16 1#32)) playing).stream 1).buffers.get 1).get 31 = 0#32
      ∧ (((after (.ownResponse 32 .ok (List.replicate 16 1#32)) playing).stream 1).buffers.get 1).get 47 = 1#32
      ∧ (after (.ownResponse 32 .ok (List.replicate 16 1#32)) playing).transit.ownQueue.map (fun q => q.addr)
        = [4192, 4208, 4224]
      ∧ ((after (.ownResponse 32 .ok (List.replicate 16 1#32)) playing).stream 1).nextFetch = 3
      ∧ ((after (.ownResponse 32 .ok (List.replicate 16 1#32)) (playing.setStream 1 { clipRecord with
          clipPeriods := 2 })).stream 1).queue.map (fun x => x.ready) = [true, true] := by
  decide +kernel

theorem test_witness_ownResponse_ending :
    (ending playing 1 true).inFlight 1 = 1
      ∧ ((after (.ownResponse 32 .ok (List.replicate 16 1#32)) (ending playing 1 true)).stream 1).state = .free
      ∧ ((after (.ownResponse 32 .ok (List.replicate 16 1#32)) (ending playing 1 false)).stream 1).state = .ending := by
  decide +kernel

theorem test_witness_drain :
    (after (.fullReset .line) asked).transit.drain = 0
      ∧ (after (.fullReset .line) (after .arbiterIssue asked)).transit.drain = 1
      ∧ (after (.fullReset .line) asked).portOpen = false ∧ (after .resetRelease (after (.fullReset .power) asked)).portOpen = true
      ∧ (after (.drainResponse 2 (.data .ok [])) (after (.fullReset .line) (after .arbiterIssue asked))).transit.drain = 0 := by
  decide +kernel

/-- Every kind of region, one of each. -/
def placed : State :=
  (manned.setZone 1 { publicEntry with playoutBase := 300000, sensePresent := true, senseBase := 310000 }).setPin 3
    { inUse := true, base := 16777216, length := 65536 }

/-- The first and the last word of each region of 1.1, and the words beyond. -/
theorem test_witness_classify :
    RegionLaw placed
      ∧ placed.classify 0x80 = .anchorBlock 0 ∧ placed.classify 0x87 = .anchorBlock 7 ∧ placed.classify 0x88 = .plain
      ∧ placed.classify 65536 = .window 0 ∧ placed.classify 66559 = .window 1023
      ∧ placed.classify 66560 = .pageRing 0 ∧ placed.classify 66943 = .pageRing 383 ∧ placed.classify 66944 = .plain
      ∧ placed.classify 300000 = .playout 1 0 ∧ placed.classify 300383 = .playout 1 383 ∧ placed.classify 300384 = .plain
      ∧ placed.classify 310000 = .sense 1 0 ∧ placed.classify 310383 = .sense 1 383 ∧ placed.classify 310384 = .plain
      ∧ placed.classify 200000 = .microphone 10 0 ∧ placed.classify 200095 = .microphone 10 95
      ∧ placed.classify 210000 = .earpiece 10 0 ∧ placed.classify 210095 = .earpiece 10 95
      ∧ placed.classify 16777216 = .pinned 3 ∧ placed.classify 16842751 = .pinned 3 ∧ placed.classify 16842752 = .plain :=
  ⟨by constructor <;> decide +kernel, by decide +kernel⟩

theorem test_witness_offered :
    placed.offerWord (.playout 1 0, whole) = placed ∧ placed.offerWord (.window 48, whole) = placed
      ∧ placed.offerWord (.window 15, whole) = placed ∧ placed.offerWord (.window 31, whole) = placed
      ∧ (placed.offerWord (.window 32, wholeWord 7#32)).control.captured.get 0 = 7#32
      ∧ ((speaking.offerWord (.microphone 10 53, wholeWord 7#32)).station 10).ownFilling.get 5 = 7
      ∧ (((placed.setZone 1 { placed.zone 1 with pilotLevel := 64 }).offerWord (.sense 1 46, whole)).zone 1).seen.get 46 = true
      ∧ (paged.offerWord (.pageRing 48, wholeWord 7#32)).page.capture = some 1
      ∧ after (.writeRequest 1 65552 [whole]) anchored = after (.controlWordWrite host 16 whole) anchored := by decide +kernel

/-- The anchor record of 10.2. -/
def record : AnchorRecord :=
  let words := [1#32, 65536#32, 66560#32, 0#32, 0#32, 0#32, 0#32]
  { format := 1#32, window := 65536#32, pageRing := 66560#32, word3 := 0#32, word4 := 0#32, word5 := 0#32, word6 := 0#32,
    trailer := (crc16 words).setWidth 32 }

theorem test_witness_anchor :
    (after (.anchorRecord 1 record) State.reset).transit.anchor = some { window := 65536, pageRing := 66560 }
      ∧ (after (.anchorRecord 1 { record with trailer := 0#32 }) State.reset).transit.anchor = none
      ∧ errorsOf (.anchorRecord 1 { record with trailer := 0#32 }) State.reset = 0x100#32 := by decide +kernel

/-! ## The control window and the port -/

def noticed : State := ((anchored.post .clock).latch.post .alarm)

theorem test_witness_acknowledge :
    noticed.hears host = true ∧ noticed.control.inService = some .clock
      ∧ (after (.noticeAcknowledge host (wholeWord 4#32)) noticed).control.inService = some .alarm
      ∧ errorsOf (.noticeAcknowledge host (wholeWord 3#32)) noticed = 0x200#32
      ∧ errorsOf (.noticeAcknowledge host { data := 4#32, lanes := 7#4 }) noticed = 0x200#32
      ∧ errorsOf (.noticeAcknowledge host (wholeWord 1#32)) anchored = 0x200#32 := by decide +kernel

theorem test_witness_latch :
    ((anchored.post .stream).post .command).latch.control.inService = some .stream
      ∧ (State.latch { anchored.post .stream with control := { (anchored.post .stream).control with mask := Bank.fill 9 true } }).noticeLine
        = false := by decide +kernel

theorem test_witness_selector :
    (after (.portSelectorWrite host (wholeWord 0x02040005#32)) anchored).control.selector
        = { table := .cue, index := 1024, mode := .writeOnly }
      ∧ errorsOf (.portSelectorWrite host (wholeWord 0x00040105#32)) anchored = 0x80#32
      ∧ errorsOf (.portSelectorWrite host (wholeWord 0x00000000#32)) anchored = 0x80#32
      ∧ errorsOf (.portSelectorWrite host (wholeWord 0x03000001#32)) anchored = 0x80#32
      ∧ errorsOf (.portSelectorWrite host { data := 1#32, lanes := 7#4 }) anchored = 0x80#32 := by decide +kernel

theorem test_witness_controlWord :
    (after (.controlWordWrite host 1023 whole) anchored).control = anchored.control
      ∧ (after (.controlWordWrite host 15 whole) anchored).control = anchored.control
      ∧ errorsOf (.controlWordWrite host 16 whole) anchored = 0x200#32
      ∧ errorsOf (.controlWordWrite host 18 (wholeWord 512#32)) anchored = 0x40#32
      ∧ (after (.controlWordWrite host 32 { data := 0xAABBCCDD#32, lanes := 9#4 }) anchored).control.captured.get 0
        = 0xAA0000DD#32
      ∧ (after (.controlWordWrite host 47 (wholeWord 3#32)) anchored).control.captured.get 15 = 3#32 := by decide +kernel

theorem test_witness_readOnlyTables :
    errorsOf (.readOnlyTableWrite port .pin 0 whole) anchored = 0x40#32
      ∧ errorsOf (.readOnlyTableWrite port .counter 96 whole) anchored = 0x40#32
      ∧ errorsOf (.readOnlyTableWrite port .config 2 { data := 1#32, lanes := 14#4 }) anchored = 0x40#32
      ∧ errorsOf (.readOnlyTableWrite port .config 3 (wholeWord 1#32)) anchored = 0x80#32
      ∧ (after (.readOnlyTableWrite port .config 2 (wholeWord 48#32)) anchored).control.passThreshold = 48 := by
  decide +kernel

/-- 2.4: walking off the end of PATTERN. -/
theorem test_witness_postIncrement :
    (after (.patternWrite { port with mode := .writeOnly } 15 0x00010064#32) anchored).control.selector.index = 16
      ∧ errorsOf (.patternWrite { port with mode := .writeOnly } 16 16#32) anchored = 0x80#32
      ∧ (after (.patternWrite port 15 0x00010064#32) anchored).control.selector.index = 15 := by decide +kernel

/-! ## The tables -/

def shape8 : ZoneShape := { kind := .publicZone, ringPeriods := 8, sensePresent := false, senseLag := 0 }

theorem test_witness_zoneMap :
    let s := anchored.setZone 0 { ZoneEntry.reset with playoutBase := 131072 }
    (after (.zoneMap port 0 shape8) s).zone 0 = { ZoneEntry.reset with
        playoutBase := 131072, mapped := true, ringPeriods := 8, watch := 20 }
      ∧ ((after (.zoneMap port 0 { shape8 with kind := .theatreZone }) s).zone 0).level = 4096
      ∧ errorsOf (.zoneMap port 0 { shape8 with ringPeriods := 33 }) s = 0x40#32
      ∧ errorsOf (.zoneMap port 0 shape8) zoned = 0x40#32 := by decide +kernel

/-- 9.6: mapped while HELD. -/
theorem test_witness_zoneMap_held :
    let s := heldShow.setZone 63 { ZoneEntry.reset with playoutBase := 268435456 - 2 * 48, ringPeriods := 2 }
    let t := after (.zoneMap port 63 { shape8 with kind := .theatreZone, ringPeriods := 2 }) s
    (t.zone 63).level = 0 ∧ (t.theatre.snapshot.map fun h => h.levels.get 63) = some (some 4096) := by decide +kernel

theorem test_witness_zoneUnmap :
    ((after (.zoneUnmap port 0 shape8) zoned).zone 0).mapped = false
      ∧ ((after (.zoneUnmap port 5 shape8) zoned).zone 5).ringPeriods = 8
      ∧ errorsOf (.zoneUnmap port 0 shape8) (inAlarm .muster zoned) = 0x40#32
      ∧ errorsOf (.zoneUnmap port 0 shape8) playing = 0x40#32
      ∧ errorsOf (.zoneUnmap port 5 { shape8 with ringPeriods := 1 }) zoned = 0x40#32 := by decide +kernel

theorem test_witness_zoneFields :
    ((after (.zoneFieldWrite port 5 1 268435455#32) zoned).zone 5).playoutBase = 268435455
      ∧ ((after (.zoneFieldWrite port 5 2 0#32) zoned).zone 5).senseBase = 0
      ∧ errorsOf (.zoneFieldWrite port 5 1 268435456#32) zoned = 0x40#32
      ∧ errorsOf (.zoneFieldWrite port 0 1 0#32) zoned = 0x40#32
      ∧ ((after (.zoneFieldWrite port 40 3 0x04001000#32) zoned).zone 40).level = 4096
      ∧ ((after (.zoneFieldWrite port 40 3 0x04000FFF#32) heldShow).zone 40).level = 2048
      ∧ errorsOf (.zoneFieldWrite port 40 3 0x04001001#32) zoned = 0x40#32
      ∧ ((after (.zoneFieldWrite port 40 4 0x10001000#32) zoned).zone 40).alarmGain = 4096
      ∧ ((after (.zoneFieldWrite port 0 5 0x00070207#32) zoned).zone 0).fallbackGroup = some 7
      ∧ errorsOf (.zoneFieldWrite port 0 5 0x00080207#32) zoned = 0x40#32
      ∧ ((after (.zoneFieldWrite port 0 6 0x000007FF#32) zoned).zone 0).pilotLevel = 255
      ∧ errorsOf (.zoneFieldWrite port 0 7 0#32) zoned = 0x40#32
      ∧ ((after (.zoneFieldWrite port 5 0 0x00000200#32) zoned).zone 5).ringPeriods = 2 := by decide +kernel

theorem test_witness_fallback :
    let s := zoned.setZone 0 { publicEntry with silent := true, fallbackGroup := some 7 }
    (inAlarm .sounding s).evaluateFallback.alarm.fallback.get 7 = true
      ∧ (inAlarm .sounding s).evaluateFallback.alarm.fallback.get 6 = false
      ∧ s.evaluateFallback.alarm.fallback.get 7 = false := by decide +kernel

theorem test_witness_station :
    let s := manned.setStation 11 { StationRecord.reset with micBase := 220000, earBase := 230000 }
    ((after (.stationActivate port 11 2) s).station 11).active = true
      ∧ errorsOf (.stationActivate port 11 33) s = 0x40#32 ∧ errorsOf (.stationActivate port 10 2) s = 0x40#32
      ∧ ((after (.stationDeactivate port 10 32) s).station 10).active = false
      ∧ ((after (.stationDeactivate port 11 32) s).station 11).ringPeriods = 32
      ∧ errorsOf (.stationDeactivate port 10 2) speaking = 0x40#32
      ∧ ((after (.stationFieldWrite port 11 1 268435455#32) s).station 11).micBase = 268435455
      ∧ errorsOf (.stationFieldWrite port 10 2 0#32) s = 0x40#32
      ∧ ((after (.stationFieldWrite port 10 3 4096#32) s).station 10).alarmGain = 4096
      ∧ errorsOf (.stationFieldWrite port 10 3 4097#32) s = 0x40#32
      ∧ errorsOf (.stationFieldWrite port 10 4 0#32) s = 0x40#32 := by decide +kernel

def restarting : State := { manned with control := { manned.control with busyIntercom := true } }

theorem test_witness_station_busy :
    errorsOf (.stationActivate port 11 2) restarting = 0x40#32 ∧ errorsOf (.stationDeactivate port 10 2) restarting = 0x40#32
      ∧ errorsOf (.stationFieldWrite port 31 5 0#32) restarting = 0x40#32 := by decide +kernel

theorem test_witness_group :
    ((after (.groupDefine port 15 true) manned).group 15).defined = true
      ∧ ((after (.groupUndefine port 15 true) manned).group 15).essential = true
      ∧ ((after (.groupDefine port 4 false) manned).group 4).essential = false
      ∧ ((after (.groupUndefine port 7 false) manned).group 7).defined = false
      ∧ errorsOf (.groupUndefine port 4 true) speaking = 0x40#32
      ∧ errorsOf (.groupDefine port 4 false) (inAlarm .muster manned) = 0x40#32
      ∧ errorsOf (.groupDefine port 0 false) restarting = 0x40#32
      ∧ ((after (.groupGainWrite port 7 1 4096#32) manned).group 7).gain = 4096
      ∧ errorsOf (.groupGainWrite port 7 1 4097#32) manned = 0x40#32
      ∧ errorsOf (.groupGainWrite port 7 3 0#32) manned = 0x40#32
      ∧ errorsOf (.groupGainWrite port 7 1 0#32) restarting = 0x40#32 := by decide +kernel

theorem test_witness_cueWrite :
    let s := showing .running 1 [cueOf .go 0 .note 0#32 0#32 0#32, cueOf .go 0 .note 0#32 0#32 0#32]
    (after (.cueWrite port 255 0 0x0012C029#32) s).theatre.cue 255
        = { Cue.reset with trigger := .mark, value := 300, action := .play, notify := true }
      ∧ ((after (.cueWrite port 2 3 5#32) s).theatre.cue 2).word3 = 5#32
      ∧ errorsOf (.cueWrite port 1 3 5#32) s = 0x40#32 ∧ errorsOf (.cueWrite port 2 0 3#32) s = 0x40#32
      ∧ errorsOf (.cueWrite port 2 0 0x10000002#32) s = 0x40#32
      ∧ errorsOf (.cueWrite port 2 0 0x0FFFF002#32) s = 0#32
      ∧ errorsOf (.cueWrite port 2 0 0x14#32) s = 0x40#32
      ∧ errorsOf (.cueWrite port 255 0 0#32) { s with control := { s.control with busyShow := true } } = 0x40#32 := by
  decide +kernel

theorem test_witness_listLength :
    let s := showing .stopped 1 [cueOf .go 0 .note 0#32 0#32 0#32]
    (after (.listLengthWrite port 256#32) zoned).theatre.state = .stopped
      ∧ (after (.listLengthWrite port 0#32) zoned).theatre.state = .idle
      ∧ (after (.listLengthWrite port 0#32) s).theatre.state = .idle
      ∧ (after (.listLengthWrite port 0#32) s).theatre.pointer = 0
      ∧ (after (.listLengthWrite port 3#32) s).theatre.pointer = 1
      ∧ errorsOf (.listLengthWrite port 257#32) s = 0x40#32
      ∧ errorsOf (.listLengthWrite port 1#32) heldShow = 0x40#32 := by decide +kernel

theorem test_witness_configAndPattern :
    ((after (.configWrite port 0 511#32) anchored).control.mask.get 8) = true
      ∧ errorsOf (.configWrite port 0 512#32) anchored = 0x40#32
      ∧ (after (.configWrite port 1 65535#32) anchored).control.pageTimeout = 65535
      ∧ errorsOf (.configWrite port 1 65536#32) anchored = 0x40#32
      ∧ (after (.configWrite port 2 1#32) anchored).control.passThreshold = 1
      ∧ errorsOf (.configWrite port 2 49#32) anchored = 0x40#32
      ∧ (after (.patternWrite port 15 0x00010BB8#32) anchored).alarm.segments.get 15 = { frequency := 3000, duration := 1 }
      ∧ errorsOf (.patternWrite port 0 0x00010063#32) anchored = 0x40#32
      ∧ (after (.patternWrite port 16 1#32) anchored).alarm.patternLength = 1
      ∧ errorsOf (.patternWrite port 16 17#32) anchored = 0x40#32
      ∧ errorsOf (.patternWrite port 16 1#32) (inAlarm .sounding anchored) = 0x40#32 := by decide +kernel

/-! ## The take -/

def unanswered : CommandHead := { head with answer := false }

theorem test_witness_take_answered :
    let t := after (.cnc head { lo := 0x60#32, hi := 0#32 } 0#32 1) (anchored.addError .portRefused)
    t.control.outcome = { sequence := 42, code := 17, result := .accepted 6 } ∧ errorWord t.control.published = 0x40#32
      ∧ errorWord t.control.errors = 0#32 ∧ t.control.inService = some .command := by decide +kernel

theorem test_witness_take_unanswered :
    let t := after (.aen unanswered) anchored
    t.control.outcome.word = 0#32 ∧ errorWord t.control.errors = 0x20#32 ∧ t.control.inService = none
      ∧ (after (.als unanswered) anchored).alarm.state = .sounding := by decide +kernel

/-- The slot as a host left it: these words captured, the fresh-header flag as given. -/
def slot (fresh : Bool) (ws : List Word) : State :=
  { anchored.slotHolding ws with control := { (anchored.slotHolding ws).control with freshHeader := fresh } }

def takeError (s : State) : Word := errorWord s.take.control.errors

theorem test_witness_take_checks :
    takeError (slot false (withCrc [0x00002A06#32])) = 0x8#32 ∧ takeError (slot true [0x0F000000#32]) = 0x2#32
      ∧ takeError (slot true [0x00002A06#32, 0#32]) = 0x1#32
      ∧ takeError (slot true (withCrc [0x00002A00#32])) = 0x4#32
      ∧ takeError (slot true (withCrc [0x00002A12#32])) = 0x4#32
      ∧ takeError (slot true (withCrc [0x01002A06#32, 0#32])) = 0x20#32
      ∧ takeError (slot true (withCrc [0x00002A06#32])) = 0#32
      ∧ (slot true (withCrc [0x00002A06#32])).take.alarm.state = .sounding := by decide +kernel

theorem test_witness_take_busy :
    resultOf (.shg head) { anchored with control := { anchored.control with busyShow := true } } = .busy
      ∧ resultOf (.rstAll head) { anchored with control := { anchored.control with busyShow := true } } = .busy
      ∧ resultOf (.rstIntercom head) { anchored with control := { anchored.control with busyShow := true } }
        = .accepted 0 := by decide +kernel

/-- A row's answer with this engine BUSY and no other. -/
def busyAnswer (e : Engine) (c : Instr) : TakeResult :=
  resultOf c { anchored with control := { anchored.control with
    busyStream := e = .stream, busyIntercom := e = .intercom, busyShow := e = .showEngine } }

theorem test_witness_busyRows :
    (∀ c ∈ [Instr.ansClip head 4 zone0 4096 10 0, .ansLive head 0 zone0, .ansGroup head 15 zone0 255, .anx head 4294967295, .pgc head,
        .rstAll head], busyAnswer .stream c = .busy)
      ∧ (∀ c ∈ [Instr.ict head 255 31, .icl head 255 0xFFFFFFFF#32, .rstAll head, .rstIntercom head],
        busyAnswer .intercom c = .busy)
      ∧ (∀ c ∈ [Instr.shg head, .shh head, .shr head, .shs head, .rstAll head, .rstShow head],
        busyAnswer .showEngine c = .busy)
      ∧ busyAnswer .stream (.shg head) = .refused .state ∧ busyAnswer .showEngine (.pgc head) = .refused .state
      ∧ busyAnswer .stream (.rstShow head) = .accepted 0 ∧ busyAnswer .intercom (.als head) = .accepted 0 := by decide +kernel

theorem test_witness_record_fits :
    (Command.ansClip 15 zone40 4294967295 65535 255).fits = true ∧ (Command.ict 255 31).fits = true
      ∧ (Command.cnc zone40 0#32 4294967295).fits = true := by decide +kernel

/-! ## Streams -/

theorem test_witness_ans_refused :
    resultOf (.ansClip head 0 zone0 0 1 0) zoned = .refused .argument
      ∧ resultOf (.ansClip head 8 zone0 0 1 0) zoned = .refused .argument
      ∧ resultOf (.ansClip head 4 zone0 0 1 16) zoned = .refused .argument
      ∧ resultOf (.ansClip head 4 zone0 268435409 1 0) zoned = .refused .argument
      ∧ resultOf (.ansGroup head 4 zone0 15) zoned = .refused .argument
      ∧ resultOf (.ansLive head 6 zone0) (inAlarm .muster zoned) = .refused .alarm
      ∧ resultOf (.ansClip head 7 zone0 0 1 0) zoned = .refused .notPinned
      ∧ resultOf (.ansLive head 6 zone0) paged = .refused .state
      ∧ resultOf (.ansLive head 6 zone0) { zoned with
          streams := zoned.streams.map fun r => { r with state := .ending } } = .refused .noStream
      ∧ resultOf (.ansLive head 6 { lo := 2#32, hi := 0#32 }) zoned = .refused .argument := by decide +kernel

theorem test_witness_ans_started :
    resultOf (.ansClip head 4 zone0 268435408 1 15) zoned = .accepted 256
      ∧ resultOf (.ansLive head 7 { lo := 1#32, hi := 0x100#32 }) (inAlarm .muster zoned) = .accepted 512
      ∧ resultOf (.ansGroup head 5 zone0 4) (manned.setZone 0 { publicEntry with bound := some 1 }) = .accepted 256
      ∧ ((after (.ansClip head 5 zone0 0 2 0) playing).stream 1).endCause = .preempted
      ∧ ((after (.ansClip head 5 zone0 0 2 0) playing).zone 0).bound = some 0
      ∧ (after (.ansClip head 5 zone0 0 2 0) playing).transit.ownQueue.map (fun q => q.addr) = [0, 16, 32]
      ∧ ((after (.ansClip head 4 zone0 268435408 1 15) zoned).stream 0).passUnderFetch = 1 := by decide +kernel

theorem test_witness_anx :
    resultOf (.anx head 8) playing = .refused .argument ∧ resultOf (.anx head 7) playing = .refused .state
      ∧ resultOf (.anx head 1) playing = .accepted 1 ∧ ((after (.anx head 1) playing).stream 1).endCause = .aborted
      ∧ resultOf (.anx head 1) (playing.setStream 1 { clipRecord with owner := .showCue 2 }) = .refused .state := by
  decide +kernel

theorem test_witness_pgc :
    resultOf (.pgc head) paged = .accepted 2 ∧ ((after (.pgc head) paged).stream 2).closing = true
      ∧ resultOf (.pgc head) zoned = .refused .state := by decide +kernel

theorem test_witness_endStream :
    (playing.stream 1).state = .playing ∧ (playing.stream 0).state = .free
      ∧ (playing.endStream .aborted 1).lastEnded = some { index := 1, cause := .aborted, owner := .announce } := by
  decide +kernel

/-! ## Talk, listen, the alarm, supervision, pins -/

theorem test_witness_ict_refused :
    resultOf (.ict head 32 4) manned = .refused .argument ∧ resultOf (.ict head 10 16) manned = .refused .argument
      ∧ resultOf (.ict head 31 4) manned = .refused .state ∧ resultOf (.ict head 10 5) manned = .refused .argument
      ∧ resultOf (.ict head 10 4) { manned with
          stations := (manned.stations.map fun r => { r with talk := some 4 }).set 10 stationRecord }
        = .refused .contention := by decide +kernel

/-- 10.5: the talk-off takes out what the station put into the period in progress. -/
theorem test_witness_ict_moved :
    resultOf (.ict head 10 4) speaking = .accepted 1 ∧ resultOf (.ict head 10 4) manned = .accepted 1
      ∧ resultOf (.ict head 10 7) speaking = .accepted 1
      ∧ ((after (.ict head 10 7) speaking).group 4).filling.get 5 = 100000
      ∧ resultOf (.ict head 10 31) speaking = .accepted 0 := by decide +kernel

theorem test_witness_icl :
    resultOf (.icl head 32 0x90#32) manned = .refused .argument
      ∧ resultOf (.icl head 10 0x10000#32) manned = .refused .argument
      ∧ resultOf (.icl head 11 0x90#32) manned = .refused .state ∧ resultOf (.icl head 10 1#32) manned = .refused .argument
      ∧ resultOf (.icl head 10 0x80#32) speaking = .refused .argument
      ∧ resultOf (.icl head 10 0x90#32) speaking = .accepted 2 := by decide +kernel

theorem test_witness_alarmCommands :
    resultOf (.als head) (inAlarm .sounding zoned) = .refused .state
      ∧ resultOf (.als head) { zoned with clock := { zoned.clock with tickCount := 70000 } } = .accepted 4464
      ∧ resultOf (.asi head) zoned = .refused .state ∧ resultOf (.asi head) (inAlarm .sounding zoned) = .accepted 0
      ∧ (after (.asi head) (inAlarm .sounding zoned)).alarm.state = .muster
      ∧ resultOf (.aen head) zoned = .refused .state ∧ resultOf (.aen head) (inAlarm .muster zoned) = .accepted 0
      ∧ (after (.aen head) (inAlarm .muster zoned)).alarm.state = .quiet := by decide +kernel

/-- 10.4: a running show at the entry into SOUNDING; the ramp from 2048 steps by −85. -/
theorem test_witness_enterSounding :
    let s := showing .running 0 [cueOf .go 0 .note 0#32 0#32 0#32]
    (s.enterSounding .panel).theatre.holdCause = some .alarm
      ∧ ((s.enterSounding .panel).zone 40).ramp = some { step := -85, ticksLeft := 24 }
      ∧ (heldShow.enterSounding .command).theatre.holdCause = some .alarm
      ∧ ((playing.enterSounding .command).stream 1).endCause = .alarm
      ∧ (zoned.enterSounding .command).theatre.state = .idle := by decide +kernel

theorem test_witness_svrAndCnc :
    resultOf (.svr head zone40) (inAlarm .muster zoned) = .refused .alarm
      ∧ resultOf (.svr head { lo := 0xFFFFFFFF#32, hi := 0xFFFFFFFF#32 }) zoned = .accepted 2
      ∧ resultOf (.cnc head zone0 0#32 2) zoned = .refused .argument
      ∧ resultOf (.cnc head zone0 0xFFFFFFFF#32 0) zoned = .accepted 34 := by decide +kernel

theorem test_witness_pin :
    resultOf (.pin head 131072 1) zoned = .refused .argument ∧ resultOf (.pin head 268435455 2) zoned = .refused .argument
      ∧ resultOf (.pin head 0 0) zoned = .refused .argument ∧ resultOf (.pin head 4194304 1048577) zoned = .refused .argument
      ∧ resultOf (.pin head 268435455 1) zoned = .accepted 0 ∧ resultOf (.pin head 4194304 1048576) zoned = .accepted 0
      ∧ resultOf (.pin head 300000 1) (after (.writeRequest 2 299985 (List.replicate 16 whole)) zoned)
        = .refused .contention := by decide +kernel

def emergency : State := pinnedState.setStream 0 { clipRecord with priority := 7, clipBase := 16777216, clipPeriods := 10 }

theorem test_witness_unp :
    resultOf (.unp head 8) pinnedState = .refused .argument ∧ resultOf (.unp head 0) pinnedState = .refused .argument
      ∧ resultOf (.unp head 3) (inAlarm .muster pinnedState) = .refused .alarm
      ∧ resultOf (.unp head 3) emergency = .refused .state ∧ resultOf (.unp head 3) pinnedState = .accepted 3 := by
  decide +kernel

/-! ## The show: the examples of 9.5 to 9.7 -/

/-- The first cues of the short show of 9.5. -/
def shortShow : List Cue :=
  [cueOf .go 0 .play 0#32 0x300#32 0x00640010#32, cueOf .follow 0 .note 0#32 0#32 0#32,
    cueOf .mark 300 .fade 0#32 0x300#32 0x01F40400#32, cueOf .mark 301 .halt 0#32 0#32 0#32,
    cueOf .follow 2000 .endShow 0#32 0#32 0#32]

def atMark (d : Nat) (s : State) : State := { s with clock := { s.clock with markCount := d } }

theorem test_witness_shg :
    resultOf (.shg head) zoned = .refused .state ∧ resultOf (.shg head) heldShow = .refused .state
      ∧ resultOf (.shg head) (inAlarm .muster (showing .stopped 0 shortShow)) = .refused .alarm
      ∧ resultOf (.shg head) (showing .stopped 5 shortShow) = .accepted 0
      ∧ resultOf (.shg head) (showing .running 0 shortShow) = .accepted 2
      ∧ resultOf (.shg head) (showing .running 2 shortShow) = .refused .state
      ∧ resultOf (.shg head) (showing .running 5 shortShow) = .refused .state := by decide +kernel

theorem test_witness_shhAndShs :
    resultOf (.shh head) (showing .stopped 0 shortShow) = .refused .state
      ∧ resultOf (.shh head) (showing .running 2 shortShow) = .accepted 2
      ∧ (after (.shh head) (showing .running 2 shortShow)).theatre.holdCause = some .command
      ∧ resultOf (.shs head) zoned = .refused .state ∧ resultOf (.shs head) (showing .running 2 shortShow) = .accepted 0
      ∧ ((after (.shs head) (showing .running 2 shortShow)).zone 40).level = 4096 := by decide +kernel

theorem test_witness_shr :
    resultOf (.shr head) (showing .running 2 shortShow) = .refused .state
      ∧ resultOf (.shr head) (inAlarm .muster heldShow) = .refused .alarm ∧ resultOf (.shr head) heldShow = .accepted 0
      ∧ (after (.shr head) heldShow).theatre.state = .running ∧ (after (.shr head) heldShow).theatre.follow = 7
      ∧ ((after (.shr head) (heldShow.setZone 40 { theatreEntry with level := 0 })).zone 40).ramp
        = some { step := 21, ticksLeft := 48 } := by decide +kernel

theorem test_witness_consider :
    (showing .stopped 0 shortShow).consider.theatre.pointer = 0 ∧ (showing .running 0 shortShow).consider.theatre.pointer = 0
      ∧ (showing .running 1 shortShow).consider.theatre.pointer = 2
      ∧ (atMark 299 (showing .running 2 shortShow)).consider.theatre.pointer = 2
      ∧ (atMark 300 (showing .running 2 shortShow)).consider.theatre.pointer = 3
      ∧ ((atMark 302 (showing .running 2 shortShow)).consider.theatre.cue 2).state = .fired
      ∧ ((atMark 303 (showing .running 2 shortShow)).consider.theatre.cue 2).state = .skipped
      ∧ (withShow (showing .running 4 shortShow) { (showing .running 4 shortShow).theatre with follow := 1 }).consider.theatre.pointer
        = 4 := by decide +kernel

theorem test_witness_fire :
    (showing .running 1 shortShow).fireCue.theatre.pointer = 2
      ∧ ((showing .running 2 shortShow).fireCue.zone 40).ramp = some { step := -2, ticksLeft := 500 }
      ∧ ((showing .running 0 [cueOf .go 0 .fade 0#32 0x100#32 4097#32]).fireCue.theatre.cue 0).state = .faulted
      ∧ ((showing .running 0 [cueOf .go 0 .fade 0#32 0x100#32 4096#32]).fireCue.theatre.cue 0).state = .fired
      ∧ ((showing .running 0 shortShow).fireCue.stream 0).owner = .showCue 0
      ∧ ((showing .running 0 [cueOf .go 0 .play 0#32 0x100#32 0x0002FFFF#32]).fireCue.theatre.cue 0).state = .fired
      ∧ ((showing .running 0 [cueOf .go 0 .play 0#32 0x100#32 0x0056FFFF#32]).fireCue.theatre.cue 0).state = .faulted
      ∧ ((showing .running 0 [cueOf .go 0 .play 0#32 0#32 0x00020000#32]).fireCue.theatre.cue 0).state = .faulted
      ∧ (showing .running 4 shortShow).fireCue.theatre.state = .stopped := by decide +kernel

theorem test_witness_fire_noRecord :
    (State.fireCue { showing .running 0 shortShow with
      streams := (showing .running 0 shortShow).streams.map fun r => { r with state := .ending } }).theatre.cues.get 0
      = { shortShow.head! with state := .faulted } := by decide +kernel

theorem test_witness_stops :
    ((State.setStream heldShow 1 { clipRecord with owner := .showCue 3 }).clearShow.stream 1).endCause = .stopped
      ∧ (((State.setStream heldShow 1 { clipRecord with owner := .showCue 3 }).endCueStream 3).stream 1).endCause = .stopped
      ∧ (((State.setStream heldShow 1 { clipRecord with owner := .showCue 3 }).endCueStream 2).stream 1).state = .playing
      ∧ heldShow.clearShow.theatre.state = .stopped ∧ zoned.clearShow.theatre.state = .idle := by decide +kernel

theorem test_witness_rst :
    resultOf (.rstAll head) (inAlarm .muster playing) = .refused .alarm
      ∧ resultOf (.rstIntercom head) (inAlarm .sounding playing) = .refused .alarm
      ∧ resultOf (.rstAll head) playing = .accepted 0 ∧ ((after (.rstAll head) playing).stream 1).endCause = .restart
      ∧ (after (.rstAll head) playing).busyWord = 3#32 ∧ (after (.rstAll head) zoned).busyWord = 2#32
      ∧ resultOf (.rstIntercom head) speaking = .accepted 0 ∧ ((after (.rstIntercom head) speaking).station 10).talk = none
      ∧ resultOf (.rstShow head) (inAlarm .muster heldShow) = .accepted 0
      ∧ (after (.rstShow head) heldShow).theatre.state = .stopped ∧ (after (.rstShow head) heldShow).busyWord = 0#32 := by
  decide +kernel

/-- What an RST reaches of the transit unit and the page. -/
theorem test_witness_rst_frame :
    let s := playing.setStream 2 { StreamRecord.reset with state := .starting, source := .live, priority := 6 }
    let read (n : Nat) : OwnRequest := { stream := n, pass := 0, period := 2, part := 0, addr := 4192 }
    let q : State := { s with
      transit := { s.transit with ownQueue := [read 1, read 3] }, page := { s.page with capture := some 4, dropped := 9 } }
    (after (.rstAll head) q).transit.ownQueue = [read 3] ∧ (after (.rstAll head) q).page = { q.page with capture := none }
      ∧ (after (.rstAll head) q).lastEnded = some { index := 2, cause := .restart, owner := .announce }
      ∧ (after (.rstShow head) q).transit.ownQueue = [read 1, read 3] ∧ (after (.rstShow head) q).page = q.page := by
  decide +kernel

/-! ## The clock (the examples of chapter 4) -/

def onLine (off : Nat) : State := { atTick zoned with clock := { (atTick zoned).clock with source := .line, offRun := off } }

def onReference (good : Nat) : State :=
  { atTick zoned with clock := { (atTick zoned).clock with goodRun := good, edgeSeen := true } }

def clockOf (c : Instr) (s : State) : ClockSource × Nat × Nat × Nat × Nat :=
  let k := (after c s).clock
  (k.source, k.tickPhase, k.tickCount, k.offRun, k.goodRun)

theorem test_witness_line :
    clockOf (.sampleClockEdge 1010000 order) (onLine 5) = (.line, 0, 1, 0, 0)
      ∧ clockOf (.sampleClockEdge 989999 order) (onLine 5) = (.line, 0, 1, 6, 0)
      ∧ clockOf (.sampleClockEdge 1010001 order) (onLine 47) = (.reference, 0, 1, 0, 0)
      ∧ clockOf (.gapExpiry order) (onLine 5) = (.reference, 2, 1, 0, 0)
      ∧ clockOf (.internalStep order) (onLine 5) = (.line, 47, 0, 5, 0)
      ∧ (after (.gapExpiry order) (onLine 5)).control.inService = some .clock := by decide +kernel

theorem test_witness_reference :
    clockOf (.internalStep order) (onReference 7) = (.reference, 0, 1, 0, 7)
      ∧ clockOf (.sampleClockEdge 990000 order) (onReference 478) = (.reference, 47, 0, 0, 479)
      ∧ clockOf (.sampleClockEdge 990000 order) (onReference 479) = (.line, 47, 0, 0, 0)
      ∧ clockOf (.sampleClockEdge 989999 order) (onReference 479) = (.reference, 47, 0, 0, 0) := by
  decide +kernel

/-- R75: a step, three credited steps, the last count, and a window that closes at the second of three credited steps. -/
theorem test_witness_stepCount :
    let at' (source : ClockSource) (lock : LockState) (count : Nat) : State := { zoned with clock := { zoned.clock with
      source := source, lock := lock, lockedInterval := 1600, stepCount := count } }
    (after (.internalStep order) (at' .reference .locked 1614)).clock.stepCount = 1615
      ∧ (after (.sampleClockEdge 1000000 order) (at' .line .free 7)).clock.stepCount = 8
      ∧ (after (.gapExpiry order) (at' .line .acquiring 65533)).clock.stepCount = 65535
      ∧ (after (.gapExpiry order) (at' .line .locked 1614)).clock.stepCount = 17
      ∧ (after (.gapExpiry order) (at' .line .locked 1614)).clock.lock = .holdover := by decide +kernel

/-- The first edge has no gap; an expiry under INTERNAL and a step in reset do nothing. -/
theorem test_witness_reference_idle :
    clockOf (.sampleClockEdge 1000000 order) (atTick zoned) = (.reference, 47, 0, 0, 0)
      ∧ (after (.sampleClockEdge 1000000 order) (atTick zoned)).clock.edgeSeen = true
      ∧ clockOf (.gapExpiry order) (onReference 7) = (.reference, 47, 0, 0, 7)
      ∧ clockOf (.internalStep order) (after (.fullReset .line) (onReference 7)) = (.reference, 0, 0, 0, 0) := by decide +kernel

/-- 10.5, tick 1, and what is left alone where no tick is made. -/
theorem test_witness_tick :
    (atTick speaking).ticksAt timeStep = true ∧ speaking.ticksAt timeStep = false
      ∧ ((after (.tick timeStep) (atTick speaking)).group 4).ready.get 5 = 500000
      ∧ ((after (.tick timeStep) (atTick speaking)).station 10).readyGroup = some 4
      ∧ ((after (.tick timeStep) (atTick speaking)).zone 0).watch = 19
      ∧ (after (.tick timeStep) speaking).clock.tickPhase = 0
      ∧ (onLine 0).ticksAt (.gapExpiry order) = true := by decide +kernel

def groupStream (queue : List Slot) : State :=
  (conferring.setGroup 4 { GroupRecord.reset with defined := true, gain := 2048, ready := (Bank.fill 48 0).set 5 550001 }).setStream
    6 { StreamRecord.reset with state := .playing, source := .group, group := 4, queue := queue, current := true }

theorem test_witness_groupOffer :
    (((groupStream [readySlot 0 0]).offerGroup 4).stream 6).queue.length = 2
      ∧ ((groupStream []).completedPeriod 4).get 5 = 275000#32
      ∧ ((inAlarm .muster (groupStream [])).completedPeriod 4).get 5 = 0#32
      ∧ (((groupStream [readySlot 0 0, readySlot 0 1, readySlot 0 2, readySlot 0 3]).offerGroup 4).stream 6).droppedCount = 1
      ∧ (((groupStream []).offerGroup 7).stream 6).queue = [] := by decide +kernel

def allBusy (s : State) : State :=
  { s with control := { s.control with busyStream := true, busyIntercom := true, busyShow := true } }

/-- One tick before record 6 is offered group 4's period, with this queue and no slot current. -/
def offering (queue : List Slot) : State :=
  atTick ((manned.setGroup 4 { GroupRecord.reset with defined := true, gain := 2048, filling := (Bank.fill 48 0).set 5 550001 }).setStream
    6 { StreamRecord.reset with state := .playing, source := .group, group := 4, queue := queue })

def fullQueue : List Slot := [readySlot 0 0, readySlot 0 1, readySlot 0 2, readySlot 0 3]

def playingCurrent (s : State) (n : Nat) : State := s.setStream n { s.stream n with current := true }

theorem test_witness_groupTick :
    let r (s : State) : StreamRecord := (after (.tick timeStep) s).stream 6
    (offering []).showRests = true ∧ (offering []).panelRests = true
      ∧ (r (offering [])).queue.map (fun x => x.ready) = [true]
      ∧ (r (offering fullQueue)).queue.length = 4 ∧ (r (offering fullQueue)).droppedCount = 1
      ∧ (r (playingCurrent (offering fullQueue) 6)).queue.length = 4 ∧ (r (playingCurrent (offering fullQueue) 6)).droppedCount = 0
      ∧ (r (allBusy (offering []))).queue = [] := by decide +kernel

/-- A show clock in this lock state with this step count. -/
def marked (lock : LockState) (steps run synthesized : Nat) : State :=
  { zoned with clock := { zoned.clock with
      lock := lock, stepCount := steps, acquisitionRun := run, previousInterval := 1601, lockedInterval := 1600,
      synthesized := synthesized, markCount := 16777215 } }

def lockOf (s : State) : LockState × Nat × Nat × Nat := (s.clock.lock, s.clock.stepCount, s.clock.synthesized, s.clock.markCount)

theorem test_witness_showMark :
    lockOf (after .showMark (marked .free 9 0 0)) = (.acquiring, 0, 0, 0)
      ∧ (after .showMark (marked .acquiring 1605 3 0)).clock.acquisitionRun = 4
      ∧ (after .showMark (marked .acquiring 1606 3 0)).clock.acquisitionRun = 1
      ∧ (after .showMark (marked .acquiring 2001 3 0)).clock.acquisitionRun = 0
      ∧ lockOf (after .showMark (marked .acquiring 1602 5 0)) = (.locked, 0, 0, 0)
      ∧ (after .showMark (marked .acquiring 1602 5 0)).clock.lockedInterval = 1602
      ∧ lockOf (after .showMark (marked .locked 1584 0 0)) = (.locked, 0, 0, 0)
      ∧ lockOf (after .showMark (marked .locked 1583 0 0)) = (.holdover, 0, 0, 0)
      ∧ lockOf (after .showMark (marked .holdover 1583 0 4)) = (.holdover, 1583, 4, 16777215)
      ∧ lockOf (after .showMark (marked .holdover 1584 0 4)) = (.locked, 0, 0, 0)
      ∧ lockOf (after .showMark (after (.fullReset .line) (marked .free 9 0 0))) = (.free, 0, 0, 0) := by decide +kernel

theorem test_witness_windowCloses :
    (marked .locked 1615 0 0).windowCloses = true
      ∧ lockOf (after (.lockExpiry timeStep) (marked .locked 1615 0 0)) = (.holdover, 16, 1, 0)
      ∧ lockOf (after (.lockExpiry timeStep) (marked .locked 1614 0 0)) = (.locked, 1614, 0, 16777215)
      ∧ lockOf (after (.holdoverWindowClose timeStep) (marked .holdover 1615 0 22)) = (.holdover, 16, 23, 0)
      ∧ (after (.holdoverWindowClose timeStep) (marked .holdover 1615 0 23)).clock.lock = .free := by decide +kernel

/-! ## The panel, the pattern, the watch -/

/-- One tick before the line state of these levels is seen, in this decoder state. -/
def seeing (d : DecoderState) (a b : Bool) (alarm : AlarmState) : State :=
  let s := inAlarm alarm (atTick zoned)
  { s with lines := { s.lines with panelA := a, panelB := b },
           alarm := { s.alarm with decoder := d, holdCount := 19, window := if d = .attended then 100 else 0 } }

def seenOf (s : State) : DecoderState × Nat × AlarmState × Bool :=
  let a := (after (.lineStateSeen timeStep) s).alarm
  (a.decoder, a.window, a.state, a.panelAbort)

theorem test_witness_panel_idle :
    seenOf (seeing .idle false true .quiet) = (.attended, 3000, .quiet, false)
      ∧ seenOf (seeing .idle true false .sounding) = (.idle, 0, .muster, false)
      ∧ seenOf (seeing .idle true false .quiet) = (.idle, 0, .quiet, false)
      ∧ seenOf (seeing .idle false false .quiet) = (.idle, 0, .quiet, false)
      ∧ seenOf (seeing .idle true true .quiet) = (.idle, 0, .quiet, false) := by decide +kernel

theorem test_witness_panel_attended :
    seenOf (seeing .attended false false .quiet) = (.latched, 0, .sounding, false)
      ∧ seenOf (seeing .attended false false .sounding) = (.latched, 0, .sounding, false)
      ∧ seenOf (seeing .attended true true .quiet) = (.idle, 0, .quiet, true)
      ∧ seenOf (seeing .attended true false .sounding) = (.attended, 99, .muster, false)
      ∧ seenOf (seeing .attended false true .quiet) = (.attended, 99, .quiet, false) := by decide +kernel

theorem test_witness_panel_latched :
    seenOf (seeing .latched true true .quiet) = (.idle, 0, .quiet, false)
      ∧ seenOf (seeing .latched true false .sounding) = (.latched, 0, .muster, false)
      ∧ seenOf (seeing .latched false true .quiet) = (.latched, 0, .quiet, false)
      ∧ seenOf (seeing .latched false false .quiet) = (.latched, 0, .quiet, false) := by decide +kernel

theorem test_witness_panelLines :
    (after (.panelLineChange true true) (seeing .idle true true .quiet)).alarm.holdCount = 19
      ∧ (after (.panelLineChange false true) (seeing .idle true true .quiet)).alarm.holdCount = 0
      ∧ (after (.panelLineChange false true) (seeing .idle true true .quiet)).lines.panelA = false := by decide +kernel

def expiring (hold : Nat) : State :=
  let s := seeing .attended false true .quiet
  { s with alarm := { s.alarm with holdCount := hold, window := 1 } }

theorem test_witness_window :
    (after (.attentionWindowExpiry timeStep) (expiring 20)).alarm.panelAbort = true
      ∧ (after (.attentionWindowExpiry timeStep) (expiring 19)).alarm.decoder = .idle
      ∧ (after (.attentionWindowExpiry timeStep) (seeing .attended false true .quiet)).alarm.decoder = .attended := by
  decide +kernel

theorem test_witness_panelTick :
    let alarm (s : State) : AlarmUnit := (after (.tick timeStep) s).alarm
    (alarm (atTick zoned)).holdCount = 1 ∧ (alarm (expiring 18)).holdCount = 19 ∧ (alarm (expiring 20)).holdCount = 20
      ∧ (alarm (seeing .attended false true .quiet)).window = 99
      ∧ (seeing .attended false true .quiet).panelRests = false ∧ (atTick zoned).panelRests = true
      ∧ (alarm (inAlarm .muster (atTick zoned))).state = .muster := by decide +kernel

theorem test_witness_patternTick :
    let alarm (s : State) : AlarmUnit := (after (.tick timeStep) s).alarm
    (alarm (inAlarm .sounding (atTick zoned))).elapsed = 1 ∧ (alarm (inAlarm .sounding (atTick zoned))).phase = 38400
      ∧ (alarm (inAlarm .muster (atTick zoned))).elapsed = 0
      ∧ ((after (.tick timeStep) (atTick zoned)).zone 40).silent = false := by decide +kernel

/-- 7.4: the last tick of the last segment of the default pattern. -/
theorem test_witness_segment :
    let s := inAlarm .sounding (atTick zoned)
    (after (.segmentAdvance timeStep) { s with alarm := { s.alarm with segment := 15, elapsed := 1999 } }).alarm.segment = 0
      ∧ (after (.segmentAdvance timeStep) { s with alarm := { s.alarm with elapsed := 999 } }).alarm.segment = 1
      ∧ (after (.segmentAdvance timeStep) { s with alarm := { s.alarm with elapsed := 998 } }).alarm.elapsed = 998
      ∧ (after (.tick timeStep) s).alarm.phase = 38400 := by decide +kernel

theorem test_witness_silent :
    let s := atTick (zoned.setZone 0 { publicEntry with watch := 1, silentEvents := 127, fallbackGroup := some 7 })
    let t := after (.zoneSilent 0 timeStep) (inAlarm .muster s)
    (t.zone 0).silent = true ∧ (t.zone 0).silentEvents = 128 ∧ t.alarm.fallback.get 7 = true
      ∧ t.control.pendingNotices.get 1 = true ∧ t.control.pendingNotices.get 7 = true
      ∧ ((after (.zoneSilent 40 timeStep) s).zone 40).watch = 20 := by decide +kernel

/-! ## What comes about at a tick -/

theorem test_witness_clipComplete :
    let s := atTick (playing.setStream 1 { clipRecord with periodsLeft := 1 })
    s.showRests = true ∧ s.panelRests = true
      ∧ ((after (.clipComplete 1 timeStep) s).stream 1).endCause = .complete
      ∧ ((after (.clipComplete 1 timeStep) (atTick playing)).stream 1).state = .playing := by decide +kernel

theorem test_witness_pageTimeout :
    let r := { paged.stream 2 with starvedRun := 249 }
    ((after (.pageTimeout 2 timeStep) (atTick (paged.setStream 2 r))).stream 2).endCause = .pageTimeout
      ∧ ((after (.pageTimeout 2 timeStep) (atTick (paged.setStream 2 { r with state := .playing }))).stream 2).endCause
        = .pageTimeout
      ∧ ((after (.pageTimeout 2 timeStep) (atTick paged)).stream 2).state = .starting := by decide +kernel

/-- 5.4: promoted and fetched again, starved, begun, standing, emptied. -/
theorem test_witness_streamTick :
    let r (s : State) (n : Nat) : StreamRecord := (after (.tick timeStep) (atTick s)).stream n
    let clip (q : List Slot) : State := zoned.setStream 1 { clipRecord with queue := q }
    (r (clip [readySlot 0 0, readySlot 1 1]) 1).current = true
      ∧ ((r (clip [readySlot 0 0, readySlot 1 1]) 1).queue.map fun x => (x.ready, x.period)) = [(true, 1), (false, 2)]
      ∧ (r (clip [readySlot 0 0, readySlot 1 1]) 1).nextFetch = 3
      ∧ (after (.tick timeStep) (atTick (clip [readySlot 0 0, readySlot 1 1]))).transit.ownQueue.map (fun q => q.addr)
        = [4192, 4208, 4224]
      ∧ r playing 1 = { clipRecord with
          queue := [fillingSlot 1 2 1], current := false, periodsLeft := 9, starvedCount := 1 }
      ∧ (r (zoned.setStream 1 { clipRecord with state := .starting, current := false }) 1).state = .playing
      ∧ r (zoned.setStream 1 { clipRecord with state := .paused }) 1 = { clipRecord with state := .paused }
      ∧ (r (ending playing 1 false) 1).drained = true ∧ (r (ending playing 1 false) 1).state = .ending
      ∧ r paged 2 = { paged.stream 2 with starvedRun := 1 }
      ∧ (r (paged.setStream 2 { paged.stream 2 with closing := true }) 2).endCause = .complete := by decide +kernel

theorem test_witness_streamFree :
    let s := atTick (ending paged 2 false)
    s.inFlight 2 = 0 ∧ ((after (.streamFree 2 (.time timeStep)) s).stream 2).state = .free
      ∧ ((after (.streamFree 2 (.time timeStep)) s).zone 0).bound = none
      ∧ ((after (.streamFree 1 (.response 32 .ok [])) (ending playing 1 true)).stream 1).state = .free
      ∧ ((after (.streamFree 1 (.response 32 .ok [])) (ending playing 1 false)).stream 1).state = .ending := by decide +kernel

theorem test_witness_busyEnd :
    (after (.busyEnd .intercom (.time timeStep)) (atTick (allBusy playing))).busyWord = 1#32
      ∧ (after (.busyEnd .stream (.time timeStep)) (atTick (allBusy (ending paged 2 false)))).busyWord = 0#32
      ∧ (after (.busyEnd .stream (.response 32 .ok [])) (allBusy (ending playing 1 true))).busyWord = 2#32
      ∧ (after (.busyEnd .showEngine (.response 32 .ok [])) (allBusy (ending (playing.setStream 1
          { clipRecord with owner := .showCue 3 }) 1 true))).busyWord = 2#32
      ∧ (after (.busyEnd .showEngine (.time timeStep)) (atTick (allBusy (ending (paged.setStream 2
          { paged.stream 2 with owner := .showCue 3 }) 2 false)))).busyWord = 0#32 := by decide +kernel

/-- 9.6: a fade of 4096 to 1024 over 5 ticks. -/
theorem test_witness_ramp :
    let e := ({ theatreEntry with level := 4096 } : ZoneEntry).startRamp 1024 5
    e.ramp = some { step := -614, ticksLeft := 5 } ∧ e.stepRamp.stepRamp.stepRamp.level = 2254
      ∧ e.stepRamp.stepRamp.stepRamp.stepRamp.stepRamp = { theatreEntry with level := 1024, levelTarget := 1024 }
      ∧ (theatreEntry.startRamp 4096 0).level = 4096 := by decide +kernel

theorem test_witness_followExpiry :
    let s := atTick (showing .running 4 shortShow)
    s.panelRests = true
      ∧ (after (.followExpiry timeStep) (withShow s { s.theatre with follow := 1 })).theatre.state = .stopped
      ∧ ((after (.followExpiry timeStep) (withShow s { s.theatre with follow := 1 })).theatre.cue 4).state = .fired
      ∧ (after (.followExpiry timeStep) (withShow s { s.theatre with follow := 2 })).theatre.follow = 2 := by decide +kernel

theorem test_witness_rampEnd :
    let s := atTick (zoned.setZone 40 { theatreEntry with levelTarget := 1024, ramp := some { step := -9, ticksLeft := 1 } })
    s.showRests = true ∧ ((after (.levelRampEnd 40 timeStep) s).zone 40).level = 1024
      ∧ ((after (.levelRampEnd 40 timeStep) s).zone 40).ramp = none
      ∧ ((after (.levelRampEnd 0 timeStep) s).zone 40).level = 2048 := by decide +kernel

theorem test_witness_rampTick :
    let s := atTick (zoned.setZone 40 { theatreEntry with levelTarget := 1024, ramp := some { step := -9, ticksLeft := 2 } })
    let follow := atTick (showing .running 4 shortShow)
    s.showRests = true ∧ ((after (.tick timeStep) s).zone 40).level = 2039
      ∧ ((after (.tick timeStep) s).zone 40).ramp = some { step := -9, ticksLeft := 1 }
      ∧ (after (.tick timeStep) (withShow follow { follow.theatre with follow := 2 })).theatre.follow = 1
      ∧ ((after (.tick timeStep) (withShow follow { follow.theatre with follow := 2 })).theatre.cue 4).state = .waiting := by
  decide +kernel

/-- A waiting GO cue, and a MARK cue that is not due, at a tick. -/
theorem test_witness_waitTick :
    let ramped (c : Cue) (steps : Nat) : State :=
      let s := atTick ((showing .running 0 [c]).setZone 40 { theatreEntry with
        levelTarget := 1024, ramp := some { step := -9, ticksLeft := 2 } })
      { s with clock := { s.clock with stepCount := steps } }
    let waits (s : State) : Bool :=
      ((after (.tick timeStep) s).zone 40).level == 2039 && (after (.tick timeStep) s).theatre == s.theatre
    waits (ramped (cueOf .go 0 .note 0#32 0#32 0#32) 0) = true
      ∧ waits (ramped (cueOf .mark 1 .note 0#32 0#32 0#32) 1614) = true
      ∧ waits (ramped (cueOf .mark 2 .note 0#32 0#32 0#32) 1615) = true
      ∧ waits (ramped (cueOf .mark 1 .note 0#32 0#32 0#32) 1615) = false := by decide +kernel

/-! ## Words of the rings -/

def senseEntry : ZoneEntry :=
  { publicEntry with sensePresent := true, senseBase := 139264, senseLag := 3, pilotLevel := 64, pilotPattern := 4 }

def sensed (e : ZoneEntry) : State := anchored.setZone 7 e

/-- 8.2: the word at position 0 under lag 3 is compared with element 45, −1. -/
theorem test_witness_sense :
    (sensed senseEntry).classify 139264 = .sense 7 0 ∧ (sensed senseEntry).accepts 1 = true
      ∧ ((after (.writeRequest 1 139264 [wholeWord (-1)]) (sensed senseEntry)).zone 7).tally = 1
      ∧ ((after (.writeRequest 1 139264 [whole]) (sensed senseEntry)).zone 7).tally = 0
      ∧ ((after (.writeRequest 1 139264 [{ data := -1, lanes := 7#4 }]) (sensed senseEntry)).zone 7).tally = 0
      ∧ ((after (.writeRequest 1 139264 [whole, wholeWord (-1)]) (sensed senseEntry)).zone 7).tally = 0
      ∧ (after (.writeRequest 1 139264 [whole]) (sensed { senseEntry with pilotLevel := 0 })).zone 7
        = { senseEntry with pilotLevel := 0 } := by decide +kernel

def verdictOf (e : ZoneEntry) : Verdict × Nat × Nat × Nat :=
  let r := ((sensed e).closeSense 7).zone 7
  (r.verdict, r.passRun, r.failRun, r.failingPeriods)

theorem test_witness_verdict :
    verdictOf { senseEntry with tally := 36, passRun := 7 } = (.passing, 8, 0, 0)
      ∧ verdictOf { senseEntry with tally := 35, failRun := 15, failingPeriods := 127 } = (.failing, 0, 16, 128)
      ∧ verdictOf { senseEntry with tally := 35, failRun := 15, verdict := .passing } = (.failing, 0, 16, 1)
      ∧ verdictOf { senseEntry with tally := 36, passRun := 8, verdict := .failing } = (.passing, 8, 0, 0)
      ∧ verdictOf { senseEntry with tally := 36, passRun := 6, verdict := .failing } = (.failing, 7, 0, 0)
      ∧ ((sensed { senseEntry with tally := 35, failRun := 15 }).closeSense 7).control.pendingNotices.get 2 = true := by
  decide +kernel

/-- 6.7: a rewrite at one position, and a torn word. -/
theorem test_witness_microphone :
    speaking.classify 200005 = .microphone 10 5
      ∧ ((after (.writeRequest 1 200005 [wholeWord 150000#32]) speaking).group 4).filling.get 5 = 250000
      ∧ ((after (.writeRequest 1 200005 [{ data := 0#32, lanes := 7#4 }]) speaking).station 10).torn = 1
      ∧ ((after (.writeRequest 1 200005 [{ data := 0#32, lanes := 7#4 }]) (speaking.setStation 10
          { speaking.station 10 with torn := 127 })).control.pendingNotices.get 7) = true
      ∧ (after (.writeRequest 1 200005 [wholeWord 9#32]) manned).stations = manned.stations := by decide +kernel

theorem test_witness_pageStray :
    zoned.classify 66943 = .pageRing 383
      ∧ (after (.writeRequest 1 66943 [whole]) zoned).page = { capture := none, stray := some 7, dropped := 0, strayCount := 1 }
      ∧ (after (.writeRequest 1 66576 [whole]) { zoned with page := { zoned.page with stray := some 0 } }).page.strayCount = 0
      ∧ (after (.writeRequest 1 66560 [whole]) { zoned with page := { zoned.page with strayCount := 127 } }).control.pendingNotices.get
        7 = true := by decide +kernel

/-- A page with ring period 4 in capture. -/
def capturing : State :=
  let r := { paged.stream 2 with queue := [{ fillingSlot 0 0 3 with ringPeriod := 4 }] }
  { paged.setStream 2 r with page := { paged.page with capture := some 4 } }

theorem test_witness_pageCapture :
    capturing.openPage = some 2
      ∧ (((after (.writeRequest 1 66799 [wholeWord 8#32]) capturing).stream 2).queue.map fun x => x.ready) = [true]
      ∧ (((after (.writeRequest 1 66799 [wholeWord 8#32]) capturing).stream 2).buffers.get 3).get 47 = 8#32
      ∧ (((after (.writeRequest 1 66768 [wholeWord 8#32]) capturing).stream 2).buffers.get 3).get 16 = 8#32
      ∧ (after (.writeRequest 1 66816 [whole]) capturing).streams = capturing.streams := by decide +kernel

theorem test_witness_pageStart :
    (after (.writeRequest 1 66560 [whole]) paged).page.capture = some 0
      ∧ ((after (.writeRequest 1 66560 [whole]) paged).stream 2).queue.length = 1
      ∧ (after (.writeRequest 1 66800 [whole]) capturing).page.capture = some 5
      ∧ (after (.writeRequest 1 66800 [whole]) capturing).page.dropped = 1
      ∧ (after (.writeRequest 1 66560 [whole]) (paged.setStream 2 { paged.stream 2 with
          queue := [readySlot 0 0, readySlot 0 1, readySlot 0 2, readySlot 0 3] })).page
        = { capture := none, stray := none, dropped := 1, strayCount := 0 } := by decide +kernel

/-- R107: COUNTER at the drop that takes the page dropped counter from 127 to 128, and at none else. -/
theorem test_witness_pageDropCounter :
    let full (dropped : Nat) : State :=
      let s := paged.setStream 2 { paged.stream 2 with
        queue := [readySlot 0 0, readySlot 0 1, readySlot 0 2, readySlot 0 3] }
      { s with page := { s.page with dropped := dropped } }
    let posted (dropped : Nat) : Bool := (after (.writeRequest 1 66560 [whole]) (full dropped)).control.pendingNotices.get 7
    posted 126 = false ∧ posted 127 = true ∧ posted 128 = false := by decide +kernel

/-! ## The queue, and the laws -/

theorem test_witness_queue :
    (match step { zoned with pending := [.showMark, .arbiterIssue] } with
      | .next t => t.pending == [.arbiterIssue]
      | .fault f => nomatch f
      | .refused _ => false) = true
    ∧ (match step zoned with
      | .next t => t.clock == zoned.clock && t.pending == []
      | .fault f => nomatch f
      | .refused _ => false) = true := by decide +kernel

theorem test_witness_settled : noticed.settled = true ∧ (anchored.post .clock).settled = false := by decide +kernel

theorem test_witness_clockLaw : ClockLaw (marked .locked 1615 0 0) := by constructor <;> decide +kernel

theorem test_witness_counterLaw : CounterLaw (zoned.setZone 63 { publicEntry with silentEvents := 255 }) := by
  constructor <;> decide +kernel

theorem test_witness_alarmLaw : AlarmLaw (inAlarm .muster (paged.setStream 2 { paged.stream 2 with priority := 7 })) := by
  constructor <;> decide +kernel

theorem test_witness_streamLaw : StreamLaw playing := by constructor <;> decide +kernel

/-- Station 10 speaks in group 4, alone. -/
def talking : State :=
  (manned.setStation 10 { stationRecord with
    talk := some 4, listen := (Bank.fill 16 false).set 4 true, ownFilling := (Bank.fill 48 0).set 5 400000 }).setGroup 4
    { GroupRecord.reset with defined := true, essential := true, filling := (Bank.fill 48 0).set 5 400000 }

theorem test_witness_intercomLaw : IntercomLaw talking := by constructor <;> decide +kernel

theorem test_witness_groupSumLaw : GroupSumLaw talking := by constructor <;> decide +kernel

/-- A show held over zone 40 in the middle of a fade. -/
def fading : State := withShow (zoned.setZone 40 ({ theatreEntry with level := 4096 }.startRamp 1024 5)) heldShow.theatre

theorem test_witness_levelLaw : LevelLaw fading ∧ LevelLaw (zoned.setZone 40 { theatreEntry with level := 4096, levelTarget := 4096 }) := by
  constructor <;> constructor <;> decide +kernel

theorem test_witness_regionLaw : RegionLaw manned := by constructor <;> decide +kernel

end Sys2Proof.Tests
end

section
/-! SUPPORT. The transit path: reset, requests and responses at the two ports, arbitration. -/

namespace Sys2Proof.Machine

/-! ## The records of the reset state (R46 to R48, R108 to R110) -/

theorem reset_zone {z : Nat} (h : z < 64) : State.reset.zone z = ZoneEntry.reset := Bank.get_fill _ z h

theorem reset_stream {n : Nat} (h : n < 8) : State.reset.stream n = StreamRecord.reset := Bank.get_fill _ n h

theorem reset_station {n : Nat} (h : n < 32) : State.reset.station n = StationRecord.reset := Bank.get_fill _ n h

theorem reset_group {g : Nat} (h : g < 16) : State.reset.group g = GroupRecord.reset := Bank.get_fill _ g h

theorem reset_cue {n : Nat} (h : n < 256) : State.reset.theatre.cue n = Cue.reset := Bank.get_fill _ n h

/-! ## Full reset and draining (R20, R21) -/

/-- A part at its reset values has nothing to latch (R40, R46). -/
theorem settled_resetWith (cause : ResetCause) (drain : Nat) (lines : InputLines) (draws : Nat) (pending : List Instr) :
    (State.resetWith cause drain lines draws pending).settled = true := rfl

/-- FULL_RESET, for either cause (R20, R21). -/
theorem exec_fullReset (cause : ResetCause) (s : State) :
    exec (.fullReset cause) s
      = .next (State.resetWith cause (s.drainAfter cause) { s.lines with resetAsserted := true } s.freeDraws s.pending) := by
  have hlatch := latch_settled (s.begun.fullReset cause) (settled_resetWith ..)
  calc exec (.fullReset cause) s = .next (s.begun.fullReset cause).latch := rfl
    _ = .next (s.begun.fullReset cause) := by rw [hlatch]

/-- Settles O4: the reset is the record of reset values, which is settled; a response while the P-port is closed only drains. -/
theorem fullResetAndDrain : Obligations.FullResetAndDrain := by
  refine ⟨fun s => ⟨exec_fullReset .power s, exec_fullReset .line s⟩, fun s => rfl, fun s tag a closed => ?_⟩
  have hclosed : s.begun.portOpen = false := closed
  calc exec (.drainResponse tag a) s = .next (s.begun.memoryReturns tag a).latch := rfl
    _ = _ := by rw [memoryReturns_closed tag a hclosed]; rfl

/-- Settles O3: the reset state is a record of constants, and every cell of a filled bank is the constant it is filled with. -/
theorem resetHoldsTheManualsValues : Obligations.ResetHoldsTheManualsValues := by
  refine ⟨?transit, ?control, ?zones, ?clock, ?streams, ?intercom, ?alarm, ?theatre⟩
  case transit =>
    exact ⟨rfl, rfl, rfl, rfl, rfl, fun k h => ⟨Bank.get_fill _ k h, Bank.get_fill _ k h⟩, fun e h => Bank.get_fill _ e h⟩
  case control =>
    exact ⟨fun k h => Bank.get_fill _ k h, rfl, fun i h => ⟨Bank.get_fill _ i h, Bank.get_fill _ i h⟩, by decide, rfl,
      fun i h => ⟨Bank.get_fill _ i h, Bank.get_fill _ i h⟩, rfl, rfl, rfl, rfl, rfl, rfl, rfl⟩
  case zones =>
    intro z h
    rw [reset_zone h]
    have seen : ∀ i < 48, ZoneEntry.reset.seen.get i = false := fun i h => Bank.get_fill _ i h
    simp only [ZoneEntry.reset] at seen ⊢
    simpa using seen
  case clock => exact ⟨rfl, rfl, rfl, rfl, rfl, rfl, rfl, rfl, rfl, rfl, rfl, rfl, rfl⟩
  case streams =>
    refine ⟨fun n h => ?_, rfl, rfl⟩
    rw [reset_stream h]
    have buffers : ∀ b < 4, ∀ i < 48, (StreamRecord.reset.buffers.get b).get i = 0#32 := fun b hb i hi => by
      rw [StreamRecord.reset, Bank.get_fill _ b hb, Bank.get_fill _ i hi]
    simp only [StreamRecord.reset] at buffers ⊢
    simpa using buffers
  case intercom =>
    refine ⟨fun n h => ?_, fun g h => ?_⟩
    · rw [reset_station h]
      have listen : ∀ g < 16, StationRecord.reset.listen.get g = false := fun g h => Bank.get_fill _ g h
      refine ⟨rfl, rfl, rfl, rfl, rfl, rfl, listen, rfl, rfl, rfl, fun i hi => ?_⟩
      exact ⟨Bank.get_fill _ i hi, Bank.get_fill _ i hi, Bank.get_fill _ i hi⟩
    · rw [reset_group h]
      exact ⟨rfl, rfl, rfl, fun i hi => ⟨Bank.get_fill _ i hi, Bank.get_fill _ i hi⟩⟩
  case alarm =>
    refine ⟨rfl, rfl, rfl, rfl, rfl, rfl, rfl, rfl, rfl, rfl, rfl, fun g h => Bank.get_fill _ g h, fun i hi => ?_, rfl, rfl⟩
    have segment : State.reset.alarm.segments.get i = defaultSegment i := Bank.get_ofFn _ i (by omega)
    rw [segment, defaultSegment, if_neg (by omega), if_neg (by omega)]
    split <;> rfl
  case theatre =>
    refine ⟨rfl, rfl, rfl, rfl, rfl, rfl, rfl, rfl, fun n h => ?_, rfl, rfl, rfl, rfl⟩
    rw [reset_cue h]
    exact ⟨rfl, rfl, rfl, rfl, rfl, rfl, rfl, rfl, rfl⟩

/-! ## Requests and responses under a host tag (R2, R3, R6, R8, R15) -/

/-- A host tag without an entry is one that R2 accepts. -/
theorem accepts_of_free {s : State} {tag : Nat} (port : s.portOpen = true) (htag : tag ≤ 31)
    (free : s.transit.tags.get tag = none) : s.begun.accepts tag = true := by
  have hport : s.begun.portOpen = true := port
  simp [State.accepts, TransitUnit.tagFree, hport, htag, free]

/-- A response to a host tag that has an entry (R3). -/
theorem memoryReturns_hostTag {s : State} {tag : Nat} {e : TagEntry} (a : MemAnswer) (port : s.portOpen = true)
    (htag : tag ≤ 31) (entry : s.transit.tags.get tag = some e) :
    s.begun.memoryReturns tag a = s.begun.hostResponse tag e a :=
  memoryReturns_host a port (ownEntry_host _ htag) ((hostEntry_host _ htag).trans entry)

/-- Latching looks at the control unit only (R40). -/
theorem latch_of_control {s t : State} (h : s.settled = true) (same : t.control = s.control) : t.latch = t :=
  latch_settled t (by unfold State.settled at h ⊢; rw [same]; exact h)

/-- Settles O5: each request and response is one of the cases of the two ports. -/
theorem requestsTaggedAndAnswersReturned : Obligations.RequestsTaggedAndAnswersReturned := by
  refine ⟨?fault, ?read, ?done, ?unmatched⟩
  case fault =>
    intro s tag addr count words port taken
    have hport : s.begun.portOpen = true := port
    have htag : s.begun.transit.tagFree tag = false := by
      rcases taken with h | h
      · simp [TransitUnit.tagFree, show ¬ tag ≤ 31 by omega]
      · cases hg : s.transit.tags.get tag <;> simp_all [TransitUnit.tagFree]
    exact ⟨congrArg (fun t : State => Host.Outcome.next t.latch) (passRead_tagFault tag addr count hport htag),
      congrArg (fun t : State => Host.Outcome.next t.latch) (passWrite_tagFault tag addr words hport htag)⟩
  case read =>
    intro s tag addr count port htag free
    exact congrArg (fun t : State => Host.Outcome.next t.latch)
      (passRead_queued tag addr count (accepts_of_free port htag free))
  case done =>
    intro s tag e port htag entry _
    have returned := fun status => memoryReturns_hostTag (.done status) port htag entry
    exact ⟨congrArg (fun t : State => Host.Outcome.next t.latch) (returned .ok),
      congrArg (fun t : State => Host.Outcome.next t.latch) (returned .fault)⟩
  case unmatched =>
    intro s tag a settled port noHost noOwn
    have hown : s.begun.transit.ownEntry tag = none := by
      unfold TransitUnit.ownEntry
      split
      · next h => exact noOwn h.1 h.2
      · rfl
    have hhost : s.begun.transit.hostEntry tag = none := by
      unfold TransitUnit.hostEntry
      split
      · next h => exact noHost h
      · rfl
    calc exec (.unmatchedResponse tag a) s = .next (s.begun.memoryReturns tag a).latch := rfl
      _ = .next s.begun.latch := by rw [memoryReturns_unmatched a (by exact port) hown hhost]
      _ = .next s.begun := congrArg Host.Outcome.next (latch_of_control settled rfl)

/-- Settles O7: a pinned word among the regions refuses the burst, and a settled part latches nothing. -/
theorem pinnedWriteRefusedWhole : Obligations.PinnedWriteRefusedWhole := by
  intro s tag addr words j e settled port htag free hj pinned
  have hp : (s.begun.burstRegions addr words.length).any Region.isPinned = true := by
    refine List.any_eq_true.mpr ⟨.pinned e, List.mem_map.mpr ⟨j, List.mem_range.mpr hj, pinned⟩, rfl⟩
  calc exec (.writeRequest tag addr words) s = .next (s.begun.passWrite tag addr words).latch := rfl
    _ = .next (s.begun.answer (.done tag .protectedStatus)).latch := by
        rw [passWrite_protected tag addr words (accepts_of_free port htag free) hp]
    _ = _ := congrArg Host.Outcome.next (latch_of_control settled rfl)

/-- Settles O9: the response of a READ's tag with FAULT is passed on as it came. -/
theorem faultDataReturnedUnchanged : Obligations.FaultDataReturnedUnchanged := by
  intro s tag e words settled port htag entry isRead
  calc exec (.dataResponse tag .fault words) s = .next (s.begun.memoryReturns tag (.data .fault words)).latch := rfl
    _ = .next ((s.begun.clearTag tag).answer (.data tag .faultStatus words)).latch := by
        rw [memoryReturns_hostTag _ port htag entry]
        simp [State.hostResponse, State.hostData, isRead]
    _ = _ := congrArg Host.Outcome.next (latch_of_control settled rfl)

/-! ## Arbitration (R18, R19) -/

/-- The own tag that is free with every lower one taken is the one an own request takes (R18). -/
theorem freeOwnTag_eq {t : TransitUnit} {k : Nat} (hk : k < 32) (free : t.ownTags.get k = none)
    (lower : ∀ j < k, (t.ownTags.get j).isSome = true) : t.freeOwnTag = some k := by
  unfold TransitUnit.freeOwnTag
  rw [List.find?_range_eq_some]
  refine ⟨by simp [free], List.mem_range.mpr hk, fun j hj => ?_⟩
  have := lower j hj
  simpa [Option.ne_none_iff_isSome] using this

/-- Settles O8: the rows of R19 are the branches of the arbiter. -/
theorem arbiterAlternatesTheQueues : Obligations.ArbiterAlternatesTheQueues := by
  intro s
  have issues : ∀ t, s.begun.arbitrate = t → exec .arbiterIssue s = .next t.latch := fun t h => by rw [← h]; rfl
  refine ⟨fun f fs hf turn => ?_, fun o os k ho turn hk free lower => ?_, fun hf ho => ?_⟩
  · have row : s.begun.arbitrate = s.begun.issueForwarded f := by
      unfold State.arbitrate
      rcases turn with h | h
      · simp [hf, h]
      · cases hq : s.transit.ownQueue <;> simp [hf, hq, h]
    rw [issues _ row]
    simp [State.issueForwarded, State.issue, hf, State.begun]
  · have row : s.begun.arbitrate = s.begun.issueOwn o := by
      unfold State.arbitrate
      rcases turn with h | h
      · simp [ho, h]
      · cases hq : s.transit.forwarded <;> simp [ho, hq, h]
    have htag : s.transit.freeOwnTag = some k := freeOwnTag_eq hk free lower
    rw [issues _ row]
    simp [State.issueOwn, htag, State.issue, ho, State.begun]
  · exact issues _ (by unfold State.arbitrate; simp [hf, ho])

/-! ## A read of port data (R34) -/

/-- Settles O11: the one word of the burst is control window word 18, whose rewriter is the selected word. -/
theorem portReadReturnsTheSelectedWord : Obligations.PortReadReturnsTheSelectedWord := by
  intro s tag window word port htag hw entry
  have word18 : s.classify (window + 18) = .window 18 := classify_window hw (by omega)
  have regions : s.begun.burstRegions (window + 18) 1 = [.window 18] := congrArg (fun r => [r]) word18
  have pending : s.portReadPending tag = true := by
    simp [State.portReadPending, hostEntry_host _ htag, entry, word18]
  have answered : ∀ status, exec (.portDataRead tag status word) s
      = .next (s.begun.memoryReturns tag (.data status [word])).latch := fun status => if_pos pending
  refine ⟨?_, ?_⟩
  · rw [answered, memoryReturns_hostTag _ port htag entry]
    simp only [State.hostResponse, State.hostData, State.rewriteBurst, regions, Bool.false_eq_true, if_false]
    rfl
  · rw [answered, memoryReturns_hostTag _ port htag entry]
    simp only [State.hostResponse, State.hostData, Bool.false_eq_true, if_false]
    rfl

end Sys2Proof.Machine
end

section
/-! SUPPORT. The laws right after reset. -/

namespace Sys2Proof.Machine

/-- A part at its reset values has no region but the anchor block (R9, R21, R47, R109). -/
theorem regions_resetWith (cause : ResetCause) (drain : Nat) (lines : InputLines) (draws : Nat) (pending : List Instr) :
    (State.resetWith cause drain lines draws pending).regions = [anchorBlock] := rfl

theorem clockLaw_reset : ClockLaw State.reset := by constructor <;> decide

theorem counterLaw_reset : CounterLaw State.reset where
  silentEvents z h := by rw [reset_zone h]; decide
  failingPeriods z h := by rw [reset_zone h]; decide
  torn n h := by rw [reset_station h]; decide
  dropped := by decide
  stray := by decide

theorem alarmLaw_reset : AlarmLaw State.reset where
  released _ g h := Bank.get_fill _ g h
  sounding _ n h := by rw [reset_stream h]; rfl
  muster _ n h live := by rw [reset_stream h] at live; cases live
  held _ := by decide

/-- A record FREE as reset leaves it breaks no part of the law of streams (R108). -/
theorem streamLaw_resetWith (cause : ResetCause) (drain : Nat) (lines : InputLines) (draws : Nat) (pending : List Instr) :
    StreamLaw (State.resetWith cause drain lines draws pending) := by
  have records : ∀ n < 8, (State.resetWith cause drain lines draws pending).stream n = StreamRecord.reset :=
    fun n h => Bank.get_fill _ n h
  refine ⟨?_, ?_, ?_, ?_, ?_, ?_, ?_, ?_, .nil, ?_, ?_⟩
  · intro n h; rw [records n h]; decide
  · intro n h; rw [records n h]; exact ⟨List.nodup_nil, fun x hx => absurd hx List.not_mem_nil⟩
  · intro n h current; rw [records n h] at current; cases current
  · intro n h _
    refine ⟨by rw [records n h]; rfl, List.filter_eq_nil_iff.mpr fun z hz => ?_⟩
    have zone : (State.resetWith cause drain lines draws pending).zone z = ZoneEntry.reset :=
      Bank.get_fill _ z (List.mem_range.mp hz)
    rw [State.boundTo, zone]; simp [ZoneEntry.reset]
  · intro n h x hx; rw [records n h] at hx; exact absurd hx List.not_mem_nil
  · intro n h _ x hx; rw [records n h] at hx; exact absurd hx List.not_mem_nil
  · intro _ n h _ _ x hx; rw [records n h] at hx; exact absurd hx List.not_mem_nil
  · intro m hm n _ holds; rw [records m hm] at holds; cases holds
  · intro r hr; exact absurd hr List.not_mem_nil
  · intro k hk r hr
    have : (none : Option OwnRequest) = some r := (Bank.get_fill (n := 32) none k hk).symm.trans hr
    cases this

theorem regionLaw_resetWith (cause : ResetCause) (drain : Nat) (lines : InputLines) (draws : Nat) (pending : List Instr) :
    RegionLaw (State.resetWith cause drain lines draws pending) where
  disjoint := List.pairwise_singleton _ anchorBlock
  unanchored _ := regions_resetWith cause drain lines draws pending

theorem intercomLaw_reset : IntercomLaw State.reset where
  talks n h g talk := by rw [reset_station h] at talk; cases talk
  talkers g _ := by
    have none_talk : State.reset.talkerCount g = 0 := (Bank.count_eq_zero _ _).mpr fun n h => by
      rw [show State.reset.stations.get n = StationRecord.reset from reset_station h]; rfl
    omega
  listens n h := by
    have none_listened : (List.range 16).filter (State.reset.station n).listen.get = [] :=
      List.filter_eq_nil_iff.mpr fun g hg => by
        rw [reset_station h, StationRecord.reset, Bank.get_fill _ g (List.mem_range.mp hg)]; decide
    rw [none_listened]; decide

theorem groupSumLaw_reset : GroupSumLaw State.reset where
  filling g hg i hi := by
    have silent : ((List.range 32).map fun n =>
        if (State.reset.station n).talk = some g then (State.reset.station n).ownFilling.get i else 0) = List.replicate 32 0 :=
      List.eq_replicate_iff.mpr ⟨by simp, fun v hv => by
        obtain ⟨n, hn, rfl⟩ := List.mem_map.mp hv
        rw [reset_station (List.mem_range.mp hn)]; rfl⟩
    rw [silent, reset_group hg, GroupRecord.reset, Bank.get_fill _ i hi]; rfl
  untalked n h _ i hi := by rw [reset_station h]; exact Bank.get_fill _ i hi

theorem levelLaw_reset : LevelLaw State.reset where
  house _ z h mapped := by rw [reset_zone h] at mapped; cases mapped
  gain z h := by rw [reset_zone h]; decide
  level z h := by rw [reset_zone h]; decide
  target z h := by rw [reset_zone h]; decide
  ramp z h m ramp := by rw [reset_zone h] at ramp; cases ramp
  snapshot h snap := by cases snap

/-- Settles O60, law by law. -/
theorem resetKeepsTheLaws : Obligations.ResetKeepsTheLaws :=
  ⟨rfl, clockLaw_reset, counterLaw_reset, alarmLaw_reset, streamLaw_resetWith .., regionLaw_resetWith ..,
    intercomLaw_reset, groupSumLaw_reset, levelLaw_reset⟩

end Sys2Proof.Machine
end

section
/-! SUPPORT. What every work of the part keeps, for a law that reads the streams, the own requests, the anchor, the pins and the
rings: most of the part's acts leave all of that alone, and the others are the stream engine's own acts and the table writes. -/

namespace Sys2Proof.Machine

/-! ## What the regions and the streams are read from -/

/-- The regions of R4 are read from the same things. -/
structure SameRegions (s t : State) : Prop where
  anchor : t.transit.anchor = s.transit.anchor
  pins : t.transit.pins = s.transit.pins
  zoneSpans : ∀ z < 64, (t.zone z).spans = (s.zone z).spans
  stationSpans : ∀ n < 32, (t.station n).spans = (s.station n).spans

/-- And so are the streams, their zones and their own requests. -/
structure SameLayout (s t : State) : Prop extends SameRegions s t where
  ownTags : t.transit.ownTags = s.transit.ownTags
  ownQueue : t.transit.ownQueue = s.transit.ownQueue
  capture : t.page.capture = s.page.capture
  streams : t.streams = s.streams
  bound : ∀ z < 64, (t.zone z).bound = (s.zone z).bound

theorem SameRegions.refl (s : State) : SameRegions s s := ⟨rfl, rfl, fun _ _ => rfl, fun _ _ => rfl⟩

theorem SameRegions.trans {s t u : State} (a : SameRegions s t) (b : SameRegions t u) : SameRegions s u where
  anchor := b.anchor.trans a.anchor
  pins := b.pins.trans a.pins
  zoneSpans z h := (b.zoneSpans z h).trans (a.zoneSpans z h)
  stationSpans n h := (b.stationSpans n h).trans (a.stationSpans n h)

theorem SameLayout.refl (s : State) : SameLayout s s := ⟨.refl s, rfl, rfl, rfl, rfl, fun _ _ => rfl⟩

theorem SameLayout.trans {s t u : State} (a : SameLayout s t) (b : SameLayout t u) : SameLayout s u where
  toSameRegions := a.toSameRegions.trans b.toSameRegions
  ownTags := b.ownTags.trans a.ownTags
  ownQueue := b.ownQueue.trans a.ownQueue
  capture := b.capture.trans a.capture
  streams := b.streams.trans a.streams
  bound z h := (b.bound z h).trans (a.bound z h)

/-- The regions stand where the anchor, the pins, the zones and the stations do. -/
theorem sameRegions_of_eq {s t : State} (anchor : t.transit.anchor = s.transit.anchor) (pins : t.transit.pins = s.transit.pins)
    (zones : t.zones = s.zones) (stations : t.stations = s.stations) : SameRegions s t :=
  ⟨anchor, pins, fun z _ => by unfold State.zone; rw [zones], fun n _ => by unfold State.station; rw [stations]⟩

theorem sameLayout_of_eq {s t : State} (anchor : t.transit.anchor = s.transit.anchor) (pins : t.transit.pins = s.transit.pins)
    (zones : t.zones = s.zones) (stations : t.stations = s.stations) (ownTags : t.transit.ownTags = s.transit.ownTags)
    (ownQueue : t.transit.ownQueue = s.transit.ownQueue) (capture : t.page.capture = s.page.capture)
    (streams : t.streams = s.streams) : SameLayout s t :=
  ⟨sameRegions_of_eq anchor pins zones stations, ownTags, ownQueue, capture, streams,
    fun z _ => by unfold State.zone; rw [zones]⟩

/-- A zone whose rings stand. -/
theorem sameRegions_setZone {s : State} {z : Nat} {e : ZoneEntry} (spans : e.spans = (s.zone z).spans) :
    SameRegions s (s.setZone z e) where
  anchor := rfl
  pins := rfl
  zoneSpans y h := by
    rw [zone_setZone s z y e h]
    split
    · next same => rw [← same, spans]
    · rfl
  stationSpans _ _ := rfl

/-- A zone whose rings and stream stand. -/
theorem sameLayout_setZone {s : State} {z : Nat} {e : ZoneEntry} (spans : e.spans = (s.zone z).spans)
    (bound : e.bound = (s.zone z).bound) : SameLayout s (s.setZone z e) where
  toSameRegions := sameRegions_setZone spans
  ownTags := rfl
  ownQueue := rfl
  capture := rfl
  streams := rfl
  bound y h := by
    rw [zone_setZone s z y e h]
    split
    · next same => rw [← same, bound]
    · rfl

/-- Every zone changed in what no region and no stream is read from. -/
theorem sameLayout_zones {s : State} {zones : Bank 64 ZoneEntry}
    (same : ∀ z < 64, (zones.get z).spans = (s.zone z).spans ∧ (zones.get z).bound = (s.zone z).bound) :
    SameLayout s { s with zones := zones } where
  anchor := rfl
  pins := rfl
  zoneSpans z h := (same z h).1
  stationSpans _ _ := rfl
  ownTags := rfl
  ownQueue := rfl
  capture := rfl
  streams := rfl
  bound z h := (same z h).2

theorem sameLayout_mapZones {s : State} {f : ZoneEntry → ZoneEntry}
    (same : ∀ e, (f e).spans = e.spans ∧ (f e).bound = e.bound) : SameLayout s { s with zones := s.zones.map f } :=
  sameLayout_zones fun z h => by rw [Bank.get_map f _ z h]; exact same _

/-- Every station changed in what no region is read from. -/
theorem sameLayout_stations {s : State} {stations : Bank 32 StationRecord}
    (same : ∀ n < 32, (stations.get n).spans = (s.station n).spans) : SameLayout s { s with stations := stations } where
  anchor := rfl
  pins := rfl
  zoneSpans _ _ := rfl
  stationSpans n h := same n h
  ownTags := rfl
  ownQueue := rfl
  capture := rfl
  streams := rfl
  bound _ _ := rfl

theorem sameLayout_mapStations {s : State} {f : StationRecord → StationRecord} (same : ∀ r, (f r).spans = r.spans) :
    SameLayout s { s with stations := s.stations.map f } :=
  sameLayout_stations fun n h => by rw [Bank.get_map f _ n h]; exact same _

theorem sameLayout_setStation {s : State} {n : Nat} {r : StationRecord} (same : r.spans = (s.station n).spans) :
    SameLayout s (s.setStation n r) :=
  sameLayout_stations fun m h => by
    have := station_setStation s n m r h
    rw [show (s.stations.set n r).get m = (s.setStation n r).station m from rfl, this]
    split
    · next e => rw [← e, same]
    · rfl

/-! ## What the engines' acts and the table writes have to keep -/

/-- A law that every act of the stream engine and every issue keeps, and that whatever leaves the layout alone cannot break. -/
structure EngineKept (P : State → Prop) : Prop where
  layout : ∀ {s t : State}, SameLayout s t → P s → P t
  ends : ∀ (cause : EndCause) {n : Nat} {s : State}, n < 8 → P s → P (s.endStream cause n)
  starts : ∀ {s : State} {n : Nat} (owner : StreamOwner) (priority : Nat) {source : StartSource} {zs : List Nat}, n < 8 →
    (s.stream n).state = .free → (∀ z ∈ zs, z < 64) → (source = .live → s.liveTaken = false) → P s →
    P (s.startStream n owner priority source zs)
  pauses : ∀ {s : State}, P s → P s.pauseShowStreams
  resumes : ∀ {s : State}, P s → P s.resumeShowStreams
  ticks : ∀ (before : State) {n : Nat} {s : State}, n < 8 → P s → P (State.tickRecord before n s)
  offers : ∀ (g : Nat) (samples : Bank 48 Word) {n : Nat} {s : State}, n < 8 → P s → P (State.offerPeriod g samples n s)
  pages : ∀ (offset : Nat) (word : Word) {s : State}, P s → P (s.offerPage offset word)
  closes : ∀ {s t : State} {n : Nat}, s.takePgc = .ok (n, t) → P s → P t
  issues : ∀ {s : State} {o : OwnRequest} {rest : List OwnRequest}, s.transit.ownQueue = o :: rest → P s → P (s.issueOwn o)
  responds : ∀ {s : State} {k : Nat} {r : OwnRequest} (status : MemStatus) (words : List Word), k < 32 →
    s.transit.ownTags.get k = some r → P s → P (s.ownResponse k r status words)

/-- And that every table write, every pinning and every unpinning keeps. -/
structure TableKept (P : State → Prop) : Prop extends EngineKept P where
  tables : ∀ {s t : State} {table : PortTable} {i : Nat} {data : Word}, s.writeTable table i data = some t → P s → P t
  pinning : ∀ {s t : State} {base length e : Nat}, s.takePin base length = .ok (e, t) → P s → P t
  unpinning : ∀ {s t : State} {entry e : Nat}, s.takeUnp entry = .ok (e, t) → P s → P t

/-! ## Inversions of the takes that start a stream -/

theorem freeRecord_some {s : State} {n : Nat} (h : s.freeRecord = some n) : n < 8 ∧ (s.stream n).state = .free := by
  unfold State.freeRecord at h
  have free := List.find?_some h
  exact ⟨List.mem_range.mp (List.mem_of_find?_eq_some h), by simpa using free⟩

theorem zonesTaken_lt {s : State} {p z : Nat} {zs : ZoneSet} (h : z ∈ s.zonesTaken p zs) : z < 64 :=
  List.mem_range.mp (List.mem_of_mem_filter (List.mem_of_mem_filter h))

/-- The start request of a PLAY cue starts a clip on a FREE record (R103). -/
theorem startRequest_some {s t : State} {cue base periods repeats : Nat} {zs : ZoneSet}
    (h : s.startRequest cue base periods repeats zs = some t) :
    ∃ n < 8, (s.stream n).state = .free
      ∧ t = s.startStream n (.showCue cue) 2 (.clip base periods repeats) (s.zonesTaken 2 zs) := by
  unfold State.startRequest at h
  split at h
  · cases h
  · cases hf : s.freeRecord with
    | none => simp [hf] at h
    | some n =>
      obtain ⟨hn, free⟩ := freeRecord_some hf
      refine ⟨n, hn, free, ?_⟩
      cases hz : s.zonesTaken 2 zs with
      | nil => simp [hf, hz] at h
      | cons z rest => simpa [hf, hz] using h.symm

/-- An accepted ANS starts a stream on a FREE record; a LIVE one only where no other page is (R85, R87). -/
theorem takeAns_ok {s t : State} {priority value : Nat} {source : StartSource} {zs : ZoneSet}
    (h : s.takeAns priority source zs = .ok (value, t)) :
    ∃ n < 8, (s.stream n).state = .free ∧ (source = .live → s.liveTaken = false)
      ∧ t = s.startStream n .announce priority source (s.zonesTaken priority zs) := by
  unfold State.takeAns at h
  cases hj : s.ansJudge priority source zs with
  | error reason => rw [hj] at h; cases h
  | ok r =>
    obtain ⟨n, taken⟩ := r
    rw [hj] at h
    unfold State.ansJudge at hj
    split at hj; · cases hj
    split at hj; · cases hj
    split at hj; · cases hj
    split at hj; · cases hj
    next notTaken =>
    split at hj
    · cases hj
    · next m hf =>
      obtain ⟨hm, free⟩ := freeRecord_some hf
      split at hj
      · cases hj
      · cases hj
        cases h
        exact ⟨n, hm, free, fun live => by simpa [live] using notTaken, rfl⟩

/-! ## What every engine keeps -/

section engines

variable {P : State → Prop} (kit : EngineKept P)
include kit

/-- An act that changes neither anchor, pins, zones, stations, own requests, capture nor streams. -/
theorem EngineKept.quiet {s t : State} (hs : P s) (anchor : t.transit.anchor = s.transit.anchor)
    (pins : t.transit.pins = s.transit.pins) (zones : t.zones = s.zones) (stations : t.stations = s.stations)
    (ownTags : t.transit.ownTags = s.transit.ownTags) (ownQueue : t.transit.ownQueue = s.transit.ownQueue)
    (capture : t.page.capture = s.page.capture) (streams : t.streams = s.streams) : P t :=
  kit.layout (sameLayout_of_eq anchor pins zones stations ownTags ownQueue capture streams) hs

theorem EngineKept.post {s : State} (k : NoticeKind) (hs : P s) : P (s.post k) :=
  kit.quiet hs rfl rfl rfl rfl rfl rfl rfl rfl

theorem EngineKept.setShow {s : State} (r : ShowRecord) (hs : P s) : P (s.setShow r) :=
  kit.quiet hs rfl rfl rfl rfl rfl rfl rfl rfl

theorem EngineKept.control {s : State} (c : ControlUnit) (hs : P s) : P { s with control := c } :=
  kit.quiet hs rfl rfl rfl rfl rfl rfl rfl rfl

theorem EngineKept.clock {s : State} (c : ClockUnit) (hs : P s) : P { s with clock := c } :=
  kit.quiet hs rfl rfl rfl rfl rfl rfl rfl rfl

theorem EngineKept.alarm {s : State} (a : AlarmUnit) (hs : P s) : P { s with alarm := a } :=
  kit.quiet hs rfl rfl rfl rfl rfl rfl rfl rfl

theorem EngineKept.countedFrom {s : State} (before : Nat) (hs : P s) : P (s.countedFrom before) := by
  unfold State.countedFrom
  split
  · exact kit.post _ hs
  · exact hs

/-- A loop that ends some of the streams. -/
theorem EngineKept.endMany (cause : EndCause) (p : Nat → State → Prop) [∀ n s, Decidable (p n s)] {s : State} (hs : P s) :
    P (s.forEach (List.range 8) fun n s => if p n s then s.endStream cause n else s) :=
  forEach_keeps (fun n hn t ht => by
    split
    · exact kit.ends cause (List.mem_range.mp hn) ht
    · exact ht) hs

theorem EngineKept.endAll {s : State} (cause : EndCause) (hs : P s) : P (s.endAll cause) :=
  forEach_keeps (fun _ hn _ ht => kit.ends cause (List.mem_range.mp hn) ht) hs

theorem EngineKept.houseLevels {s : State} (hs : P s) : P s.houseLevels :=
  kit.layout (sameLayout_mapZones fun e => by unfold ZoneEntry.houseLevel; split <;> exact ⟨rfl, rfl⟩) hs

end engines

end Sys2Proof.Machine
end

section
/-! SUPPORT. What every work of the part keeps, block by block. -/

namespace Sys2Proof.Machine

/-! ## What an act leaves of a zone's rings and stream, and of a station's rings -/

theorem startRamp_same (e : ZoneEntry) (target r : Nat) :
    (e.startRamp target r).spans = e.spans ∧ (e.startRamp target r).bound = e.bound := by
  unfold ZoneEntry.startRamp; split <;> exact ⟨rfl, rfl⟩

theorem stepRamp_same (e : ZoneEntry) : e.stepRamp.spans = e.spans ∧ e.stepRamp.bound = e.bound := by
  unfold ZoneEntry.stepRamp
  split
  · exact ⟨rfl, rfl⟩
  · split <;> exact ⟨rfl, rfl⟩

theorem holdRamp_same (e : ZoneEntry) : e.holdRamp.spans = e.spans ∧ e.holdRamp.bound = e.bound := by
  unfold ZoneEntry.holdRamp
  split
  · exact startRamp_same e 0 24
  · exact ⟨rfl, rfl⟩

theorem stepWatch_same (e : ZoneEntry) : e.stepWatch.spans = e.spans ∧ e.stepWatch.bound = e.bound := by
  unfold ZoneEntry.stepWatch
  repeat' split
  all_goals exact ⟨rfl, rfl⟩

theorem score_same (e : ZoneEntry) (i : Nat) (w : WriteWord) : (e.score i w).spans = e.spans ∧ (e.score i w).bound = e.bound := by
  unfold ZoneEntry.score; split <;> exact ⟨rfl, rfl⟩

theorem closePeriod_same (e : ZoneEntry) (threshold : Nat) :
    (e.closePeriod threshold).spans = e.spans ∧ (e.closePeriod threshold).bound = e.bound := by
  unfold ZoneEntry.closePeriod ZoneEntry.runs
  cases e.passes threshold <;> exact ⟨rfl, rfl⟩

theorem swapStation_spans (r : StationRecord) : r.swap.spans = r.spans := by
  unfold StationRecord.swap; split <;> rfl

section engines

variable {P : State → Prop} (kit : EngineKept P)
include kit

/-! ## The show engine -/

theorem EngineKept.rampZone {s : State} (z target r : Nat) (hs : P s) : P (s.setZone z ((s.zone z).startRamp target r)) :=
  kit.layout (sameLayout_setZone (startRamp_same _ target r).1 (startRamp_same _ target r).2) hs

theorem EngineKept.cueAction {s : State} (n : Nat) (c : Cue) (hs : P s) : P (s.cueAction n c).1 := by
  unfold State.cueAction
  cases c.action with
  | note => exact hs
  | endShow => exact hs
  | fade =>
    dsimp only [State.fade]
    split
    · exact hs
    · exact forEach_keeps (fun _ _ _ ht => kit.rampZone _ _ _ ht) hs
  | play =>
    dsimp only [State.play]
    repeat' split
    · exact hs
    · exact hs
    · exact hs
    · next t ht =>
      obtain ⟨m, hm, free, rfl⟩ := startRequest_some ht
      exact kit.starts (source := .clip _ _ _) _ _ hm free (fun z hz => zonesTaken_lt hz) (fun clip => nomatch clip) hs
  | halt =>
    dsimp only [State.endCueStream]
    exact kit.endMany .stopped (fun m t => (t.stream m).owner = .showCue (field c.word3 0 8)) hs

theorem EngineKept.passCue {s : State} (n : Nat) (notify : Bool) (st : CueState) (hs : P s) : P (s.passCue n notify st) := by
  unfold State.passCue
  dsimp only
  split
  · exact kit.post _ (kit.setShow _ (kit.setShow _ hs))
  · exact kit.setShow _ hs

theorem EngineKept.endShow {s : State} (hs : P s) : P s.endShow :=
  kit.post _ (kit.setShow _ (kit.houseLevels (kit.endMany _ _ hs)))

theorem EngineKept.fireCue {s : State} (hs : P s) : P s.fireCue := by
  have passed := kit.passCue s.theatre.pointer (s.theatre.cue s.theatre.pointer).notify
    (s.cueAction s.theatre.pointer (s.theatre.cue s.theatre.pointer)).2
    (kit.cueAction s.theatre.pointer (s.theatre.cue s.theatre.pointer) hs)
  unfold State.fireCue
  dsimp only
  split
  · exact kit.endShow passed
  · exact passed

theorem EngineKept.consider {s : State} (hs : P s) : P s.consider :=
  consider_keeps (fun _ ht => kit.fireCue ht) (fun _ ht => kit.passCue _ _ _ ht) hs

/-! ## RST and talk -/

theorem EngineKept.clearIntercom {s : State} (hs : P s) : P s.clearIntercom := by
  have stations := kit.layout (sameLayout_mapStations (s := s) (f := StationRecord.restart) fun _ => rfl) hs
  exact kit.quiet stations rfl rfl rfl rfl rfl rfl rfl rfl

theorem EngineKept.endGroupStreams {s : State} (hs : P s) : P s.endGroupStreams := by
  unfold State.endGroupStreams
  exact kit.endMany .restart (fun n t => (t.stream n).source = .group ∧ (t.stream n).sounding = true) hs

theorem EngineKept.moveTalk {s : State} (station : Nat) (new : Option Nat) (hs : P s) : P (s.moveTalk station new) := by
  have moved : ∀ {t : State} (r : StationRecord), r.spans = (t.station station).spans → P t → P (t.setStation station r) :=
    fun r same ht => kit.layout (sameLayout_setStation same) ht
  unfold State.moveTalk
  dsimp only
  repeat' split
  · exact hs
  · exact moved _ rfl hs
  · exact moved _ rfl (kit.quiet hs rfl rfl rfl rfl rfl rfl rfl rfl)

/-! ## The show held and cleared -/

theorem EngineKept.hold {s : State} (cause : HoldCause) (hs : P s) : P (s.hold cause) :=
  kit.post _ (kit.setShow _ (kit.layout (sameLayout_mapZones holdRamp_same) hs))

theorem EngineKept.alarmHold {s : State} (hs : P s) : P s.alarmHold := by
  unfold State.alarmHold
  split
  · exact kit.hold _ hs
  · exact kit.post _ (kit.setShow _ hs)
  · exact hs
  · exact hs
  · exact hs

theorem EngineKept.clearShow {s : State} (hs : P s) : P s.clearShow := by
  have cleared : P s.endShowStreams.houseLevels := kit.houseLevels (kit.endMany _ _ hs)
  unfold State.clearShow
  dsimp only
  split
  · exact kit.post _ (kit.setShow _ cleared)
  · exact kit.setShow _ cleared

theorem EngineKept.resumeShow {s : State} (hs : P s) : P s.resumeShow := by
  have zones : ∀ snap, P (s.forEach (List.range 64) (State.resumeZone snap)) := fun snap =>
    forEach_keeps (fun z _ t ht => by
      unfold State.resumeZone
      repeat' split
      · exact kit.rampZone _ _ _ ht
      · exact ht
      · exact ht) hs
  unfold State.resumeShow
  dsimp only
  split
  · exact kit.post _ (kit.setShow _ (kit.resumes (kit.setShow _ (zones _))))
  · exact kit.post _ (kit.setShow _ (kit.resumes hs))

theorem EngineKept.showTick {s : State} (hs : P s) : P s.showTick :=
  kit.consider (kit.setShow _ (kit.layout (sameLayout_mapZones stepRamp_same) hs))

/-! ## The alarm unit -/

theorem EngineKept.evaluateFallback {s : State} (hs : P s) : P s.evaluateFallback := by
  unfold State.evaluateFallback
  split
  · exact hs
  · exact kit.alarm _ hs

theorem EngineKept.enterSounding {s : State} (source : AlarmSource) (hs : P s) : P (s.enterSounding source) := by
  unfold State.enterSounding
  exact kit.alarmHold (kit.endAll _ (kit.evaluateFallback (kit.post _ (kit.alarm _ hs))))

theorem EngineKept.soundRequest {s : State} (hs : P s) : P s.soundRequest := by
  unfold State.soundRequest
  dsimp only
  split
  · exact kit.alarm _ hs
  · exact kit.enterSounding _ (kit.alarm _ hs)

theorem EngineKept.silenceRequest {s : State} (hs : P s) : P s.silenceRequest := by
  unfold State.silenceRequest
  split
  · exact kit.alarm _ hs
  · exact hs

theorem EngineKept.seeLine {s : State} (hs : P s) : P s.seeLine := by
  unfold State.seeLine
  split
  · exact kit.alarm _ hs
  · exact kit.silenceRequest hs
  · exact hs
  · exact hs
  · exact kit.soundRequest (kit.alarm _ hs)
  · exact kit.alarm _ (kit.alarm _ hs)
  · exact kit.silenceRequest hs
  · exact hs
  · exact kit.alarm _ hs
  · exact kit.silenceRequest hs
  · exact hs
  · exact hs

theorem EngineKept.decoderStep {s : State} (hs : P s) : P s.decoderStep := by
  have held : P s.countHold := by
    unfold State.countHold
    dsimp only
    repeat' split
    · exact kit.seeLine (kit.alarm _ hs)
    · exact kit.alarm _ hs
    · exact hs
  unfold State.decoderStep State.countWindow
  dsimp only
  repeat' split
  · exact kit.alarm _ (kit.alarm _ held)
  · exact kit.alarm _ held
  · exact held

theorem EngineKept.watchStep {s : State} (hs : P s) : P s.watchStep := by
  have posted : ∀ (es : List ZoneEntry) (t : State), P t → P (es.foldl (fun t e => State.postSilent e t) t) := by
    intro es
    induction es with
    | nil => exact fun t ht => ht
    | cons e es ih =>
      intro t ht
      refine ih _ ?_
      dsimp only [State.postSilent]
      split
      · exact kit.countedFrom _ (kit.post _ ht)
      · exact ht
  have watched := posted s.zones.cells _ (kit.layout (sameLayout_mapZones stepWatch_same) hs)
  unfold State.watchStep
  dsimp only
  split
  · exact kit.evaluateFallback watched
  · exact watched

theorem EngineKept.alarmTick {s : State} (hs : P s) : P s.alarmTick := by
  refine kit.decoderStep (kit.watchStep ?_)
  unfold State.patternStep
  split
  · exact kit.alarm _ hs
  · exact hs

/-! ## The stream engine and the intercom engine at a tick -/

theorem EngineKept.releaseBusy {s : State} (hs : P s) : P s.releaseBusy := kit.control _ hs

theorem EngineKept.streamTick (before : State) {s : State} (hs : P s) : P (State.streamTick before s) :=
  kit.releaseBusy (forEach_keeps (fun _ hn _ ht => kit.ticks before (List.mem_range.mp hn) ht) hs)

theorem EngineKept.intercomTick {s : State} (hs : P s) : P s.intercomTick := by
  have swapped : P s.swapIntercom := by
    have stations := kit.layout (sameLayout_mapStations (s := s) swapStation_spans) hs
    exact kit.quiet stations rfl rfl rfl rfl rfl rfl rfl rfl
  refine kit.control _ (forEach_keeps (fun g _ t ht => ?_) swapped)
  unfold State.offerGroup
  split
  · exact forEach_keeps (fun _ hn _ hu => kit.offers g _ (List.mem_range.mp hn) hu) ht
  · exact ht

/-! ## The clock unit -/

theorem EngineKept.blockTick (before : State) {s : State} (b : TickBlock) (hs : P s) : P (State.blockTick before s b) := by
  cases b with
  | stream => exact kit.streamTick before hs
  | intercom => exact kit.intercomTick hs
  | alarm => exact kit.alarmTick hs
  | showEngine => exact kit.showTick hs

theorem EngineKept.makeTick {s : State} (order : TickOrder) (hs : P s) : P (s.makeTick order) :=
  makeTick_keeps (fun before _ b ht => kit.blockTick before b ht) (kit.clock _ hs)

theorem EngineKept.setLock {s : State} (lock : LockState) (hs : P s) : P (s.setLock lock) := kit.post _ (kit.clock _ hs)

theorem EngineKept.markEvent {s : State} (hs : P s) : P s.markEvent := kit.consider (kit.clock _ hs)

theorem EngineKept.closeWindow {s : State} (hs : P s) : P s.closeWindow := by
  unfold State.closeWindow
  dsimp only
  split
  · exact kit.markEvent (kit.clock _ (kit.setLock _ hs))
  · exact kit.markEvent (kit.clock _ hs)

theorem EngineKept.measureStep {s : State} (hs : P s) : P s.measureStep := by
  have counted : P { s with clock := s.clock.countStep } := kit.clock _ hs
  unfold State.measureStep
  dsimp only
  repeat' split
  · exact counted
  · exact counted
  · exact kit.markEvent (kit.clock _ (kit.setLock _ counted))
  · exact counted
  · exact kit.closeWindow counted
  · exact counted

theorem EngineKept.acquireMark {s : State} (hs : P s) : P s.acquireMark := by
  unfold State.acquireMark
  dsimp only
  split
  · exact kit.setLock _ (kit.clock _ (kit.clock _ hs))
  · exact kit.clock _ hs

theorem EngineKept.realMark {s : State} (hs : P s) : P s.realMark := by
  unfold State.realMark
  dsimp only
  repeat' split
  · exact kit.markEvent (kit.clock _ (kit.clock _ (kit.setLock _ hs)))
  · exact kit.markEvent (kit.clock _ (kit.acquireMark hs))
  · exact kit.markEvent (kit.clock _ (kit.clock _ (kit.setLock _ hs)))
  · exact kit.markEvent (kit.clock _ hs)
  · exact hs
  · exact kit.markEvent (kit.clock _ (kit.clock _ (kit.setLock _ hs)))

theorem EngineKept.creditSteps {s : State} (n : Nat) (order : Interleave) (hs : P s) : P (s.creditSteps n order) :=
  creditSteps_keeps (fun _ ht => kit.measureStep ht) (fun _ o ht => kit.makeTick o ht) (kit.clock _ hs)

theorem EngineKept.loseLine {s : State} (hs : P s) : P s.loseLine := kit.post _ (kit.clock _ hs)

theorem EngineKept.clockEdge {s : State} (gap : Nat) (order : Interleave) (hs : P s) : P (s.clockEdge gap order) := by
  have credited := kit.creditSteps 1 order hs
  unfold State.clockEdge State.monitorLine State.monitorReference State.takeLine
  repeat' split
  · exact hs
  · exact kit.clock _ credited
  · exact kit.loseLine credited
  · exact kit.clock _ credited
  · exact kit.post _ (kit.clock _ hs)
  · exact kit.clock _ hs
  · exact kit.clock _ hs

theorem EngineKept.referenceStep {s : State} (order : Interleave) (hs : P s) : P (s.referenceStep order) := by
  unfold State.referenceStep
  split
  · exact hs
  · exact kit.creditSteps 1 order hs

theorem EngineKept.expireGap {s : State} (order : Interleave) (hs : P s) : P (s.expireGap order) := by
  unfold State.expireGap
  split
  · exact hs
  · exact kit.loseLine (kit.creditSteps 3 order hs)

theorem EngineKept.showPulse {s : State} (hs : P s) : P s.showPulse := by
  unfold State.showPulse
  split
  · exact hs
  · exact kit.realMark hs

theorem EngineKept.changePanel {s : State} (a b : Bool) (hs : P s) : P (s.changePanel a b) := by
  unfold State.changePanel
  split
  · exact hs
  · exact kit.quiet hs rfl rfl rfl rfl rfl rfl rfl rfl

/-! ## The two ports -/

theorem EngineKept.answer {s : State} (a : HostAnswer) (hs : P s) : P (s.answer a) :=
  kit.quiet hs rfl rfl rfl rfl rfl rfl rfl rfl

theorem EngineKept.clearTag {s : State} (tag : Nat) (hs : P s) : P (s.clearTag tag) :=
  kit.quiet hs rfl rfl rfl rfl rfl rfl rfl rfl

theorem EngineKept.passRead {s : State} (tag addr count : Nat) (hs : P s) : P (s.passRead tag addr count) := by
  unfold State.passRead
  repeat' split
  · exact hs
  · exact kit.answer _ hs
  · exact kit.quiet hs rfl rfl rfl rfl rfl rfl rfl rfl

theorem EngineKept.reloadWatch {s : State} (z : Nat) (hs : P s) : P (State.reloadWatch z s) :=
  kit.layout (sameLayout_setZone rfl rfl) hs

theorem EngineKept.readEffects {s : State} (rs : List Region) (hs : P s) : P (s.readEffects rs) := by
  have reloaded : P (s.forEach ((List.range 64).filter (holdsPlayout rs)) State.reloadWatch) :=
    forEach_keeps (fun z _ t ht => kit.reloadWatch z ht) hs
  unfold State.readEffects
  dsimp only
  split
  · exact kit.control _ reloaded
  · exact reloaded

theorem EngineKept.hostResponse {s : State} (tag : Nat) (e : TagEntry) (a : MemAnswer) (hs : P s) :
    P (s.hostResponse tag e a) := by
  have cleared := kit.clearTag tag hs
  unfold State.hostResponse State.hostData
  dsimp only
  repeat' split
  · exact kit.answer _ cleared
  · exact kit.answer _ cleared
  · exact kit.answer _ (kit.readEffects _ cleared)
  · exact kit.answer _ cleared

theorem EngineKept.memoryReturns {s : State} (tag : Nat) (a : MemAnswer) (hs : P s) : P (s.memoryReturns tag a) := by
  unfold State.memoryReturns
  repeat' split
  · exact kit.quiet hs rfl rfl rfl rfl rfl rfl rfl rfl
  · next r own =>
    unfold State.ownAnswer
    split
    · unfold TransitUnit.ownEntry at own
      split at own
      · next range => exact kit.responds _ _ (by omega) own hs
      · cases own
    · exact hs
  · exact kit.hostResponse tag _ a hs
  · exact hs

theorem EngineKept.arbitrate {s : State} (hs : P s) : P s.arbitrate := by
  rcases arbitrate_cases s with ⟨-, -, idle⟩ | ⟨f, rest, -, forwards⟩ | ⟨o, rest, waits, owns⟩
  · rw [idle]; exact hs
  · rw [forwards]; exact kit.quiet hs rfl rfl rfl rfl rfl rfl rfl rfl
  · rw [owns]; exact kit.issues waits hs

/-! ## Words offered to the engines -/

theorem EngineKept.offerSense {s : State} (z offset : Nat) (w : WriteWord) (hs : P s) : P (s.offerSense z offset w) := by
  have scored : P (s.setZone z ((s.zone z).score (offset % 48) w)) :=
    kit.layout (sameLayout_setZone (score_same _ _ _).1 (score_same _ _ _).2) hs
  have closed : ∀ t : State, P t → P (t.closeSense z) := fun t ht => by
    have same := closePeriod_same (t.zone z) t.control.passThreshold
    have stored := kit.layout (sameLayout_setZone same.1 same.2) ht
    unfold State.closeSense
    dsimp only
    have counted : ∀ (p : Prop) [Decidable p] (before : Nat) (u : State), P u → P (if p then u.countedFrom before else u) :=
      fun p _ before u hu => by
        split
        · exact kit.countedFrom _ hu
        · exact hu
    split
    · exact kit.evaluateFallback (kit.post _ (counted _ _ _ stored))
    · exact counted _ _ _ stored
  unfold State.offerSense
  dsimp only
  repeat' split
  · exact hs
  · exact closed _ scored
  · exact scored

theorem EngineKept.offerMic {s : State} (n offset : Nat) (w : WriteWord) (hs : P s) : P (s.offerMic n offset w) := by
  have station : ∀ {t : State} (r : StationRecord), r.spans = (t.station n).spans → P t → P (t.setStation n r) :=
    fun r same ht => kit.layout (sameLayout_setStation same) ht
  unfold State.offerMic
  repeat' split
  · exact hs
  · exact hs
  · exact station _ rfl (kit.quiet hs rfl rfl rfl rfl rfl rfl rfl rfl)
  · exact kit.countedFrom _ (station _ rfl hs)

/-- A word whose region is no window word. -/
theorem EngineKept.offerWord {s : State} (r : Region) (w : WriteWord) (other : ∀ k, r ≠ .window k) (hs : P s) :
    P (s.offerWord (r, w)) := by
  cases r with
  | window k => exact absurd rfl (other k)
  | sense z offset => exact kit.offerSense z offset w hs
  | microphone n offset => exact kit.offerMic n offset w hs
  | pageRing offset => exact kit.pages offset w.data hs
  | anchorBlock _ => exact hs
  | playout _ _ => exact hs
  | earpiece _ _ => exact hs
  | pinned _ => exact hs
  | plain => exact hs

end engines

/-! ## The control window -/

/-- The state a take leaves: the state it found, or what the command's own rule made of it (R27). -/
theorem judgeTake_after (s : State) (fresh : Bool) :
    (s.judgeTake fresh).after = s ∨ ∃ cmd value, s.ownRule cmd = .ok (value, (s.judgeTake fresh).after) := by
  unfold State.judgeTake State.judgeCommand
  dsimp only
  split
  · exact .inl rfl
  split
  · exact .inl rfl
  split
  · exact .inl rfl
  split
  · exact .inl rfl
  split
  · exact .inl rfl
  split
  · split
    · next rule => exact .inr ⟨_, _, rule⟩
    · exact .inl rfl
  · exact .inl rfl

section tables

variable {P : State → Prop} (kit : TableKept P)
include kit

/-- An accepted command (R27). -/
theorem TableKept.ownRule {s t : State} {cmd : Command} {value : Nat} (h : s.ownRule cmd = .ok (value, t)) (hs : P s) : P t := by
  have ans : ∀ {priority : Nat} {source : StartSource} {zones : ZoneSet},
      s.takeAns priority source zones = .ok (value, t) → P t := fun h => by
    obtain ⟨n, hn, free, page, rfl⟩ := takeAns_ok h
    exact kit.starts _ _ hn free (fun z hz => zonesTaken_lt hz) page hs
  cases cmd with
  | ansClip priority zones base periods repeats => exact ans h
  | ansLive priority zones => exact ans h
  | ansGroup priority zones group => exact ans h
  | ansNone => cases h
  | anx index =>
    simp only [State.ownRule, State.takeAnx] at h
    repeat' split at h
    all_goals cases h
    exact kit.ends _ (by omega) hs
  | pgc => exact kit.closes h hs
  | ict station group =>
    simp only [State.ownRule, State.takeIct] at h
    split at h
    · cases h
    · cases h
      exact kit.moveTalk station (talkOf group) hs
  | icl station groups =>
    simp only [State.ownRule, State.takeIcl] at h
    split at h
    · cases h
    · cases h
      exact kit.layout (sameLayout_setStation rfl) hs
  | als =>
    simp only [State.ownRule, State.takeAls] at h
    split at h
    · cases h
    · cases h
      exact kit.enterSounding _ hs
  | asi =>
    simp only [State.ownRule, State.takeAsi] at h
    split at h
    · cases h
      exact kit.alarm _ hs
    · cases h
  | aen =>
    simp only [State.ownRule, State.takeAen] at h
    split at h
    · cases h
    · cases h
      exact kit.post _ (kit.alarm _ hs)
  | svr zones =>
    simp only [State.ownRule, State.takeSvr] at h
    split at h
    · cases h
    · cases h
      exact forEach_keeps (fun z _ u hu =>
        kit.layout (sameLayout_setZone (e := (u.zone z).unsupervised) rfl rfl) hu) hs
  | shg =>
    simp only [State.ownRule, State.takeShg] at h
    repeat' split at h
    all_goals cases h
    · exact kit.consider (kit.post _ (kit.setShow _ hs))
    · exact kit.consider (kit.fireCue hs)
  | shh =>
    simp only [State.ownRule, State.takeShh] at h
    split at h
    · cases h
      exact kit.pauses (kit.hold _ hs)
    · cases h
  | shr =>
    simp only [State.ownRule, State.takeShr] at h
    repeat' split at h
    all_goals cases h
    exact kit.consider (kit.resumeShow hs)
  | shs =>
    simp only [State.ownRule, State.takeShs] at h
    split at h
    · cases h
    · cases h
      exact kit.clearShow hs
  | pin base length => exact kit.pinning h hs
  | unp entry => exact kit.unpinning h hs
  | rst scope =>
    simp only [State.ownRule, State.takeRst] at h
    repeat' split at h
    all_goals cases h
    · exact kit.releaseBusy (kit.clearShow (kit.clearIntercom (kit.endAll .restart (kit.control _ hs))))
    · exact kit.clearIntercom (kit.endGroupStreams (kit.control _ hs))
    · exact kit.releaseBusy (kit.clearShow (kit.control _ hs))
  | cnc zones stations page =>
    simp only [State.ownRule, State.takeCnc] at h
    split at h
    · cases h
    · cases h
      have zonesCleared := kit.layout (sameLayout_zones (s := s)
        (zones := clearMembers s.zones (zoneIn zones) ZoneEntry.clearCounters) fun z hz => by
          rw [clearMembers, Bank.get_ofFn _ z hz]; split <;> exact ⟨rfl, rfl⟩) hs
      have stationsCleared := kit.layout (sameLayout_stations
        (stations := clearMembers s.stations (flag stations) StationRecord.clearTorn) fun n hn => by
          rw [clearMembers, Bank.get_ofFn _ n hn]; split <;> rfl) zonesCleared
      exact kit.quiet stationsCleared rfl rfl rfl rfl rfl rfl (by dsimp only; split <;> rfl) rfl

theorem TableKept.take {s : State} (hs : P s) : P s.take := by
  have judged : P (State.judgeTake { s with control := { s.control with freshHeader := false } }
      s.control.freshHeader).after := by
    have begun : P { s with control := { s.control with freshHeader := false } } := kit.control _ hs
    rcases judgeTake_after { s with control := { s.control with freshHeader := false } } s.control.freshHeader
      with same | ⟨cmd, value, ok⟩
    · rw [same]; exact begun
    · exact kit.ownRule ok begun
  exact kit.control _ judged

theorem TableKept.writePort {s : State} (w : WriteWord) (hs : P s) : P (s.writePort w) := by
  refine kit.control _ ?_
  cases h : s.offerTable w with
  | none => exact kit.control _ hs
  | some t =>
    unfold State.offerTable at h
    split at h
    · cases h
    · exact kit.tables h hs

theorem TableKept.writeWindow {s : State} (k : Nat) (w : WriteWord) (hs : P s) : P (s.writeWindow k w) := by
  unfold State.writeWindow
  repeat' split
  · exact kit.control _ hs
  · exact kit.control _ hs
  · exact kit.writePort w hs
  · unfold State.writeSlot
    dsimp only
    split
    · exact kit.take (kit.control _ hs)
    · exact kit.control _ hs
  · exact hs

/-- Every word of a burst, a window word too. -/
theorem TableKept.offerWord {s : State} (r : Region) (w : WriteWord) (hs : P s) : P (s.offerWord (r, w)) := by
  by_cases window : ∃ k, r = .window k
  · obtain ⟨k, rfl⟩ := window
    exact kit.writeWindow k w hs
  · exact kit.toEngineKept.offerWord r w (fun k h => window ⟨k, h⟩) hs

end tables

/-! ## Every work -/

/-- The words of a burst, where what each keeps the whole keeps. -/
theorem foldl_offerWord_keeps {P : State → Prop} {ps : List (Region × WriteWord)}
    (word : ∀ p ∈ ps, ∀ s, P s → P (s.offerWord p)) {s : State} (hs : P s) : P (ps.foldl State.offerWord s) := by
  induction ps generalizing s with
  | nil => exact hs
  | cons p ps ih => exact ih (fun q hq => word q (List.mem_cons_of_mem _ hq)) (word p List.mem_cons_self s hs)

/-- A burst that passes, where its words and the examined anchor record keep the law (R5, R12). -/
theorem EngineKept.passWrite {P : State → Prop} (kit : EngineKept P) {s : State} (tag addr : Nat) (words : List WriteWord)
    (offers : P (s.offerBurst addr words)) (hs : P s) : P (s.passWrite tag addr words) := by
  unfold State.passWrite
  repeat' split
  · exact hs
  · exact kit.answer _ hs
  · exact kit.answer _ hs
  · exact kit.quiet offers rfl rfl rfl rfl rfl rfl rfl rfl

/-- Every work keeps a law that the engines keep, that a burst's offering keeps and that holds at the reset values. -/
theorem EngineKept.works {P : State → Prop} (kit : EngineKept P)
    (bursts : ∀ (s : State) (addr : Nat) (words : List WriteWord), P s → P (s.offerBurst addr words))
    (resets : ∀ cause drain lines draws pending, P (State.resetWith cause drain lines draws pending))
    (w : Laws.Work) (s : State) (hs : P s) : P (w.act s) := by
  cases w with
  | passRead tag addr count => exact kit.passRead tag addr count hs
  | passWrite tag addr words => exact kit.passWrite tag addr words (bursts s addr words hs) hs
  | arbitrate => exact kit.arbitrate hs
  | memoryReturns tag answer => exact kit.memoryReturns tag answer hs
  | fullReset cause => exact resets _ _ _ _ _
  | releaseReset => exact kit.quiet hs rfl rfl rfl rfl rfl rfl rfl rfl
  | clockEdge gap order => exact kit.clockEdge gap order hs
  | referenceStep order => exact kit.referenceStep order hs
  | expireGap order => exact kit.expireGap order hs
  | changePanel a b => exact kit.changePanel a b hs
  | showPulse => exact kit.showPulse hs

/-- And so does every step (R193). -/
theorem EngineKept.step {P : State → Prop} (kit : EngineKept P)
    (bursts : ∀ (s : State) (addr : Nat) (words : List WriteWord), P s → P (s.offerBurst addr words))
    (resets : ∀ cause drain lines draws pending, P (State.resetWith cause drain lines draws pending))
    {s t : State} (hs : P s) (h : Machine.step s = .next t) : P t :=
  Laws.step_keeps (fun _ _ hs => kit.quiet hs rfl rfl rfl rfl rfl rfl rfl rfl)
    (fun _ hs => kit.quiet hs rfl rfl rfl rfl rfl rfl rfl rfl) (fun _ hs => kit.control _ hs)
    (kit.works bursts resets) hs h

end Sys2Proof.Machine
end

section
/-! SUPPORT. What a table write can do to the rings and the streams, and what the stream engine's acts leave of the regions. -/

namespace Sys2Proof.Machine

/-! ## Table writes (R51 to R56, R112, R113) -/

theorem bank_set_beyond {n : Nat} {α : Type} (b : Bank n α) {i : Nat} (a : α) (h : n ≤ i) : b.set i a = b :=
  Bank.ext_cells (List.set_eq_of_length_le (by rw [b.size]; exact h))

/-- Everything a table write can do to the layout: nothing; a zone mapped where R51 allows it or unmapped; a station activated
where R112 allows it or deactivated. -/
inductive TableEffect (s t : State) : Prop
  | same (h : SameLayout s t)
  | maps (z : Nat) (e : ZoneEntry) (hz : z < 64) (unmapped : (s.zone z).spans = []) (placeable : s.zonePlaceable e = true)
      (h : SameLayout (s.setZone z (s.mapped e)) t)
  | unmaps (z : Nat) (e : ZoneEntry) (hz : z < 64) (spans : e.spans = []) (bound : e.bound = none) (h : SameLayout (s.setZone z e) t)
  | activates (n : Nat) (r : StationRecord) (hn : n < 32) (inactive : (s.station n).spans = [])
      (placeable : s.stationPlaceable r = true) (h : SameLayout (s.setStation n { r.clearOwn with active := true }) t)
  | deactivates (n : Nat) (r : StationRecord) (hn : n < 32) (spans : r.spans = []) (h : SameLayout (s.setStation n r) t)

theorem spans_unmapped {e : ZoneEntry} (h : e.mapped = false) : e.spans = [] := by simp [ZoneEntry.spans, h]

theorem spans_inactive {r : StationRecord} (h : r.active = false) : r.spans = [] := by simp [StationRecord.spans, h]

theorem sameLayout_setShow (s : State) (r : ShowRecord) : SameLayout s (s.setShow r) :=
  sameLayout_of_eq rfl rfl rfl rfl rfl rfl rfl rfl

theorem sameLayout_evaluateFallback (s : State) : SameLayout s s.evaluateFallback := by
  unfold State.evaluateFallback
  split
  · exact .refl s
  · exact sameLayout_of_eq rfl rfl rfl rfl rfl rfl rfl rfl

/-- A write of ZONE word 0 (R51 to R56). -/
theorem writeZoneShape_effect {s t : State} {z : Nat} {data : Word} (h : s.writeZoneShape z data = some t) : TableEffect s t := by
  by_cases hz : z < 64
  swap
  · have noop : ∀ e, s.setZone z e = s := fun e => congrArg (fun b => { s with zones := b }) (bank_set_beyond _ _ (by omega))
    unfold State.writeZoneShape State.mapZone State.unmapZone at h
    dsimp only at h
    repeat' split at h
    all_goals cases h
    · rw [noop]; exact .same (.refl s)
    · rw [noop]; exact .same (sameLayout_setShow s _)
    · rw [noop]; exact .same (sameLayout_setShow s _)
  unfold State.writeZoneShape State.mapZone State.unmapZone at h
  dsimp only at h
  split at h
  · next unmapped _ =>
    split at h
    · cases h
      exact .same (sameLayout_setZone (by rw [spans_unmapped unmapped, spans_unmapped]; exact unmapped) rfl)
    · cases h
  · next unmapped _ =>
    split at h
    · next ok =>
      cases h
      rw [Bool.and_eq_true] at ok
      exact .maps z _ hz (spans_unmapped unmapped) ok.2 (sameLayout_setShow _ _)
    · cases h
  · cases h
  · split at h
    · next ok =>
      cases h
      exact .unmaps z ((s.zone z).withShape (zoneShapeOf data)).unmapped hz (spans_unmapped rfl) ok.2.2
        (sameLayout_setShow _ _)
    · cases h

/-- A write of a word of the ZONE table (R49 to R56). -/
theorem writeZone_effect {s t : State} {z w : Nat} {data : Word} (h : s.writeZone z w data = some t) : TableEffect s t := by
  have base : ∀ e : ZoneEntry, e.mapped = (s.zone z).mapped → e.bound = (s.zone z).bound →
      baseOk (!(s.zone z).mapped) data = true → SameLayout s (s.setZone z e) := fun e mapped bound free => by
    simp only [baseOk, Bool.and_eq_true, Bool.not_eq_true'] at free
    exact sameLayout_setZone (by rw [spans_unmapped free.1, spans_unmapped (mapped.trans free.1)]) bound
  unfold State.writeZone at h
  split at h
  · exact writeZoneShape_effect h
  · split at h
    · next free => cases h; exact .same (base _ rfl rfl free)
    · cases h
  · split at h
    · next free => cases h; exact .same (base _ rfl rfl free)
    · cases h
  · unfold State.writeProgram at h
    split at h
    · cases h
      refine .same (sameLayout_setZone ?_ ?_)
      · unfold ZoneEntry.followProgram; split <;> rfl
      · unfold ZoneEntry.followProgram; split <;> rfl
    · cases h
  · unfold State.writeOverlay at h
    split at h
    · cases h; exact .same (sameLayout_setZone rfl rfl)
    · cases h
  · unfold State.writePriority at h
    split at h
    · cases h
      have stored : ∀ e : ZoneEntry, e.spans = (s.zone z).spans → e.bound = (s.zone z).bound →
          SameLayout s (s.setZone z e).evaluateFallback := fun e spans bound =>
        (sameLayout_setZone spans bound).trans (sameLayout_evaluateFallback _)
      exact .same (stored _ rfl rfl)
    · cases h
  · cases h; exact .same (sameLayout_setZone rfl rfl)
  · cases h

/-- A write of STATION word 0 (R112, R113). -/
theorem writeStationShape_effect {s t : State} {n : Nat} {data : Word} (h : s.writeStationShape n data = some t) :
    TableEffect s t := by
  by_cases hn : n < 32
  swap
  · have noop : ∀ r, s.setStation n r = s := fun r =>
      congrArg (fun b => { s with stations := b }) (bank_set_beyond _ _ (by omega))
    unfold State.writeStationShape State.activateStation State.deactivateStation at h
    dsimp only at h
    repeat' split at h
    all_goals cases h
    all_goals rw [noop]; exact .same (.refl s)
  unfold State.writeStationShape State.activateStation State.deactivateStation at h
  dsimp only at h
  split at h
  · next inactive _ =>
    split at h
    · cases h
      exact .same (sameLayout_setStation (by rw [spans_inactive inactive, spans_inactive]; exact inactive))
    · cases h
  · next inactive _ =>
    split at h
    · next ok =>
      cases h
      rw [Bool.and_eq_true] at ok
      exact .activates n _ hn (spans_inactive inactive) ok.2 (.refl _)
    · cases h
  · cases h
  · split at h
    · cases h
      exact .deactivates n _ hn (spans_inactive rfl) (.refl _)
    · cases h

/-- A write of a word of the STATION table (R111 to R113). -/
theorem writeStation_effect {s t : State} {n w : Nat} {data : Word} (h : s.writeStation n w data = some t) :
    TableEffect s t := by
  have base : ∀ r : StationRecord, r.active = (s.station n).active → baseOk (!(s.station n).active) data = true →
      SameLayout s (s.setStation n r) := fun r active free => by
    simp only [baseOk, Bool.and_eq_true, Bool.not_eq_true'] at free
    exact sameLayout_setStation (by rw [spans_inactive free.1, spans_inactive (active.trans free.1)])
  unfold State.writeStation at h
  split at h
  · exact writeStationShape_effect h
  · split at h
    · next free => cases h; exact .same (base _ rfl free)
    · cases h
  · split at h
    · next free => cases h; exact .same (base _ rfl free)
    · cases h
  · split at h
    · cases h; exact .same (sameLayout_setStation rfl)
    · cases h
  · cases h

/-- A write of a word of the GROUP table (R114, R115). -/
theorem writeGroup_effect {s t : State} {g w : Nat} {data : Word} (h : s.writeGroup g w data = some t) : SameLayout s t := by
  have group : ∀ r, SameLayout s (s.setGroup g r) := fun r => sameLayout_of_eq rfl rfl rfl rfl rfl rfl rfl rfl
  unfold State.writeGroup State.writeGroupFlags State.undefineGroup at h
  dsimp only at h
  repeat' split at h
  all_goals cases h
  · exact group _
  · exact group _
  · exact group _
  · exact (group _).trans (sameLayout_mapStations fun r => by unfold StationRecord.forgetGroup; split <;> rfl)
  · exact group _

/-- Any table write (R35). -/
theorem writeTable_effect {s t : State} {table : PortTable} {i : Nat} {data : Word} (h : s.writeTable table i data = some t) :
    TableEffect s t := by
  cases table with
  | config =>
    simp only [State.writeTable, State.writeConfig] at h
    repeat' split at h
    all_goals cases h
    all_goals exact .same (sameLayout_of_eq rfl rfl rfl rfl rfl rfl rfl rfl)
  | zone => exact writeZone_effect h
  | station => exact writeStation_effect h
  | group => exact .same (writeGroup_effect h)
  | cue =>
    have quiet : ∀ u : State, u.transit = s.transit → u.zones = s.zones → u.stations = s.stations → u.page = s.page →
        u.streams = s.streams → TableEffect s u := fun u transit zones stations page streams =>
      .same (sameLayout_of_eq (by rw [transit]) (by rw [transit]) zones stations (by rw [transit]) (by rw [transit])
        (by rw [page]) streams)
    simp only [State.writeTable] at h
    split at h
    · unfold State.writeLength at h
      dsimp only at h
      repeat' split at h
      all_goals cases h
      all_goals exact quiet _ rfl rfl rfl rfl rfl
    · unfold State.writeCue at h
      split at h
      · obtain ⟨c, -, rfl⟩ := Option.map_eq_some_iff.mp h
        exact quiet _ rfl rfl rfl rfl rfl
      · cases h
  | pattern =>
    simp only [State.writeTable, State.writePattern] at h
    repeat' split at h
    all_goals cases h
    all_goals exact .same (sameLayout_of_eq rfl rfl rfl rfl rfl rfl rfl rfl)
  | pin => cases h
  | stream => cases h
  | counter => cases h

/-! ## The stream engine leaves every region (R4) -/

theorem sameRegions_setStream (s : State) (n : Nat) (r : StreamRecord) : SameRegions s (s.setStream n r) :=
  sameRegions_of_eq rfl rfl rfl rfl

theorem sameRegions_endStream (cause : EndCause) (n : Nat) (s : State) : SameRegions s (s.endStream cause n) :=
  have same := endStream_same cause n s
  sameRegions_of_eq same.anchor same.pins same.zones same.stations

theorem sameRegions_fetch (n : Nat) (s : State) : SameRegions s (s.fetch n) := by
  unfold State.fetch
  dsimp only
  split
  · exact sameRegions_of_eq rfl rfl rfl rfl
  · exact .refl s

theorem sameRegions_bindZones (s : State) (n : Nat) (zs : List Nat) : SameRegions s (s.bindZones n zs) := by
  have bound : SameRegions s (s.forEach zs (State.bindZone n)) :=
    forEach_keeps (fun z _ t ht => ht.trans (sameRegions_setZone rfl)) (.refl s)
  refine forEach_keeps (fun m _ t ht => ?_) bound
  unfold State.preemptIfEmpty
  split
  · exact ht.trans (sameRegions_endStream .preempted m t)
  · exact ht

theorem sameRegions_startStream (s : State) (n priority : Nat) (owner : StreamOwner) (source : StartSource) (zs : List Nat) :
    SameRegions s (s.startStream n owner priority source zs) := by
  have bound := (sameRegions_setStream s n ((s.stream n).setUp owner priority source)).trans (sameRegions_bindZones _ n zs)
  cases source with
  | clip base periods repeats => exact bound.trans (sameRegions_fetch n _)
  | live => exact bound.trans (sameRegions_of_eq rfl rfl rfl rfl)
  | group g => exact bound

theorem sameRegions_freeIfDrained (n : Nat) (s : State) : SameRegions s (s.freeIfDrained n) := by
  unfold State.freeIfDrained
  dsimp only
  split
  · exact sameRegions_setStream s n _
  · exact .refl s

theorem sameRegions_unbindAll (n : Nat) (s : State) : SameRegions s (s.unbindAll n) where
  anchor := rfl
  pins := rfl
  zoneSpans z h := by
    unfold State.zone State.unbindAll
    rw [Bank.get_map _ _ z h]
    split <;> rfl
  stationSpans _ _ := rfl

theorem sameRegions_pageWatch (n : Nat) (s : State) : SameRegions s (s.pageWatch n) := by
  unfold State.pageWatch
  dsimp only
  repeat' split
  · exact (sameRegions_setStream s n _).trans (sameRegions_endStream _ n _)
  · exact sameRegions_setStream s n _
  · exact .refl s

theorem sameRegions_tickRecord (before : State) (n : Nat) (s : State) : SameRegions s (State.tickRecord before n s) := by
  have starting : SameRegions s (s.tickStarting n) := by
    unfold State.tickStarting
    dsimp only
    split
    · exact (sameRegions_setStream s n _).trans (sameRegions_endStream _ n _)
    · exact (sameRegions_setStream s n _).trans (sameRegions_pageWatch n _)
  have playing : SameRegions s (s.tickPlaying n) := by
    unfold State.tickPlaying
    dsimp only
    split
    · exact (sameRegions_setStream s n _).trans (sameRegions_endStream _ n _)
    · exact (((sameRegions_setStream s n _).trans (sameRegions_setStream _ n _)).trans (sameRegions_pageWatch n _)).trans
        (sameRegions_fetch n _)
  have ending : SameRegions s (s.tickEnding n) :=
    ((sameRegions_setStream s n _).trans (sameRegions_unbindAll n _)).trans (sameRegions_freeIfDrained n _)
  unfold State.tickRecord
  repeat' split
  · exact .refl s
  · exact starting
  · exact .refl s
  · exact playing
  · exact .refl s
  · exact ending
  · exact .refl s

theorem sameRegions_offerPeriod (g : Nat) (samples : Bank 48 Word) (n : Nat) (s : State) :
    SameRegions s (State.offerPeriod g samples n s) := by
  unfold State.offerPeriod
  dsimp only
  repeat' split
  · exact sameRegions_of_eq rfl rfl rfl rfl
  · exact sameRegions_setStream s n _
  · exact .refl s

theorem sameRegions_countedFrom (s : State) (before : Nat) : SameRegions s (s.countedFrom before) := by
  unfold State.countedFrom
  split
  · exact sameRegions_of_eq rfl rfl rfl rfl
  · exact .refl s

theorem sameRegions_page (s : State) (p : PageRingRecord) : SameRegions s { s with page := p } := sameRegions_of_eq rfl rfl rfl rfl

theorem sameRegions_dropPeriod (n : Nat) (s : State) : SameRegions s (s.dropPeriod n) :=
  ((sameRegions_setStream s n _).trans (sameRegions_page _ _)).trans (sameRegions_countedFrom _ _)

theorem sameRegions_newPagePeriod (s : State) (n p : Nat) (word : Word) : SameRegions s (s.newPagePeriod n p word) := by
  unfold State.newPagePeriod
  dsimp only
  split
  · exact sameRegions_of_eq rfl rfl rfl rfl
  · exact sameRegions_dropPeriod n s

theorem sameRegions_offerPage (s : State) (offset : Nat) (word : Word) : SameRegions s (s.offerPage offset word) := by
  unfold State.offerPage State.pageStray State.pageStart State.pageSample
  dsimp only
  repeat' split
  · exact (sameRegions_page s _).trans (sameRegions_countedFrom _ _)
  · exact .refl s
  · exact sameRegions_setStream s _ _
  · exact sameRegions_newPagePeriod s _ _ _
  · exact (((sameRegions_setStream s _ _).trans (sameRegions_dropPeriod _ _)).trans (sameRegions_page _ _)).trans
      (sameRegions_newPagePeriod _ _ _ _)
  · exact sameRegions_of_eq rfl rfl rfl rfl
  · exact sameRegions_setStream s _ _
  · exact .refl s

theorem sameRegions_ownResponse (s : State) (k : Nat) (r : OwnRequest) (status : MemStatus) (words : List Word) :
    SameRegions s (s.ownResponse k r status words) := by
  have freed : SameRegions s { s with transit := { s.transit with ownTags := s.transit.ownTags.set k none } } :=
    sameRegions_of_eq rfl rfl rfl rfl
  refine freed.trans ?_
  unfold State.ownResponse State.ownData
  dsimp only
  repeat' split
  · exact sameRegions_endStream _ _ _
  · exact (sameRegions_setStream _ _ _).trans (sameRegions_fetch _ _)
  · exact (sameRegions_freeIfDrained _ _).trans (sameRegions_of_eq rfl rfl rfl rfl)

/-- What is read from the regions alone, every engine keeps. -/
theorem engineKept_of_sameRegions {P : State → Prop} (transport : ∀ {s t : State}, SameRegions s t → P s → P t) :
    EngineKept P where
  layout same hs := transport same.toSameRegions hs
  ends cause n s _ hs := transport (sameRegions_endStream cause n s) hs
  starts owner priority _ _ _ _ _ _ hs := transport (sameRegions_startStream _ _ priority owner _ _) hs
  pauses {s} hs := transport (s := s) (sameRegions_of_eq rfl rfl rfl rfl) hs
  resumes {s} hs := transport (s := s) (sameRegions_of_eq rfl rfl rfl rfl) hs
  ticks before n s _ hs := transport (sameRegions_tickRecord before n s) hs
  offers g samples n s _ hs := transport (sameRegions_offerPeriod g samples n s) hs
  pages offset word s hs := transport (sameRegions_offerPage s offset word) hs
  closes {s _ _} h hs := by
    unfold State.takePgc at h
    split at h
    · cases h
    · cases h; exact transport (s := s) (sameRegions_of_eq rfl rfl rfl rfl) hs
  issues {s o rest} _ hs := by
    unfold State.issueOwn
    split
    · exact hs
    · exact transport (s := s) (sameRegions_of_eq rfl rfl rfl rfl) hs
  responds {s k r} status words _ _ hs := transport (sameRegions_ownResponse s k r status words) hs

end Sys2Proof.Machine
end

section
/-! SUPPORT. The regions of memory stay disjoint (R4, R9). -/

namespace Sys2Proof.Machine

/-! ## The regions as one entry's and the others' -/

/-- A list joined from a list with one entry replaced: the entry's part and what the others give. -/
theorem flatMap_set_perm {α β : Type} (f : α → List β) (l : List α) {i : Nat} (h : i < l.length) (a : α) :
    ((l.set i a).flatMap f).Perm (f a ++ (l.eraseIdx i).flatMap f) := by
  rw [List.set_eq_take_append_cons_drop, if_pos h, List.eraseIdx_eq_take_drop_succ, List.flatMap_append, List.flatMap_append,
    List.flatMap_cons, ← List.append_assoc, ← List.append_assoc]
  exact List.Perm.append_right _ List.perm_append_comm

/-- The regions of the part, with zone `z` told apart. -/
theorem regions_setZone (s : State) {z : Nat} (h : z < 64) :
    ∃ others, ∀ e, ((s.setZone z e).regions).Perm (e.spans ++ others) := by
  refine ⟨(anchorBlock :: anchorSpans s.transit.anchor) ++ ((s.zones.cells.eraseIdx z).flatMap ZoneEntry.spans
    ++ (s.stations.cells.flatMap StationRecord.spans ++ s.transit.pins.cells.flatMap PinEntry.spans)), fun e => ?_⟩
  have told := flatMap_set_perm ZoneEntry.spans s.zones.cells (by rw [s.zones.size]; exact h) e
  refine (((told.append_left _).append_right _).append_right _).trans ?_
  rw [List.append_assoc, List.append_assoc, List.append_assoc e.spans]
  exact List.perm_append_comm_assoc _ _ _

theorem regions_setStation (s : State) {n : Nat} (h : n < 32) :
    ∃ others, ∀ r, ((s.setStation n r).regions).Perm (r.spans ++ others) := by
  refine ⟨(anchorBlock :: anchorSpans s.transit.anchor ++ s.zones.cells.flatMap ZoneEntry.spans)
    ++ ((s.stations.cells.eraseIdx n).flatMap StationRecord.spans ++ s.transit.pins.cells.flatMap PinEntry.spans), fun r => ?_⟩
  have told := flatMap_set_perm StationRecord.spans s.stations.cells (by rw [s.stations.size]; exact h) r
  refine ((told.append_left _).append_right _).trans ?_
  rw [List.append_assoc, List.append_assoc r.spans]
  exact List.perm_append_comm_assoc _ _ _

theorem regions_setPin (s : State) {e : Nat} (h : e < 8) :
    ∃ others, ∀ p, ((s.setPin e p).regions).Perm (p.spans ++ others) := by
  refine ⟨(anchorBlock :: anchorSpans s.transit.anchor ++ s.zones.cells.flatMap ZoneEntry.spans
    ++ s.stations.cells.flatMap StationRecord.spans) ++ (s.transit.pins.cells.eraseIdx e).flatMap PinEntry.spans, fun p => ?_⟩
  have told := flatMap_set_perm PinEntry.spans s.transit.pins.cells (by rw [s.transit.pins.size]; exact h) p
  exact (told.append_left _).trans (List.perm_append_comm_assoc _ _ _)

/-- The same anchor, pins and rings are the same regions. -/
theorem SameRegions.regions {s t : State} (same : SameRegions s t) : t.regions = s.regions := by
  have zones : t.zones.cells.map ZoneEntry.spans = s.zones.cells.map ZoneEntry.spans := by
    refine List.ext_getElem (by simp [Bank.size]) fun z h _ => ?_
    have hz : z < 64 := by simpa [Bank.size] using h
    have := same.zoneSpans z hz
    simp only [State.zone, Bank.get_eq_getElem _ _ hz] at this
    simpa using this
  have stations : t.stations.cells.map StationRecord.spans = s.stations.cells.map StationRecord.spans := by
    refine List.ext_getElem (by simp [Bank.size]) fun n h _ => ?_
    have hn : n < 32 := by simpa [Bank.size] using h
    have := same.stationSpans n hn
    simp only [State.station, Bank.get_eq_getElem _ _ hn] at this
    simpa using this
  unfold State.regions
  rw [List.flatMap_def, List.flatMap_def, List.flatMap_def, zones, stations, same.anchor, same.pins]
  rfl

/-! ## Disjointness -/

theorem overlaps_comm (p q : Span) : p.overlaps q = q.overlaps p := Bool.and_comm _ _

theorem clearOf_mem {s : State} {p q : Span} (clear : s.clearOf p = true) (hq : q ∈ s.regions) : p.overlaps q = false := by
  simpa using List.all_eq_true.mp clear q hq

/-- Of regions told apart into one entry's and the others', the others are disjoint, and so are new regions of the entry that meet
neither one another nor the others. -/
theorem disjoint_replace {before after old new others : List Span}
    (disjoint : before.Pairwise fun p q => p.overlaps q = false) (hb : before.Perm (old ++ others))
    (ha : after.Perm (new ++ others)) (among : new.Pairwise fun p q => p.overlaps q = false)
    (clear : ∀ p ∈ new, ∀ q ∈ before, p.overlaps q = false) : after.Pairwise fun p q => p.overlaps q = false := by
  have symm : ∀ {p q : Span}, p.overlaps q = false → q.overlaps p = false := fun h => by rw [overlaps_comm]; exact h
  rw [ha.pairwise_iff symm, List.pairwise_append]
  rw [hb.pairwise_iff symm, List.pairwise_append] at disjoint
  exact ⟨among, disjoint.2.1, fun p hp q hq => clear p hp q (hb.mem_iff.mpr (List.mem_append_right _ hq))⟩

/-- The law in an anchored part. -/
def AnchoredRegions (s : State) : Prop := s.transit.anchor.isSome = true ∧ RegionLaw s

theorem anchoredRegions_iff (s : State) :
    AnchoredRegions s ↔ s.transit.anchor.isSome = true ∧ s.regions.Pairwise fun p q => p.overlaps q = false := by
  constructor
  · exact fun ⟨anchored, law⟩ => ⟨anchored, law.disjoint⟩
  · refine fun ⟨anchored, disjoint⟩ => ⟨anchored, disjoint, fun h => ?_⟩
    rw [h] at anchored; cases anchored

theorem SameRegions.law {s t : State} (same : SameRegions s t) (law : RegionLaw s) : RegionLaw t where
  disjoint := same.regions ▸ law.disjoint
  unanchored h := same.regions ▸ law.unanchored (same.anchor ▸ h)

theorem SameRegions.anchored {s t : State} (same : SameRegions s t) (h : AnchoredRegions s) : AnchoredRegions t :=
  ⟨same.anchor ▸ h.1, same.law h.2⟩

/-- One entry's regions replaced, in an anchored part. -/
theorem AnchoredRegions.replace {s t : State} {old new others : List Span} (h : AnchoredRegions s)
    (anchor : t.transit.anchor = s.transit.anchor) (hs : s.regions.Perm (old ++ others)) (ht : t.regions.Perm (new ++ others))
    (among : new.Pairwise fun p q => p.overlaps q = false) (clear : ∀ p ∈ new, s.clearOf p = true) : AnchoredRegions t :=
  (anchoredRegions_iff t).mpr ⟨anchor ▸ h.1,
    disjoint_replace h.2.disjoint hs ht among fun p hp _ hq => clearOf_mem (clear p hp) hq⟩

/-- A zone mapped where its rings meet nothing, or unmapped (R51, R55). -/
theorem AnchoredRegions.setZone {s : State} (h : AnchoredRegions s) {z : Nat} (hz : z < 64) {e : ZoneEntry}
    (among : e.spans.Pairwise fun p q => p.overlaps q = false) (clear : ∀ p ∈ e.spans, s.clearOf p = true) :
    AnchoredRegions (s.setZone z e) := by
  obtain ⟨others, told⟩ := regions_setZone s hz
  have before : s.setZone z (s.zone z) = s := congrArg (fun b => { s with zones := b }) (Bank.set_get s.zones z)
  exact h.replace rfl (before ▸ told (s.zone z)) (told e) among clear

theorem AnchoredRegions.setStation {s : State} (h : AnchoredRegions s) {n : Nat} (hn : n < 32) {r : StationRecord}
    (among : r.spans.Pairwise fun p q => p.overlaps q = false) (clear : ∀ p ∈ r.spans, s.clearOf p = true) :
    AnchoredRegions (s.setStation n r) := by
  obtain ⟨others, told⟩ := regions_setStation s hn
  have before : s.setStation n (s.station n) = s := congrArg (fun b => { s with stations := b }) (Bank.set_get s.stations n)
  exact h.replace rfl (before ▸ told (s.station n)) (told r) among clear

theorem AnchoredRegions.setPin {s : State} (h : AnchoredRegions s) {e : Nat} (he : e < 8) {p : PinEntry}
    (clear : ∀ q ∈ p.spans, s.clearOf q = true) : AnchoredRegions (s.setPin e p) := by
  obtain ⟨others, told⟩ := regions_setPin s he
  have before : s.setPin e (s.transit.pins.get e) = s :=
    congrArg (fun b => { s with transit := { s.transit with pins := b } }) (Bank.set_get s.transit.pins e)
  have among : p.spans.Pairwise fun p q => p.overlaps q = false := by
    unfold PinEntry.spans; split <;> simp
  exact h.replace rfl (before ▸ told (s.transit.pins.get e)) (told p) among clear

/-- The rings of a zone that R51 lets be mapped. -/
theorem zonePlaceable_spans {s : State} {e : ZoneEntry} (h : s.zonePlaceable e = true) :
    (s.mapped e).spans.Pairwise (fun p q => p.overlaps q = false) ∧ ∀ p ∈ (s.mapped e).spans, s.clearOf p = true := by
  simp only [State.zonePlaceable, Bool.and_eq_true, Bool.or_eq_true, Bool.not_eq_true'] at h
  obtain ⟨⟨-, playout⟩, sense⟩ := h
  have spans : (s.mapped e).spans = if e.sensePresent then [e.playoutSpan, e.senseSpan] else [e.playoutSpan] := rfl
  rw [spans]
  split
  · next present =>
    rw [present] at sense
    obtain ⟨⟨-, apart⟩, sense⟩ := sense.resolve_left (by decide)
    simp [apart, playout, sense]
  · simp [playout]

/-- The rings of a station that R112 lets be activated. -/
theorem stationPlaceable_spans {s : State} {r : StationRecord} (h : s.stationPlaceable r = true) :
    ({ r.clearOwn with active := true } : StationRecord).spans.Pairwise (fun p q => p.overlaps q = false)
      ∧ ∀ p ∈ ({ r.clearOwn with active := true } : StationRecord).spans, s.clearOf p = true := by
  simp only [State.stationPlaceable, Bool.and_eq_true, Bool.not_eq_true'] at h
  obtain ⟨⟨⟨-, apart⟩, mic⟩, ear⟩ := h
  have spans : ({ r.clearOwn with active := true } : StationRecord).spans = [r.micSpan, r.earSpan] := rfl
  simp [spans, apart, mic, ear]

/-! ## Every act -/

theorem anchoredRegions_kept : TableKept AnchoredRegions where
  toEngineKept := engineKept_of_sameRegions fun same h => same.anchored h
  tables h law := by
    cases writeTable_effect h with
    | same effect => exact effect.toSameRegions.anchored law
    | maps z e hz _ placeable effect =>
      obtain ⟨among, clear⟩ := zonePlaceable_spans placeable
      exact effect.toSameRegions.anchored (law.setZone hz among clear)
    | unmaps z e hz spans _ effect =>
      exact effect.toSameRegions.anchored (law.setZone hz (by simp [spans]) (by simp [spans]))
    | activates n r hn _ placeable effect =>
      obtain ⟨among, clear⟩ := stationPlaceable_spans placeable
      exact effect.toSameRegions.anchored (law.setStation hn among clear)
    | deactivates n r hn spans effect =>
      exact effect.toSameRegions.anchored (law.setStation hn (by simp [spans]) (by simp [spans]))
  pinning {s t base length e} h law := by
    unfold State.takePin at h
    split at h
    · cases h
    next placeable =>
    split at h
    · cases h
    next e free =>
    split at h
    · cases h
    cases h
    have he : e < 8 := List.mem_range.mp (List.mem_of_find?_eq_some free)
    refine law.setPin he fun q hq => ?_
    obtain rfl : q = { base := base, length := length } := by simpa [PinEntry.spans, PinEntry.span] using hq
    simp only [Bool.not_eq_true', Bool.not_eq_false, State.pinPlaceable, Bool.and_eq_true] at placeable
    exact placeable.2
  unpinning {s t entry e} h law := by
    unfold State.takeUnp at h
    split at h
    · cases h
    next inTable =>
    repeat' split at h
    all_goals cases h
    exact law.setPin (by omega) (by simp [PinEntry.spans])

/-- A word of an unanchored part with no region but the anchor block is no window word (R4, R9). -/
theorem classify_unanchored {s : State} (h : s.transit.anchor = none) (addr k : Nat) : s.classify addr ≠ .window k := by
  have zones : ∀ z, s.classifyZone addr z ≠ some (.window k) := fun z => by
    unfold State.classifyZone; dsimp only; repeat' split
    all_goals simp
  have stations : ∀ n, s.classifyStation addr n ≠ some (.window k) := fun n => by
    unfold State.classifyStation; dsimp only; repeat' split
    all_goals simp
  have pins : ∀ e, s.classifyPin addr e ≠ some (.window k) := fun e => by
    unfold State.classifyPin; dsimp only; split <;> simp
  have anchor : s.classifyAnchor addr ≠ some (.window k) := by
    unfold State.classifyAnchor; simp only [h]; split <;> simp
  have found : ∀ {f : Nat → Option Region} {l : List Nat}, (∀ i, f i ≠ some (.window k)) → l.findSome? f ≠ some (.window k) :=
    fun none hf => by
      obtain ⟨i, -, hi⟩ := List.exists_of_findSome?_eq_some hf
      exact none i hi
  intro window
  unfold State.classify at window
  rw [Option.getD_eq_iff] at window
  rcases window with window | ⟨-, plain⟩
  · simp only [Option.or_eq_some_iff] at window
    rcases window with h | ⟨-, h | ⟨-, h | ⟨-, h⟩⟩⟩
    · exact anchor h
    · exact found zones h
    · exact found stations h
    · exact found pins h
  · cases plain

/-- The anchor an accepted record gives: its window and its page ring meet neither one another nor the anchor block (R12). -/
theorem anchorOf_disjoint {words : List Word} {a : Anchor} (h : anchorOf words = some a) :
    [anchorBlock, a.windowSpan, a.pageSpan].Pairwise fun p q => p.overlaps q = false := by
  unfold anchorOf at h
  dsimp only at h
  split at h
  · next accepted =>
    cases h
    obtain ⟨-, -, -, -, -, -, apart, window, page⟩ := accepted
    simp only [Bool.not_eq_true'] at apart window page
    rw [overlaps_comm] at window page
    exact List.pairwise_cons.mpr
      ⟨List.forall_mem_cons.mpr ⟨window, List.forall_mem_singleton.mpr page⟩, List.pairwise_pair.mpr apart⟩
  · cases h

/-- An examined anchor record, in an unanchored part (R11, R12). -/
theorem examineAnchor_regionLaw {s : State} (words : List WriteWord) (unanchored : s.transit.anchor = none) (law : RegionLaw s) :
    RegionLaw (s.examineAnchor words) := by
  unfold State.examineAnchor
  split
  · next a accepted =>
    have only := law.unanchored unanchored
    have anchored : ∀ rest : List Span, s.regions = anchorBlock :: anchorSpans s.transit.anchor ++ rest → rest = [] :=
      fun rest h => by rw [only, unanchored] at h; simpa [anchorSpans] using h
    have regions : State.regions { s with transit := { s.transit with anchor := some a } }
        = [anchorBlock, a.windowSpan, a.pageSpan] := by
      have := anchored (s.zones.cells.flatMap ZoneEntry.spans ++ s.stations.cells.flatMap StationRecord.spans
        ++ s.transit.pins.cells.flatMap PinEntry.spans) (by simp [State.regions])
      simp only [List.append_eq_nil_iff] at this
      obtain ⟨⟨zones, stations⟩, pins⟩ := this
      simp only [State.regions, zones, stations, pins, List.append_nil]
      rfl
    exact ⟨regions ▸ anchorOf_disjoint accepted, fun h => nomatch h⟩
  · exact (sameRegions_of_eq (s := s) (t := s.addError .anchor) rfl rfl rfl rfl).law law

/-- Offering a burst (R5). -/
theorem offerBurst_regionLaw (s : State) (addr : Nat) (words : List WriteWord) (law : RegionLaw s) :
    RegionLaw (s.offerBurst addr words) := by
  have kit : EngineKept RegionLaw := engineKept_of_sameRegions fun same h => same.law h
  unfold State.offerBurst
  split
  · next h =>
    simp only [examined, Bool.and_eq_true, Option.isNone_iff_eq_none] at h
    exact examineAnchor_regionLaw words h.1.1.1 law
  · cases anchor : s.transit.anchor with
    | none =>
      refine foldl_offerWord_keeps (fun p hp t ht => ?_) law
      have region := (List.of_mem_zip (a := p.1) (b := p.2) hp).1
      obtain ⟨j, -, classified⟩ := List.mem_map.mp region
      exact kit.offerWord p.1 p.2 (fun k h => classify_unanchored anchor _ _ (classified.trans h)) ht
    | some a =>
      have anchored : AnchoredRegions s := ⟨by rw [anchor]; rfl, law⟩
      exact (foldl_offerWord_keeps (fun p _ t ht => anchoredRegions_kept.offerWord p.1 p.2 ht) anchored).2

/-- Settles O59: the regions change at an accepted anchor record, a mapping, an activation or a pinning, each of which the part takes
only where the new regions meet none that exists, and at what removes regions. -/
theorem regionsStayDisjoint : Obligations.RegionsStayDisjoint := fun _ _ law h =>
  (engineKept_of_sameRegions fun same h => same.law h).step offerBurst_regionLaw regionLaw_resetWith law h

end Sys2Proof.Machine
end

section
/-! SUPPORT. The law of one stream record (R83), and how a change of records carries the law of streams through. -/

namespace Sys2Proof.Machine

/-! ## Queues -/

/-- A slot queue of R83: at most four slots, each with a buffer of its own, and only the last FILLING. -/
structure QueueLaw (q : List Slot) : Prop where
  short : q.length ≤ 4
  own : (q.map fun x => x.buffer).Nodup
  inRange : ∀ x ∈ q, x.buffer < 4
  fillingLast : ∀ x ∈ q.dropLast, x.ready = true

theorem queueLaw_nil : QueueLaw [] := ⟨by simp, by simp, by simp, by simp⟩

theorem QueueLaw.tail {q : List Slot} (h : QueueLaw q) : QueueLaw q.tail where
  short := by rw [List.length_tail]; have := h.short; omega
  own := by rw [List.map_tail]; exact h.own.sublist (List.tail_sublist _)
  inRange x hx := h.inRange x (List.mem_of_mem_tail hx)
  fillingLast x hx := by
    cases q with
    | nil => exact absurd hx List.not_mem_nil
    | cons y q =>
      cases q with
      | nil => exact absurd hx List.not_mem_nil
      | cons z q => exact h.fillingLast x (List.mem_cons_of_mem _ hx)

theorem QueueLaw.dropFilling {q : List Slot} (h : QueueLaw q) : QueueLaw (dropFilling q) where
  short := Nat.le_trans (List.length_filter_le _ _) h.short
  own := h.own.sublist (List.filter_sublist.map _)
  inRange x hx := h.inRange x (List.mem_of_mem_filter hx)
  fillingLast _ hx := (List.mem_filter.mp (List.mem_of_mem_dropLast hx)).2

/-- Slots changed in place: the buffers stand, and a READY slot stays READY. -/
theorem QueueLaw.map {q : List Slot} (h : QueueLaw q) {f : Slot → Slot} (buffer : ∀ x, (f x).buffer = x.buffer)
    (ready : ∀ x, x.ready = true → (f x).ready = true) : QueueLaw (q.map f) where
  short := by rw [List.length_map]; exact h.short
  own := by rw [List.map_map, show (fun x => x.buffer) ∘ f = fun x => x.buffer from funext buffer]; exact h.own
  inRange x hx := by
    obtain ⟨y, hy, rfl⟩ := List.mem_map.mp hx
    rw [buffer]; exact h.inRange y hy
  fillingLast x hx := by
    rw [← List.map_dropLast] at hx
    obtain ⟨y, hy, rfl⟩ := List.mem_map.mp hx
    exact ready y (h.fillingLast y hy)

/-- A new last slot, behind READY ones, with a buffer that none of them holds. -/
theorem QueueLaw.concat {q : List Slot} (h : QueueLaw q) {x : Slot} (room : q.length < 4) (inRange : x.buffer < 4)
    (own : ∀ y ∈ q, y.buffer ≠ x.buffer) (ready : ∀ y ∈ q, y.ready = true) : QueueLaw (q ++ [x]) where
  short := by rw [List.length_append]; exact room
  own := by
    rw [List.map_append, List.nodup_append]
    refine ⟨h.own, List.nodup_singleton _, fun b hb c hc => ?_⟩
    obtain ⟨y, hy, rfl⟩ := List.mem_map.mp hb
    obtain rfl := List.mem_singleton.mp hc
    exact own y hy
  inRange y hy := by
    rcases List.mem_append.mp hy with hy | hy
    · exact h.inRange y hy
    · rw [List.mem_singleton.mp hy]; exact inRange
  fillingLast y hy := by rw [List.dropLast_concat] at hy; exact ready y hy

/-! ## Records -/

/-- What the law of streams says of one record. -/
structure RecordLaw (r : StreamRecord) : Prop where
  queue : QueueLaw r.queue
  headReady : r.current = true → r.headReady = true
  rested : r.atRest = true → r.queue = []
  groupReady : r.source = .group → ∀ x ∈ r.queue, x.ready = true

/-- A record changed without beginning, coming to rest or capturing: what no clause about the other parts can object to. -/
structure RecordStep (r r' : StreamRecord) : Prop where
  source : r'.source = r.source
  live : r'.live = true → r.live = true
  atRest : r'.atRest = true → r.atRest = true
  notFree : r'.state ≠ .free → r.state ≠ .free
  ready : (∀ x ∈ r.queue, x.ready = true) → ∀ x ∈ r'.queue, x.ready = true

theorem RecordStep.refl (r : StreamRecord) : RecordStep r r := ⟨rfl, id, id, id, id⟩

theorem live_of_sounding {r : StreamRecord} (h : r.sounding = true) : r.live = true := by
  unfold StreamRecord.sounding at h
  unfold StreamRecord.live
  cases hs : r.state <;> simp_all

theorem not_atRest_of_live {r : StreamRecord} (h : r.live = true) : r.atRest = false := by
  unfold StreamRecord.live at h
  unfold StreamRecord.atRest
  cases hs : r.state <;> simp_all

theorem not_free_of_live {r : StreamRecord} (h : r.live = true) : r.state ≠ .free := fun free => by
  unfold StreamRecord.live at h
  rw [free] at h; cases h

theorem holdsPage_iff (r : StreamRecord) : r.holdsPage = true ↔ r.source = .live ∧ r.state ≠ .free := by
  simp [StreamRecord.holdsPage]

/-- A record whose queue and flags of play stand. -/
theorem RecordLaw.same {r r' : StreamRecord} (h : RecordLaw r) (queue : r'.queue = r.queue) (current : r'.current = r.current)
    (source : r'.source = r.source) (atRest : r'.atRest = true → r.atRest = true) : RecordLaw r' where
  queue := queue ▸ h.queue
  headReady hc := by
    have := h.headReady (current ▸ hc)
    unfold StreamRecord.headReady at this ⊢
    rw [queue]; exact this
  rested hr := queue ▸ h.rested (atRest hr)
  groupReady hs := queue ▸ h.groupReady (source ▸ hs)

/-! ## The law from its records -/

theorem StreamLaw.record {s : State} (law : StreamLaw s) {n : Nat} (h : n < 8) : RecordLaw (s.stream n) where
  queue := ⟨law.short n h, (law.buffers n h).1, (law.buffers n h).2, law.fillingLast n h⟩
  headReady := law.headReady n h
  rested hr := (law.emptied n h hr).1
  groupReady := law.groupReady n h

/-- The law of the records together with what it says between them and of the rest of the part. -/
theorem streamLaw_of_records {s : State} (records : ∀ n < 8, RecordLaw (s.stream n))
    (unbound : ∀ n < 8, (s.stream n).atRest = true → s.zoneSetOf n = [])
    (captured : s.page.capture = none → ∀ n < 8, (s.stream n).source = .live → (s.stream n).live = true →
      ∀ x ∈ (s.stream n).queue, x.ready = true)
    (oneLive : ∀ m < 8, ∀ n < 8, (s.stream m).holdsPage = true → (s.stream n).holdsPage = true → m = n)
    (ownOrder : s.transit.ownQueue.Pairwise fun a b => a.stream ≤ b.stream) (waiting : ∀ r ∈ s.transit.ownQueue, r.stream < 8)
    (inFlight : ∀ k < 32, ∀ r, s.transit.ownTags.get k = some r → r.stream < 8) : StreamLaw s where
  short n h := (records n h).queue.short
  buffers n h := ⟨(records n h).queue.own, (records n h).queue.inRange⟩
  headReady n h := (records n h).headReady
  emptied n h hr := ⟨(records n h).rested hr, unbound n h hr⟩
  fillingLast n h := (records n h).queue.fillingLast
  groupReady n h := (records n h).groupReady
  captured := captured
  oneLive := oneLive
  ownOrder := ownOrder
  waiting := waiting
  inFlight := inFlight

theorem zoneSetOf_eq_nil (s : State) (n : Nat) : s.zoneSetOf n = [] ↔ ∀ z < 64, (s.zone z).bound ≠ some n := by
  simp [State.zoneSetOf, State.boundTo, List.filter_eq_nil_iff]

/-! ## Changes that the law stands -/

/-- The same streams, own requests and capture, and no zone that gains a stream. -/
structure SameStreams (s t : State) : Prop where
  streams : t.streams = s.streams
  capture : t.page.capture = s.page.capture
  ownQueue : t.transit.ownQueue = s.transit.ownQueue
  ownTags : t.transit.ownTags = s.transit.ownTags
  bound : ∀ z < 64, ∀ n, (t.zone z).bound = some n → (s.zone z).bound = some n

theorem SameStreams.law {s t : State} (same : SameStreams s t) (law : StreamLaw s) : StreamLaw t := by
  have stream : ∀ n, t.stream n = s.stream n := fun n => by unfold State.stream; rw [same.streams]
  refine streamLaw_of_records (fun n h => stream n ▸ law.record h) (fun n h rest => ?_) (fun capture n h => ?_)
    (fun m hm n hn => ?_) ?_ ?_ ?_
  · rw [stream] at rest
    rw [zoneSetOf_eq_nil]
    exact fun z hz bound => (zoneSetOf_eq_nil s n).mp (law.emptied n h rest).2 z hz (same.bound z hz n bound)
  · rw [stream]; exact law.captured (same.capture ▸ capture) n h
  · rw [stream, stream]; exact law.oneLive m hm n hn
  · rw [same.ownQueue]; exact law.ownOrder
  · rw [same.ownQueue]; exact law.waiting
  · rw [same.ownTags]; exact law.inFlight

/-- An act that touches nothing the law reads. -/
theorem StreamLaw.quiet {s t : State} (law : StreamLaw s) (streams : t.streams = s.streams)
    (capture : t.page.capture = s.page.capture) (ownQueue : t.transit.ownQueue = s.transit.ownQueue)
    (ownTags : t.transit.ownTags = s.transit.ownTags) (zones : t.zones = s.zones) : StreamLaw t :=
  SameStreams.law ⟨streams, capture, ownQueue, ownTags, fun z _ _ bound => by unfold State.zone at bound ⊢; rwa [← zones]⟩ law

theorem SameLayout.sameStreams {s t : State} (same : SameLayout s t) : SameStreams s t :=
  ⟨same.streams, same.capture, same.ownQueue, same.ownTags, fun z h _ bound => same.bound z h ▸ bound⟩

/-- Lawful records, each a step on from what it was, over the same zones, own requests and capture. -/
theorem StreamLaw.steps {s t : State} (law : StreamLaw s) (zones : t.zones = s.zones) (capture : t.page.capture = s.page.capture)
    (ownQueue : t.transit.ownQueue = s.transit.ownQueue) (ownTags : t.transit.ownTags = s.transit.ownTags)
    (records : ∀ n < 8, RecordLaw (t.stream n) ∧ RecordStep (s.stream n) (t.stream n)) : StreamLaw t := by
  refine streamLaw_of_records (fun n h => (records n h).1) (fun n h rest => ?_) (fun none n h live hl => ?_)
    (fun m hm n hn pm pn => ?_) (ownQueue ▸ law.ownOrder) (ownQueue ▸ law.waiting) (ownTags ▸ law.inFlight)
  · unfold State.zoneSetOf State.boundTo State.zone
    rw [zones]
    exact (law.emptied n h ((records n h).2.atRest rest)).2
  · have step := (records n h).2
    exact step.ready (law.captured (capture ▸ none) n h (step.source ▸ live) (step.live hl))
  · have held : ∀ n < 8, (t.stream n).holdsPage = true → (s.stream n).holdsPage = true := fun n h p => by
      rw [holdsPage_iff] at p ⊢
      exact ⟨(records n h).2.source ▸ p.1, (records n h).2.notFree p.2⟩
    exact law.oneLive m hm n hn (held m hm pm) (held n hn pn)

/-- One record taken a step on. -/
theorem StreamLaw.step {s : State} (law : StreamLaw s) {n : Nat} {r : StreamRecord} (record : RecordLaw r)
    (step : RecordStep (s.stream n) r) : StreamLaw (s.setStream n r) := by
  refine law.steps rfl rfl rfl rfl fun m h => ?_
  rw [stream_setStream s n m r h]
  split
  · next e => exact ⟨record, e ▸ step⟩
  · exact ⟨law.record h, .refl _⟩

/-- Every record taken a step on. -/
theorem StreamLaw.map {s : State} (law : StreamLaw s) {f : StreamRecord → StreamRecord}
    (step : ∀ r, RecordLaw r → RecordLaw (f r) ∧ RecordStep r (f r)) : StreamLaw { s with streams := s.streams.map f } := by
  refine law.steps rfl rfl rfl rfl fun n h => ?_
  rw [show State.stream { s with streams := s.streams.map f } n = f (s.stream n) from Bank.get_map f _ n h]
  exact step _ (law.record h)

/-- One record made what it was not, where nothing else of the part objects. -/
theorem StreamLaw.begin {s : State} (law : StreamLaw s) {n : Nat} {r : StreamRecord} (record : RecordLaw r)
    (unbound : r.atRest = true → s.zoneSetOf n = [])
    (captured : s.page.capture = none → r.source = .live → r.live = true → ∀ x ∈ r.queue, x.ready = true)
    (oneLive : r.holdsPage = true → ∀ m < 8, m ≠ n → (s.stream m).holdsPage = false) : StreamLaw (s.setStream n r) := by
  refine streamLaw_of_records (fun m h => ?_) (fun m h rest => ?_) (fun none m h live hl => ?_) (fun l hl m hm pl pm => ?_)
    law.ownOrder law.waiting law.inFlight
  · rw [stream_setStream s n m r h]
    split
    · exact record
    · exact law.record h
  · rw [stream_setStream s n m r h] at rest
    split at rest
    · next e => exact e ▸ unbound rest
    · exact (law.emptied m h rest).2
  · rw [stream_setStream s n m r h] at live hl ⊢
    split at live
    · next e => rw [if_pos e] at hl ⊢; exact captured none live hl
    · next e => rw [if_neg e] at hl ⊢; exact law.captured none m h live hl
  · rw [stream_setStream s n l r hl] at pl
    rw [stream_setStream s n m r hm] at pm
    split at pl
    · next el =>
      split at pm
      · next em => rw [← el, ← em]
      · next em => rw [oneLive pl m hm (Ne.symm em)] at pm; cases pm
    · next el =>
      split at pm
      · next em => rw [oneLive pm l hl (Ne.symm el)] at pl; cases pl
      · exact law.oneLive l hl m hm pl pm

/-- The page ring record changed while the LIVE record, if it plays, has no slot FILLING. -/
theorem StreamLaw.page {s : State} (law : StreamLaw s) {n : Nat} (hn : n < 8) (holds : (s.stream n).holdsPage = true)
    (ready : (s.stream n).live = true → ∀ x ∈ (s.stream n).queue, x.ready = true) (p : PageRingRecord) :
    StreamLaw { s with page := p } := by
  refine streamLaw_of_records (fun m h => law.record h) (fun m h => fun rest => (law.emptied m h rest).2)
    (fun _ m h live hl => ?_) law.oneLive law.ownOrder law.waiting law.inFlight
  have live' : (s.stream m).source = .live := live
  have hl' : (s.stream m).live = true := hl
  have : m = n := law.oneLive m h n hn ((holdsPage_iff _).mpr ⟨live', not_free_of_live hl'⟩) holds
  subst this
  exact ready hl'

/-- A capture begun: no slot is then asked to be READY. -/
theorem StreamLaw.capture {s : State} (law : StreamLaw s) {p : PageRingRecord} (some : p.capture ≠ none) :
    StreamLaw { s with page := p } :=
  streamLaw_of_records (fun _ h => law.record h) (fun m h rest => (law.emptied m h rest).2) (fun h => absurd h some)
    law.oneLive law.ownOrder law.waiting law.inFlight

/-- Fewer own requests waiting, in the same order. -/
theorem StreamLaw.ownQueue {s : State} (law : StreamLaw s) {q : List OwnRequest} (fewer : q.Sublist s.transit.ownQueue) :
    StreamLaw { s with transit := { s.transit with ownQueue := q } } :=
  streamLaw_of_records (fun _ h => law.record h) (fun m h rest => (law.emptied m h rest).2) law.captured law.oneLive
    (law.ownOrder.sublist fewer) (fun r hr => law.waiting r (fewer.subset hr)) law.inFlight

/-- One own tag given to a request of a stream, or freed. -/
theorem StreamLaw.ownTag {s : State} (law : StreamLaw s) (k : Nat) {o : Option OwnRequest} (stream : ∀ r, o = some r → r.stream < 8) :
    StreamLaw { s with transit := { s.transit with ownTags := s.transit.ownTags.set k o } } :=
  streamLaw_of_records (fun _ h => law.record h) (fun m h rest => (law.emptied m h rest).2) law.captured law.oneLive
    law.ownOrder law.waiting fun j hj r hr => by
      dsimp only at hr
      rw [Bank.get_set _ _ _ _ hj] at hr
      split at hr
      · exact stream r hr
      · exact law.inFlight j hj r hr

/-- Zone `z` moved to a stream that is not at rest (R84). -/
theorem StreamLaw.bindZone {s : State} (law : StreamLaw s) {n : Nat} (busy : (s.stream n).atRest = false) (z : Nat) :
    StreamLaw (State.bindZone n z s) := by
  refine streamLaw_of_records (fun m h => law.record h) (fun m h rest => ?_) law.captured law.oneLive law.ownOrder law.waiting
    law.inFlight
  rw [zoneSetOf_eq_nil]
  intro y hy bound
  have rest' : (s.stream m).atRest = true := rest
  rw [State.bindZone, zone_setZone _ _ _ _ hy] at bound
  split at bound
  · obtain rfl : n = m := by simpa using bound
    rw [busy] at rest'; cases rest'
  · exact (zoneSetOf_eq_nil s m).mp (law.emptied m h rest').2 y hy bound

end Sys2Proof.Machine
end

section
/-! SUPPORT. Every act of the stream engine keeps the law of streams. -/

namespace Sys2Proof.Machine

/-! ## Ending (R92) -/

theorem noteEnded_same (s : State) (n : Nat) (cause : EndCause) (owner : StreamOwner) : SameStreams s (s.noteEnded n cause owner) := by
  unfold State.noteEnded
  split <;> exact ⟨rfl, rfl, rfl, rfl, fun _ _ _ => id⟩

theorem endStream_streamLaw (cause : EndCause) {n : Nat} {s : State} (hn : n < 8) (law : StreamLaw s) :
    StreamLaw (s.endStream cause n) := by
  unfold State.endStream
  dsimp only
  split
  swap
  · exact law
  next live =>
  have record := law.record hn
  let ended : StreamRecord := { s.stream n with state := .ending, endCause := cause, drained := false }
  have stepped : StreamLaw (s.setStream n ended) :=
    law.step (record.same rfl rfl rfl nofun) ⟨rfl, nofun, nofun, fun _ => not_free_of_live live, id⟩
  have withdrawn : StreamLaw { s.setStream n ended with transit := s.transit.withdraw n } :=
    stepped.ownQueue List.filter_sublist
  have closed : ∀ t, t = { s.setStream n ended with transit := s.transit.withdraw n } →
      StreamLaw (if (s.stream n).source = .live then { t with page := t.page.close } else t) := by
    rintro t rfl
    split
    · next page =>
      have self : State.stream { s.setStream n ended with transit := s.transit.withdraw n } n = ended :=
        stream_setStream_self s n ended hn
      refine withdrawn.page hn ?_ ?_ _
      · rw [self, holdsPage_iff]; exact ⟨page, nofun⟩
      · rw [self]; exact nofun
    · exact withdrawn
  have noted := (noteEnded_same _ n cause (s.stream n).owner).law (closed _ rfl)
  exact noted.quiet rfl rfl rfl rfl rfl

/-! ## Fetching (R88) -/

theorem mem_queueOwn {t : TransitUnit} {rs : List OwnRequest} {x : OwnRequest} :
    x ∈ (t.queueOwn rs).ownQueue ↔ x ∈ rs ∨ x ∈ t.ownQueue := by
  suffices ∀ q, x ∈ rs.foldl insertOwn q ↔ x ∈ rs ∨ x ∈ q from this _
  induction rs with
  | nil => simp
  | cons r rs ih => intro q; rw [List.foldl_cons, ih, mem_insertOwn, List.mem_cons]; tauto

theorem queueOwn_ordered {t : TransitUnit} (rs : List OwnRequest) (h : t.ownQueue.Pairwise fun a b => a.stream ≤ b.stream) :
    (t.queueOwn rs).ownQueue.Pairwise fun a b => a.stream ≤ b.stream := by
  suffices ∀ q : List OwnRequest, (q.Pairwise fun a b => a.stream ≤ b.stream) →
      (rs.foldl insertOwn q).Pairwise fun a b => a.stream ≤ b.stream from this _ h
  induction rs with
  | nil => exact fun q hq => hq
  | cons r rs ih => exact fun q hq => ih _ (insertOwn_ordered q r hq)

/-- What R88 asks of a fetch. -/
theorem mayFetch_iff (r : StreamRecord) : r.mayFetch = true ↔
    r.live = true ∧ r.source = .clip ∧ r.queue.length < 4 ∧ (∀ x ∈ r.queue, x.ready = true) ∧ r.nextFetch < r.clipPeriods := by
  simp [StreamRecord.mayFetch, StreamRecord.filling, and_assoc]

theorem advanceFetch_fields (r : StreamRecord) : r.advanceFetch.queue = r.queue ∧ r.advanceFetch.current = r.current
    ∧ r.advanceFetch.source = r.source ∧ r.advanceFetch.state = r.state ∧ r.advanceFetch.drained = r.drained := by
  unfold StreamRecord.advanceFetch; split <;> exact ⟨rfl, rfl, rfl, rfl, rfl⟩

theorem headReady_append {r : StreamRecord} {q : List Slot} (h : r.headReady = true) :
    ({ r with queue := r.queue ++ q } : StreamRecord).headReady = true := by
  unfold StreamRecord.headReady at h ⊢
  cases hq : r.queue with
  | nil => rw [hq] at h; cases h
  | cons x rest => rw [hq] at h; exact h

/-- A new last slot in a chosen buffer, behind READY ones, in a record that lives. -/
theorem RecordLaw.newSlot {r : StreamRecord} (h : RecordLaw r) (live : r.live = true) (room : r.queue.length < 4)
    (ready : ∀ x ∈ r.queue, x.ready = true) {x : Slot} {draw : Nat} (buffer : x.buffer = r.chooseBuffer draw)
    (group : r.source = .group → x.ready = true) : RecordLaw { r with queue := r.queue ++ [x] } := by
  obtain ⟨inRange, own⟩ := chooseBuffer_free r draw (freeBuffers_ne_nil r room)
  refine ⟨h.queue.concat room (buffer ▸ inRange) (buffer ▸ own) ready, fun current => headReady_append (h.headReady current),
    fun rest => ?_, fun source y hy => ?_⟩
  · have : r.atRest = true := rest
    rw [not_atRest_of_live live] at this; cases this
  · rcases List.mem_append.mp hy with hy | hy
    · exact ready y hy
    · rw [List.mem_singleton.mp hy]; exact group source

theorem fetch_streamLaw {n : Nat} {s : State} (hn : n < 8) (law : StreamLaw s) : StreamLaw (s.fetch n) := by
  unfold State.fetch
  dsimp only
  split
  swap
  · exact law
  next may =>
  obtain ⟨live, clip, room, ready, -⟩ := (mayFetch_iff _).mp may
  let slot := Slot.fetching (s.stream n).passUnderFetch (s.stream n).nextFetch ((s.stream n).chooseBuffer s.freeDraws)
  let longer : StreamRecord := { s.stream n with queue := (s.stream n).queue ++ [slot] }
  obtain ⟨queue, current, source, state, drained⟩ := advanceFetch_fields longer
  have rest : longer.advanceFetch.atRest = longer.atRest := by unfold StreamRecord.atRest; rw [state, drained]
  have record : RecordLaw longer.advanceFetch :=
    ((law.record hn).newSlot live room ready (x := slot) rfl fun group => by rw [clip] at group; cases group).same
      queue current source (rest ▸ id)
  have stepped : StreamLaw (s.setStream n longer.advanceFetch) := by
    refine law.begin record (fun atRest => ?_) (fun _ page => ?_) (fun page => ?_)
    · rw [rest] at atRest
      have : (s.stream n).atRest = true := atRest
      rw [not_atRest_of_live live] at this; cases this
    · rw [source] at page; exact absurd (clip.symm.trans page) nofun
    · rw [holdsPage_iff, source] at page; exact absurd (clip.symm.trans page.1) nofun
  refine streamLaw_of_records (fun m h => stepped.record h) (fun m h rest => (stepped.emptied m h rest).2) stepped.captured
    stepped.oneLive (queueOwn_ordered _ law.ownOrder) (fun r hr => ?_) law.inFlight
  rcases mem_queueOwn.mp hr with made | waits
  · obtain ⟨k, -, rfl⟩ := List.mem_map.mp made; exact hn
  · exact law.waiting r waits

/-! ## Starting (R87) -/

theorem setUp_fields (old : StreamRecord) (owner : StreamOwner) (priority : Nat) (source : StartSource) :
    (old.setUp owner priority source).state = .starting ∧ (old.setUp owner priority source).queue = []
      ∧ (old.setUp owner priority source).current = false
      ∧ ((old.setUp owner priority source).source = .live → source = .live) := by
  cases source <;> exact ⟨rfl, rfl, rfl, by simp [StreamRecord.setUp]⟩

/-- Taking zones and preempting the streams left without any keep the law and the record that takes them (R86). -/
theorem bindZones_streamLaw {s : State} {n : Nat} (hn : n < 8) (law : StreamLaw s) (busy : (s.stream n).atRest = false)
    (zs : List Nat) : StreamLaw (s.bindZones n zs) ∧ (s.bindZones n zs).stream n = s.stream n := by
  have bound : StreamLaw (s.forEach zs (State.bindZone n)) ∧ (s.forEach zs (State.bindZone n)).stream n = s.stream n :=
    forEach_keeps (P := fun t => StreamLaw t ∧ t.stream n = s.stream n)
      (fun z _ t ht => ⟨ht.1.bindZone (ht.2 ▸ busy) z, ht.2⟩) ⟨law, rfl⟩
  refine forEach_keeps (P := fun t => StreamLaw t ∧ t.stream n = s.stream n) (fun m hm t ht => ?_) bound
  unfold State.preemptIfEmpty
  split
  · next other =>
    refine ⟨endStream_streamLaw _ (List.mem_range.mp hm) ht.1, ?_⟩
    rw [endStream_stream _ _ _ _ hn, if_neg fun h => other.1 h.1]
    exact ht.2
  · exact ht

theorem startStream_streamLaw {s : State} {n : Nat} (owner : StreamOwner) (priority : Nat) {source : StartSource} {zs : List Nat}
    (hn : n < 8) (page : source = .live → s.liveTaken = false) (law : StreamLaw s) :
    StreamLaw (s.startStream n owner priority source zs) := by
  obtain ⟨state, queue, current, isLive⟩ := setUp_fields (s.stream n) owner priority source
  have busy : ((s.stream n).setUp owner priority source).atRest = false := by simp [StreamRecord.atRest, state]
  have set : StreamLaw (s.setStream n ((s.stream n).setUp owner priority source)) := by
    refine law.begin ⟨queue ▸ queueLaw_nil, fun h => ?_, fun _ => queue, fun _ => ?_⟩ (fun h => ?_) (fun _ _ _ => ?_)
      fun holds m hm _ => ?_
    · rw [current] at h; cases h
    · rw [queue]; exact nofun
    · rw [busy] at h; cases h
    · rw [queue]; exact nofun
    · have notTaken := page (isLive ((holdsPage_iff _).mp holds).1)
      unfold State.liveTaken at notTaken
      have cells := (Bank.all_cells (fun r => ¬ (r.source == .live && r.state != .free) = true) s.streams).mp
        (List.any_eq_false.mp notTaken)
      exact Bool.eq_false_iff.mpr (cells m hm)
  obtain ⟨bound, self⟩ := bindZones_streamLaw hn set (by rw [stream_setStream_self _ _ _ hn]; exact busy) zs
  rw [stream_setStream_self _ _ _ hn] at self
  unfold State.startStream
  cases source with
  | clip base periods repeats => exact fetch_streamLaw hn bound
  | live =>
    refine bound.page hn ?_ ?_ _
    · rw [self, holdsPage_iff]; exact ⟨rfl, nofun⟩
    · rw [self, queue]; exact fun _ => nofun
  | group g => exact bound

/-! ## The tick (R90 to R93, R99, R100) -/

theorem begin_step {r : StreamRecord} (h : RecordLaw r) (live : r.live = true) : RecordLaw r.begin ∧ RecordStep r r.begin := by
  unfold StreamRecord.begin
  split
  · next ready => exact ⟨⟨h.queue, fun _ => ready, nofun, h.groupReady⟩, rfl, fun _ => live, nofun, fun _ => not_free_of_live live, id⟩
  · exact ⟨h, .refl r⟩

theorem retire_step {r : StreamRecord} (h : RecordLaw r) : RecordLaw r.retire ∧ RecordStep r r.retire := by
  unfold StreamRecord.retire
  split
  · refine ⟨⟨h.queue.tail, nofun, fun rest => ?_, fun group x hx => h.groupReady group x (List.mem_of_mem_tail hx)⟩,
      rfl, id, id, id, fun ready x hx => ready x (List.mem_of_mem_tail hx)⟩
    have : r.queue = [] := h.rested rest
    dsimp only
    rw [this]; rfl
  · exact ⟨h, .refl r⟩

theorem promote_step {r : StreamRecord} (h : RecordLaw r) : RecordLaw r.promote ∧ RecordStep r r.promote := by
  unfold StreamRecord.promote
  split
  · next ready => exact ⟨⟨h.queue, fun _ => ready, h.rested, h.groupReady⟩, rfl, id, id, id, id⟩
  · exact ⟨⟨h.queue, nofun, h.rested, h.groupReady⟩, rfl, id, id, id, id⟩

theorem pageWatch_streamLaw {n : Nat} {s : State} (hn : n < 8) (law : StreamLaw s) : StreamLaw (s.pageWatch n) := by
  have counted : StreamLaw (s.setStream n (s.stream n).countStarved) :=
    law.step ((law.record hn).same rfl rfl rfl id) ⟨rfl, id, id, id, id⟩
  unfold State.pageWatch
  dsimp only
  repeat' split
  · exact endStream_streamLaw _ hn counted
  · exact counted
  · exact law

theorem freeIfDrained_streamLaw {n : Nat} {s : State} (hn : n < 8) (law : StreamLaw s) : StreamLaw (s.freeIfDrained n) := by
  unfold State.freeIfDrained
  dsimp only
  split
  · next h =>
    have rests : (s.stream n).atRest = true := by simp [StreamRecord.atRest, h.1, h.2.1]
    exact law.step ((law.record hn).same rfl rfl rfl fun _ => rests) ⟨rfl, nofun, fun _ => rests, fun h => absurd rfl h, id⟩
  · exact law

theorem unbindAll_bound {n : Nat} {s : State} {z m : Nat} (hz : z < 64) :
    ((s.unbindAll n).zone z).bound = some m ↔ (s.zone z).bound = some m ∧ m ≠ n := by
  have zone : (s.unbindAll n).zone z = if (s.zone z).bound == some n then { s.zone z with bound := none } else s.zone z :=
    Bank.get_map _ _ z hz
  rw [zone]
  by_cases h : (s.zone z).bound = some n
  · rw [if_pos (beq_iff_eq.mpr h), h]
    exact ⟨nofun, fun ⟨same, other⟩ => absurd (Option.some.inj same).symm other⟩
  · rw [if_neg (fun e => h (beq_iff_eq.mp e))]
    exact ⟨fun b => ⟨b, fun e => h (e ▸ b)⟩, And.left⟩

theorem tickEnding_streamLaw {n : Nat} {s : State} (hn : n < 8) (law : StreamLaw s) (ending : (s.stream n).state = .ending) :
    StreamLaw (s.tickEnding n) := by
  let emptied : StreamRecord := { s.stream n with queue := [], current := false, drained := true }
  have unbound : SameStreams s (s.unbindAll n) :=
    ⟨rfl, rfl, rfl, rfl, fun z hz m bound => ((unbindAll_bound hz).mp bound).1⟩
  have drained : StreamLaw ((s.unbindAll n).setStream n emptied) := by
    refine (unbound.law law).begin ⟨queueLaw_nil, nofun, fun _ => rfl, nofun⟩ (fun _ => ?_)
      (fun _ _ _ => nofun) fun holds m hm other => ?_
    · rw [zoneSetOf_eq_nil]
      exact fun z hz bound => ((unbindAll_bound hz).mp bound).2 rfl
    · refine Bool.eq_false_iff.mpr fun holds' => other (law.oneLive m hm n hn holds' ?_)
      rw [holdsPage_iff] at holds ⊢
      exact ⟨holds.1, fun free => by rw [ending] at free; cases free⟩
  exact freeIfDrained_streamLaw hn drained

theorem tickRecord_streamLaw (before : State) {n : Nat} {s : State} (hn : n < 8) (law : StreamLaw s) :
    StreamLaw (State.tickRecord before n s) := by
  have record := law.record hn
  unfold State.tickRecord
  split
  · exact law
  · next state =>
    split
    · obtain ⟨begun, step⟩ := begin_step record (by simp [StreamRecord.live, state])
      have begins : StreamLaw (s.setStream n (s.stream n).begin) := law.step begun step
      unfold State.tickStarting
      dsimp only
      split
      · exact endStream_streamLaw _ hn begins
      · exact pageWatch_streamLaw hn begins
    · exact law
  · obtain ⟨retired, step⟩ := retire_step record
    have retires : StreamLaw (s.setStream n (s.stream n).retire) := law.step retired step
    obtain ⟨promoted, step'⟩ := promote_step (retires.record hn)
    unfold State.tickPlaying
    dsimp only
    split
    · exact endStream_streamLaw _ hn retires
    · exact fetch_streamLaw hn (pageWatch_streamLaw hn (retires.step promoted step'))
  · exact law
  · next ending =>
    split
    · exact tickEnding_streamLaw hn law ending
    · exact law

/-! ## Group offers (R101) -/

theorem offerPeriod_streamLaw (g : Nat) (samples : Bank 48 Word) {n : Nat} {s : State} (hn : n < 8) (law : StreamLaw s) :
    StreamLaw (State.offerPeriod g samples n s) := by
  have record := law.record hn
  unfold State.offerPeriod
  dsimp only
  split
  swap
  · exact law
  next offered =>
  obtain ⟨sounds, group, -⟩ := offered
  split
  · next room =>
    have ready := record.groupReady group
    have live := live_of_sounding sounds
    have longer : RecordLaw { s.stream n with
        queue := (s.stream n).queue ++ [Slot.offered ((s.stream n).chooseBuffer s.freeDraws)] } :=
      record.newSlot live room ready rfl fun _ => rfl
    have offers : StreamLaw (s.setStream n { s.stream n with
        queue := (s.stream n).queue ++ [Slot.offered ((s.stream n).chooseBuffer s.freeDraws)],
        buffers := (s.stream n).buffers.set ((s.stream n).chooseBuffer s.freeDraws) samples }) :=
      law.step (longer.same rfl rfl rfl id) ⟨rfl, id, id, id, fun _ => longer.groupReady group⟩
    exact offers.quiet rfl rfl rfl rfl rfl
  · exact law.step (record.same rfl rfl rfl id) ⟨rfl, id, id, id, id⟩

/-! ## Own responses (R89) -/

/-- Writing samples changes the buffers only. -/
theorem foldl_writeSample {α : Type} (b i : α → Nat) (word : α → Word) (ps : List α) (r : StreamRecord) :
    ps.foldl (fun r p => r.writeSample (b p) (i p) (word p)) r
      = { r with buffers := (ps.foldl (fun r p => r.writeSample (b p) (i p) (word p)) r).buffers } := by
  induction ps generalizing r with
  | nil => rfl
  | cons p ps ih => rw [List.foldl_cons, ih]; rfl

/-- Placing a part changes the buffers, and the slots it is labelled for. -/
theorem place_eq (r : StreamRecord) (o : OwnRequest) (words : List Word) :
    ∃ buffers, r.place o words
      = { r with buffers := buffers, queue := r.queue.map fun x => if x.labelled o then x.arrive else x } := by
  have samples : ∀ (slots : List Slot) (r : StreamRecord), ∃ buffers, (slots.foldl (fun r x =>
      (words.take 16).zipIdx.foldl (fun r p => r.writeSample x.buffer (16 * o.part + p.2) p.1) r) r) = { r with buffers := buffers } := by
    intro slots
    induction slots with
    | nil => exact fun r => ⟨r.buffers, rfl⟩
    | cons x slots ih =>
      intro r
      obtain ⟨buffers, h⟩ := ih ((words.take 16).zipIdx.foldl (fun r p => r.writeSample x.buffer (16 * o.part + p.2) p.1) r)
      rw [List.foldl_cons, h, foldl_writeSample (fun _ => x.buffer) (fun p : Word × Nat => 16 * o.part + p.2) (fun p => p.1)]
      exact ⟨buffers, rfl⟩
  obtain ⟨buffers, h⟩ := samples (r.queue.filter fun x => x.labelled o) r
  refine ⟨buffers, ?_⟩
  unfold StreamRecord.place
  dsimp only
  rw [h]

/-- A READY slot is labelled for no response. -/
theorem not_labelled_of_ready {x : Slot} (o : OwnRequest) (h : x.ready = true) : x.labelled o = false := by
  simp [Slot.labelled, h]

theorem place_step {r : StreamRecord} (h : RecordLaw r) (o : OwnRequest) (words : List Word) :
    RecordLaw (r.place o words) ∧ RecordStep r (r.place o words) := by
  obtain ⟨buffers, e⟩ := place_eq r o words
  have kept : ∀ x : Slot, x.ready = true → (if x.labelled o then x.arrive else x) = x := fun x hx => by
    rw [not_labelled_of_ready o hx]; rfl
  have ready : (∀ x ∈ r.queue, x.ready = true) → ∀ x ∈ r.queue.map (fun x => if x.labelled o then x.arrive else x), x.ready = true :=
    fun all x hx => by
      obtain ⟨y, hy, rfl⟩ := List.mem_map.mp hx
      rw [kept y (all y hy)]; exact all y hy
  rw [e]
  refine ⟨⟨h.queue.map (fun x => by split <;> rfl) (fun x hx => by rw [kept x hx]; exact hx), fun current => ?_, fun rest => ?_,
    fun group => ready (h.groupReady group)⟩, rfl, id, id, id, ready⟩
  · have head := h.headReady current
    unfold StreamRecord.headReady at head ⊢
    cases hq : r.queue with
    | nil => rw [hq] at head; cases head
    | cons x q => rw [hq] at head; exact (congrArg Slot.ready (kept x head)).trans head
  · have : r.queue = [] := h.rested rest
    dsimp only
    rw [this]; rfl

theorem ownResponse_streamLaw {s : State} {k : Nat} {r : OwnRequest} (status : MemStatus) (words : List Word) (hk : k < 32)
    (own : s.transit.ownTags.get k = some r) (law : StreamLaw s) : StreamLaw (s.ownResponse k r status words) := by
  have hr := law.inFlight k hk r own
  have freed := law.ownTag k (o := none) nofun
  unfold State.ownResponse State.ownData
  dsimp only
  split
  · cases status with
    | fault => exact endStream_streamLaw _ hr freed
    | ok =>
      obtain ⟨placed, step⟩ := place_step (freed.record hr) r words
      exact fetch_streamLaw hr (freed.step placed step)
  · exact ((freeIfDrained_streamLaw hr freed)).quiet rfl rfl rfl rfl rfl

/-! ## The live page (R95 to R98) -/

/-- The record of the open page (R95). -/
theorem openPage_some {s : State} {n : Nat} (h : s.openPage = some n) :
    n < 8 ∧ (s.stream n).source = .live ∧ (s.stream n).sounding = true ∧ (s.stream n).closing = false := by
  unfold State.openPage at h
  have found := List.find?_some h
  simp only [Bool.and_eq_true, beq_iff_eq, Bool.not_eq_true'] at found
  exact ⟨List.mem_range.mp (List.mem_of_find?_eq_some h), found.1.1, found.1.2, found.2⟩

theorem fill_eq (r : StreamRecord) (i : Nat) (word : Word) : r.fill i word = { r with buffers := (r.fill i word).buffers } :=
  foldl_writeSample (fun x : Slot => x.buffer) (fun _ => i) (fun _ => word) _ r

theorem fill_step {r : StreamRecord} (h : RecordLaw r) (i : Nat) (word : Word) :
    RecordLaw (r.fill i word) ∧ RecordStep r (r.fill i word) := by
  rw [fill_eq]
  exact ⟨h.same rfl rfl rfl id, rfl, id, id, id, id⟩

theorem countedFrom_same (s : State) (before : Nat) : SameStreams s (s.countedFrom before) := by
  unfold State.countedFrom
  split <;> exact ⟨rfl, rfl, rfl, rfl, fun _ _ _ => id⟩

theorem dropPeriod_streamLaw {n : Nat} {s : State} (hn : n < 8) (law : StreamLaw s) : StreamLaw (s.dropPeriod n) := by
  have dropped : StreamLaw (s.setStream n { s.stream n with droppedCount := bump (s.stream n).droppedCount }) :=
    law.step ((law.record hn).same rfl rfl rfl id) ⟨rfl, id, id, id, id⟩
  exact (countedFrom_same _ _).law (dropped.quiet rfl rfl rfl rfl rfl)

theorem dropPeriod_stream {n : Nat} {s : State} (hn : n < 8) :
    (s.dropPeriod n).stream n = { s.stream n with droppedCount := bump (s.stream n).droppedCount } := by
  have : (s.dropPeriod n).streams = (s.setStream n { s.stream n with droppedCount := bump (s.stream n).droppedCount }).streams :=
    (countedFrom_same _ _).streams
  unfold State.stream at this ⊢
  rw [this]
  exact Bank.get_set_self _ _ _ hn

theorem newPagePeriod_streamLaw {s : State} {n : Nat} (hn : n < 8) (law : StreamLaw s) (page : (s.stream n).source = .live)
    (live : (s.stream n).live = true) (ready : ∀ x ∈ (s.stream n).queue, x.ready = true) (p : Nat) (word : Word) :
    StreamLaw (s.newPagePeriod n p word) := by
  unfold State.newPagePeriod
  dsimp only
  split
  swap
  · exact dropPeriod_streamLaw hn law
  next room =>
  let slot := Slot.capturing p ((s.stream n).chooseBuffer s.freeDraws)
  have longer : RecordLaw { s.stream n with queue := (s.stream n).queue ++ [slot] } :=
    (law.record hn).newSlot live room ready rfl fun group => by rw [page] at group; cases group
  have capturing : StreamLaw { s with page := { s.page with capture := some p } } := law.capture nofun
  have begun : StreamLaw (State.setStream { s with page := { s.page with capture := some p } } n
      (({ s.stream n with queue := (s.stream n).queue ++ [slot] } : StreamRecord).writeSample
        ((s.stream n).chooseBuffer s.freeDraws) 0 word)) := by
    refine capturing.begin (longer.same rfl rfl rfl id) (fun rest => ?_) nofun fun _ m hm other => ?_
    · have : (s.stream n).atRest = true := rest
      rw [not_atRest_of_live live] at this; cases this
    · exact Bool.eq_false_iff.mpr fun holds =>
        other (law.oneLive m hm n hn holds ((holdsPage_iff _).mpr ⟨page, not_free_of_live live⟩))
  exact begun.quiet rfl rfl rfl rfl rfl

theorem mem_dropFilling {q : List Slot} {x : Slot} (h : x ∈ dropFilling q) : x ∈ q ∧ x.ready = true := List.mem_filter.mp h

/-- A record whose FILLING slot is removed (R96, R99). -/
theorem dropFilling_step {r : StreamRecord} (h : RecordLaw r) (closing : Bool) :
    RecordLaw { r with closing := closing, queue := dropFilling r.queue }
      ∧ RecordStep r { r with closing := closing, queue := dropFilling r.queue } := by
  refine ⟨⟨h.queue.dropFilling, fun current => ?_, fun rest => ?_, fun _ x hx => (mem_dropFilling hx).2⟩,
    rfl, id, id, id, fun _ x hx => (mem_dropFilling hx).2⟩
  · have head := h.headReady current
    unfold StreamRecord.headReady at head ⊢
    cases hq : r.queue with
    | nil => rw [hq] at head; cases head
    | cons x q =>
      rw [hq] at head
      have : x.ready = true := head
      simp [dropFilling, this]
  · have : r.queue = [] := h.rested rest
    dsimp only
    rw [this]; rfl

theorem pageStart_streamLaw {s : State} {n : Nat} (hn : n < 8) (law : StreamLaw s) (page : (s.stream n).source = .live)
    (live : (s.stream n).live = true) (p : Nat) (word : Word) : StreamLaw (s.pageStart n p word) := by
  unfold State.pageStart
  split
  · obtain ⟨filled, step⟩ := fill_step (law.record hn) 0 word
    exact law.step filled step
  · split
    · next none => exact newPagePeriod_streamLaw hn law page live (law.captured none n hn page live) p word
    · obtain ⟨record, step⟩ := dropFilling_step (law.record hn) (s.stream n).closing
      have removed : StreamLaw (s.setStream n { s.stream n with queue := dropFilling (s.stream n).queue }) := law.step record step
      have dropped := dropPeriod_streamLaw hn removed
      have self := dropPeriod_stream (s := s.setStream n { s.stream n with queue := dropFilling (s.stream n).queue }) hn
      rw [stream_setStream_self _ _ _ hn] at self
      have ready : ∀ x ∈ dropFilling (s.stream n).queue, x.ready = true := fun x hx => (mem_dropFilling hx).2
      have uncaptured := dropped.page hn (by rw [self]; exact (holdsPage_iff _).mpr ⟨page, not_free_of_live live⟩)
        (by rw [self]; exact fun _ => ready)
      exact newPagePeriod_streamLaw hn (uncaptured _) (self ▸ page) (self ▸ live) (self ▸ ready) p word

theorem pageSample_streamLaw {s : State} {n : Nat} (hn : n < 8) (law : StreamLaw s) (page : (s.stream n).source = .live)
    (live : (s.stream n).live = true) (p i : Nat) (word : Word) : StreamLaw (s.pageSample n p i word) := by
  obtain ⟨filled, step⟩ := fill_step (law.record hn) i word
  unfold State.pageSample
  dsimp only
  split
  swap
  · exact law
  split
  · have ready : ∀ x ∈ readyAll ((s.stream n).fill i word).queue, x.ready = true := fun x hx => by
      obtain ⟨y, -, rfl⟩ := List.mem_map.mp hx; rfl
    have source : ((s.stream n).fill i word).source = .live := by rw [fill_eq]; exact page
    have state : ((s.stream n).fill i word).state ≠ .free := by rw [fill_eq]; exact not_free_of_live live
    have record : RecordLaw { (s.stream n).fill i word with queue := readyAll ((s.stream n).fill i word).queue } := by
      refine ⟨filled.queue.map (fun _ => rfl) (fun _ _ => rfl), fun current => ?_, fun rest => ?_, fun _ => ready⟩
      · have head := filled.headReady current
        unfold StreamRecord.headReady at head ⊢
        cases hq : ((s.stream n).fill i word).queue with
        | nil => rw [hq] at head; cases head
        | cons x q => rfl
      · have : ((s.stream n).fill i word).queue = [] := filled.rested rest
        dsimp only
        rw [this]; rfl
    have closed : StreamLaw (s.setStream n
        { (s.stream n).fill i word with queue := readyAll ((s.stream n).fill i word).queue }) :=
      law.step record ⟨step.source, step.live, step.atRest, step.notFree, fun _ => ready⟩
    have self := stream_setStream_self s n { (s.stream n).fill i word with queue := readyAll ((s.stream n).fill i word).queue } hn
    exact closed.page hn (by rw [self]; exact (holdsPage_iff _).mpr ⟨source, state⟩) (by rw [self]; exact fun _ => ready) _
  · exact law.step filled step

theorem offerPage_streamLaw (offset : Nat) (word : Word) {s : State} (law : StreamLaw s) : StreamLaw (s.offerPage offset word) := by
  unfold State.offerPage
  dsimp only
  split
  · unfold State.pageStray
    split
    · exact (countedFrom_same _ _).law (law.quiet rfl rfl rfl rfl rfl)
    · exact law
  · next n opened =>
    obtain ⟨hn, page, sounds, -⟩ := openPage_some opened
    split
    · exact pageStart_streamLaw hn law page (live_of_sounding sounds) _ word
    · exact pageSample_streamLaw hn law page (live_of_sounding sounds) _ _ word

theorem takePgc_streamLaw {s t : State} {n : Nat} (h : s.takePgc = .ok (n, t)) (law : StreamLaw s) : StreamLaw t := by
  unfold State.takePgc at h
  split at h
  · cases h
  next m opened =>
  cases h
  obtain ⟨hn, page, sounds, -⟩ := openPage_some opened
  obtain ⟨record, step⟩ := dropFilling_step (law.record hn) true
  have self := stream_setStream_self s n { s.stream n with closing := true, queue := dropFilling (s.stream n).queue } hn
  refine (law.step record step).page hn ?_ ?_ _
  · rw [self]; exact (holdsPage_iff _).mpr ⟨page, not_free_of_live (live_of_sounding sounds)⟩
  · rw [self]; exact fun _ x hx => (mem_dropFilling hx).2

/-! ## Pausing and resuming (R104), and issuing (R18) -/

theorem pause_step {r : StreamRecord} (h : RecordLaw r) : RecordLaw r.pause ∧ RecordStep r r.pause := by
  unfold StreamRecord.pause
  split
  · next paused =>
    have live := live_of_sounding paused.2
    exact ⟨h.same rfl rfl rfl nofun, rfl, fun _ => live, nofun, fun _ => not_free_of_live live, id⟩
  · exact ⟨h, .refl r⟩

theorem resume_step {r : StreamRecord} (h : RecordLaw r) : RecordLaw r.resume ∧ RecordStep r r.resume := by
  unfold StreamRecord.resume
  split
  · next resumed =>
    have live : r.live = true := by simp [StreamRecord.live, resumed.2]
    have rest : ({ r with state := if r.current then .playing else .starting } : StreamRecord).atRest = true →
        r.atRest = true := by cases hc : r.current <;> simp [StreamRecord.atRest]
    exact ⟨h.same rfl rfl rfl rest, rfl, fun _ => live, rest, fun _ => not_free_of_live live, id⟩
  · exact ⟨h, .refl r⟩

theorem issueOwn_streamLaw {s : State} {o : OwnRequest} {rest : List OwnRequest} (waits : s.transit.ownQueue = o :: rest)
    (law : StreamLaw s) : StreamLaw (s.issueOwn o) := by
  unfold State.issueOwn
  split
  · exact law
  · next k _ =>
    have shorter := law.ownQueue (List.tail_sublist s.transit.ownQueue)
    have tagged := shorter.ownTag k (o := some o) fun r hr => by
      cases hr; exact law.waiting _ (waits ▸ List.mem_cons_self)
    exact tagged.quiet rfl rfl rfl rfl rfl

/-! ## Every act -/

theorem streamLaw_kept : TableKept StreamLaw where
  layout same law := same.sameStreams.law law
  ends cause _ _ hn law := endStream_streamLaw cause hn law
  starts owner priority _ _ hn _ _ page law := startStream_streamLaw owner priority hn page law
  pauses law := law.map fun _ => pause_step
  resumes law := law.map fun _ => resume_step
  ticks before _ _ hn law := tickRecord_streamLaw before hn law
  offers g samples _ _ hn law := offerPeriod_streamLaw g samples hn law
  pages offset word _ law := offerPage_streamLaw offset word law
  closes h law := takePgc_streamLaw h law
  issues waits law := issueOwn_streamLaw waits law
  responds status words hk own law := ownResponse_streamLaw status words hk own law
  tables {s t table i data} h law := by
    have unbound : ∀ (z : Nat) (e : ZoneEntry), e.bound = none → SameStreams s (s.setZone z e) := fun z e none =>
      ⟨rfl, rfl, rfl, rfl, fun y hy n bound => by
        rw [zone_setZone _ _ _ _ hy] at bound
        split at bound
        · rw [none] at bound; cases bound
        · exact bound⟩
    cases writeTable_effect h with
    | same effect => exact effect.sameStreams.law law
    | maps z e _ _ _ effect => exact effect.sameStreams.law ((unbound z (s.mapped e) rfl).law law)
    | unmaps z e _ _ none effect => exact effect.sameStreams.law ((unbound z e none).law law)
    | activates n r _ _ _ effect =>
      exact effect.sameStreams.law (law.quiet rfl rfl rfl rfl rfl)
    | deactivates n r _ _ effect =>
      exact effect.sameStreams.law (law.quiet rfl rfl rfl rfl rfl)
  pinning {s t base length e} h law := by
    unfold State.takePin at h
    repeat' split at h
    all_goals cases h
    exact law.quiet rfl rfl rfl rfl rfl
  unpinning {s t entry e} h law := by
    unfold State.takeUnp at h
    repeat' split at h
    all_goals cases h
    exact law.quiet rfl rfl rfl rfl rfl

theorem offerBurst_streamLaw (s : State) (addr : Nat) (words : List WriteWord) (law : StreamLaw s) :
    StreamLaw (s.offerBurst addr words) := by
  unfold State.offerBurst
  split
  · unfold State.examineAnchor
    split <;> exact law.quiet rfl rfl rfl rfl rfl
  · exact foldl_offerWord_keeps (fun p _ t ht => streamLaw_kept.offerWord p.1 p.2 ht) law

/-- Settles O58: every act of the stream engine keeps the law, and no other act touches what it reads but to unbind a zone. -/
theorem streamLawHoldsAtEveryStep : Obligations.StreamLawHoldsAtEveryStep := fun _ _ law h =>
  streamLaw_kept.toEngineKept.step offerBurst_streamLaw streamLaw_resetWith law h

end Sys2Proof.Machine
end

section
/-! SUPPORT. The anchor record (R11, R12), and the words of a burst: their regions and their listeners (R4, R5, R22). -/

namespace Sys2Proof.Machine

/-! ## The anchor record -/

theorem overlaps_eq_false (p q : Span) : p.overlaps q = false ↔ p.base + p.length ≤ q.base ∨ q.base + q.length ≤ p.base := by
  simp only [Span.overlaps, Bool.and_eq_false_iff, decide_eq_false_iff_not, Nat.not_lt]
  exact Or.comm

theorem holds_iff (p : Span) (addr : Nat) : p.holds addr = true ↔ p.base ≤ addr ∧ addr < p.base + p.length := by
  simp [Span.holds]

/-- A word of the anchor block is classified as such, whatever else there is (R4). -/
theorem classify_anchorBlock (s : State) {addr : Nat} (h : anchorBlock.holds addr = true) :
    s.classify addr = .anchorBlock (addr - 0x80) := by
  unfold State.classify State.classifyAnchor
  rw [if_pos h]; rfl

/-- The checks of R12 on the eight words of a record. -/
theorem anchorOf_record (r : AnchorRecord) : anchorOf (anchorWords r)
    = if r.format = 1#32
        ∧ field r.trailer 0 16 = (crc16 [r.format, r.window, r.pageRing, r.word3, r.word4, r.word5, r.word6]).toNat
        ∧ r.window.toNat % 1024 = 0 ∧ r.pageRing.toNat % 64 = 0 ∧ r.window.toNat + 1023 ≤ 268435455
        ∧ r.pageRing.toNat + 383 ≤ 268435455
        ∧ (r.window.toNat + 1024 ≤ r.pageRing.toNat ∨ r.pageRing.toNat + 384 ≤ r.window.toNat)
        ∧ (r.window.toNat + 1024 ≤ 0x80 ∨ 0x88 ≤ r.window.toNat) ∧ (r.pageRing.toNat + 384 ≤ 0x80 ∨ 0x88 ≤ r.pageRing.toNat)
      then some { window := r.window.toNat, pageRing := r.pageRing.toNat } else none := by
  have words : ∀ p : Prop, [Decidable p] → ∀ q : Prop, [Decidable q] → (p ↔ q) → ∀ a : Anchor,
      (if p then some a else none) = if q then some a else none := fun p _ q _ h a => by simp only [h]
  refine words _ _ ?_ _
  simp only [Bool.not_eq_true', overlaps_eq_false]
  exact Iff.rfl

/-- The burst of an anchor record to an unanchored part: examined, then queued (R5, R11). -/
theorem passWrite_anchorRecord {s : State} {tag : Nat} (r : AnchorRecord) (accepts : s.accepts tag = true)
    (unanchored : s.transit.anchor = none) :
    s.passWrite tag 0x80 ((anchorWords r).map wholeWord) = (s.examineAnchor ((anchorWords r).map wholeWord)).queued tag
      { isWrite := true, addr := 0x80, count := 8 } (.write tag 0x80 ((anchorWords r).map wholeWord)) := by
  have block : ∀ j < 8, s.classify (0x80 + j) = .anchorBlock (0x80 + j - 0x80) := fun j hj =>
    classify_anchorBlock s ((holds_iff _ _).mpr ⟨Nat.le_add_right _ _, Nat.add_lt_add_left hj _⟩)
  have unpinned : (s.burstRegions 0x80 8).any Region.isPinned = false := by
    refine List.any_eq_false.mpr fun region h => ?_
    obtain ⟨j, hj, rfl⟩ := List.mem_map.mp h
    rw [block j (List.mem_range.mp hj)]
    exact Bool.false_ne_true
  have isExamined : examined s.transit.anchor 0x80 ((anchorWords r).map wholeWord) = true := by
    rw [unanchored]; rfl
  rw [passWrite_queued tag 0x80 ((anchorWords r).map wholeWord) accepts unpinned]
  unfold State.offerBurst
  rw [if_pos isExamined]
  rfl

/-- Settles O14: the part examines the burst, and `anchorOf` is the checks of R12 in their order. -/
theorem anchorRecordExamined : Obligations.AnchorRecordExamined := by
  intro s tag r port htag free unanchored accepted words queued
  have passed := passWrite_anchorRecord r (accepts_of_free port htag free) (s := s.begun) unanchored
  have examine : s.begun.examineAnchor words = match anchorOf (anchorWords r) with
      | some a => { s.begun with transit := { s.transit with anchor := some a } }
      | none => s.begun.addError .anchor := rfl
  have row : exec (.anchorRecord tag r) s = .next (queued (s.begun.examineAnchor words)) := by
    rw [show queued (s.begun.examineAnchor words) = (s.begun.passWrite tag 0x80 words).latch from
      (congrArg State.latch passed).symm]
    rfl
  rw [row, examine, anchorOf_record]
  exact ⟨fun h => by rw [if_pos h], fun h => by rw [if_neg h]; rfl⟩

end Sys2Proof.Machine
end

section
/-! SUPPORT. The region of a word, by the spans of the regions that exist (R4). -/

namespace Sys2Proof.Machine

/-! ## The regions with what a word in each is classified as -/

def anchorLabels (a : Option Anchor) (addr : Nat) : List (Span × Region) :=
  match a with
  | none => []
  | some a => [(a.windowSpan, .window (addr - a.window)), (a.pageSpan, .pageRing (addr - a.pageRing))]

def State.zoneLabels (s : State) (addr z : Nat) : List (Span × Region) :=
  let playout := ((s.zone z).playoutSpan, Region.playout z (addr - (s.zone z).playoutBase))
  let sense := ((s.zone z).senseSpan, Region.sense z (addr - (s.zone z).senseBase))
  if (s.zone z).mapped then (if (s.zone z).sensePresent then [playout, sense] else [playout]) else []

def State.stationLabels (s : State) (addr n : Nat) : List (Span × Region) :=
  if (s.station n).active then
    [((s.station n).micSpan, .microphone n (addr - (s.station n).micBase)),
      ((s.station n).earSpan, .earpiece n (addr - (s.station n).earBase))]
  else []

def State.pinLabels (s : State) (e : Nat) : List (Span × Region) :=
  if (s.transit.pins.get e).inUse then [((s.transit.pins.get e).span, .pinned e)] else []

/-- Every region that exists, with the region of the word `addr` should it lie there. -/
def State.labels (s : State) (addr : Nat) : List (Span × Region) :=
  (anchorBlock, .anchorBlock (addr - 0x80)) :: (anchorLabels s.transit.anchor addr
    ++ (List.range 64).flatMap (s.zoneLabels addr) ++ (List.range 32).flatMap (s.stationLabels addr)
    ++ (List.range 8).flatMap s.pinLabels)

/-- The cells of a bank are what it reads at its indices. -/
theorem bank_flatMap_cells {n : Nat} [NeZero n] {α β : Type} (b : Bank n α) (f : α → List β) :
    b.cells.flatMap f = (List.range n).flatMap fun i => f (b.get i) := by
  have cells : b.cells = (List.range n).map b.get := by
    refine List.ext_getElem (by simp [b.size]) fun i h _ => ?_
    rw [List.getElem_map, List.getElem_range, Bank.get_eq_getElem b i (by rw [← b.size]; exact h)]
  rw [cells, List.flatMap_map]

/-- The labelled spans are the regions. -/
theorem labels_spans (s : State) (addr : Nat) : (s.labels addr).map Prod.fst = s.regions := by
  have anchor : (anchorLabels s.transit.anchor addr).map Prod.fst = anchorSpans s.transit.anchor := by
    cases s.transit.anchor <;> rfl
  have zone : ∀ z, (s.zoneLabels addr z).map Prod.fst = (s.zones.get z).spans := fun z => by
    unfold State.zoneLabels ZoneEntry.spans State.zone
    dsimp only
    repeat' split
    all_goals rfl
  have station : ∀ n, (s.stationLabels addr n).map Prod.fst = (s.stations.get n).spans := fun n => by
    unfold State.stationLabels StationRecord.spans State.station
    split <;> rfl
  have pin : ∀ e, (s.pinLabels e).map Prod.fst = (s.transit.pins.get e).spans := fun e => by
    unfold State.pinLabels PinEntry.spans
    split <;> rfl
  simp only [State.labels, State.regions, List.map_cons, List.map_append, List.map_flatMap, anchor, zone, station, pin,
    bank_flatMap_cells, List.cons_append]

/-! ## Classification is the search for a labelled span -/

/-- What a labelled span says of a word. -/
def labelled (addr : Nat) (l : Span × Region) : Option Region := if l.1.holds addr then some l.2 else none

theorem findSome?_flatMap_eq {α β γ : Type} (l : List α) (f : α → List β) (g : β → Option γ) :
    (l.flatMap f).findSome? g = l.findSome? fun a => (f a).findSome? g := by
  induction l with
  | nil => rfl
  | cons a l ih =>
    rw [List.flatMap_cons, List.findSome?_append, ih, List.findSome?_cons]
    cases (f a).findSome? g <;> rfl

theorem findSome?_labelled_two (addr : Nat) (p q : Span) (r t : Region) :
    [(p, r), (q, t)].findSome? (labelled addr) = if p.holds addr then some r else if q.holds addr then some t else none := by
  cases h : p.holds addr <;> cases h' : q.holds addr <;> simp [labelled, h, h']

theorem classifyAnchor_labels (s : State) (addr : Nat) : s.classifyAnchor addr
    = (labelled addr (anchorBlock, .anchorBlock (addr - 0x80))).or
        ((anchorLabels s.transit.anchor addr).findSome? (labelled addr)) := by
  unfold State.classifyAnchor labelled
  by_cases h : anchorBlock.holds addr
  · rw [if_pos h, if_pos h]; rfl
  · rw [if_neg h, if_neg h]
    cases s.transit.anchor with
    | none => rfl
    | some a => exact (findSome?_labelled_two addr _ _ _ _).symm

theorem classifyZone_labels (s : State) (addr z : Nat) :
    s.classifyZone addr z = (s.zoneLabels addr z).findSome? (labelled addr) := by
  unfold State.classifyZone State.zoneLabels
  cases mapped : (s.zone z).mapped with
  | false => simp [mapped]
  | true => cases sense : (s.zone z).sensePresent <;> simp [mapped, sense, labelled, findSome?_labelled_two]

theorem classifyStation_labels (s : State) (addr n : Nat) :
    s.classifyStation addr n = (s.stationLabels addr n).findSome? (labelled addr) := by
  unfold State.classifyStation State.stationLabels
  cases active : (s.station n).active <;> simp [active, findSome?_labelled_two]

theorem classifyPin_labels (s : State) (addr e : Nat) :
    s.classifyPin addr e = (s.pinLabels e).findSome? (labelled addr) := by
  unfold State.classifyPin State.pinLabels
  cases inUse : (s.transit.pins.get e).inUse <;> simp [inUse, labelled]

theorem classify_labels (s : State) (addr : Nat) :
    s.classify addr = ((s.labels addr).findSome? (labelled addr)).getD .plain := by
  have head : ∀ (l : Span × Region) (ls : List (Span × Region)),
      (l :: ls).findSome? (labelled addr) = (labelled addr l).or (ls.findSome? (labelled addr)) := fun l ls => by
    rw [List.findSome?_cons]; cases labelled addr l <;> rfl
  have zones : s.classifyZone addr = fun z => (s.zoneLabels addr z).findSome? (labelled addr) :=
    funext (classifyZone_labels s addr)
  have stations : s.classifyStation addr = fun n => (s.stationLabels addr n).findSome? (labelled addr) :=
    funext (classifyStation_labels s addr)
  have pins : s.classifyPin addr = fun e => (s.pinLabels e).findSome? (labelled addr) := funext (classifyPin_labels s addr)
  simp only [State.classify, State.labels, classifyAnchor_labels, zones, stations, pins, head, List.findSome?_append,
    findSome?_flatMap_eq, Option.or_assoc]

/-- Of disjoint labelled spans, the one that holds a word is the one that is found. -/
theorem findSome?_labelled {ls : List (Span × Region)} (disjoint : ls.Pairwise fun a b => a.1.overlaps b.1 = false) {addr : Nat}
    {l : Span × Region} (h : l ∈ ls) (holds : l.1.holds addr = true) : ls.findSome? (labelled addr) = some l.2 := by
  induction ls with
  | nil => exact absurd h List.not_mem_nil
  | cons m ls ih =>
    obtain ⟨apart, disjoint⟩ := List.pairwise_cons.mp disjoint
    rw [List.findSome?_cons]
    rcases List.mem_cons.mp h with rfl | h
    · rw [labelled, if_pos holds]
    · have : m.1.holds addr = false := by
        refine Bool.eq_false_iff.mpr fun both => ?_
        rw [holds_iff] at holds both
        have := (overlaps_eq_false _ _).mp (apart l h)
        omega
      rw [labelled, this]
      exact ih disjoint h

/-- A word in a region is what its label says (R4). -/
theorem classify_of_label {s : State} (law : RegionLaw s) {addr : Nat} {p : Span} {r : Region} (h : (p, r) ∈ s.labels addr)
    (within : p.base ≤ addr ∧ addr < p.base + p.length) : s.classify addr = r := by
  have disjoint : (s.labels addr).Pairwise fun a b => a.1.overlaps b.1 = false := by
    have := law.disjoint
    rw [← labels_spans s addr, List.pairwise_map] at this
    exact this
  rw [classify_labels, findSome?_labelled disjoint h ((holds_iff _ _).mpr within)]
  rfl

/-- A word in no region is plain (R4). -/
theorem classify_plain {s : State} {addr : Nat}
    (outside : ∀ l ∈ s.labels addr, ¬ (l.1.base ≤ addr ∧ addr < l.1.base + l.1.length)) : s.classify addr = .plain := by
  have none : (s.labels addr).findSome? (labelled addr) = none := by
    rw [List.findSome?_eq_none_iff]
    intro l h
    rw [labelled, if_neg fun holds => outside l h ((holds_iff _ _).mp holds)]
  rw [classify_labels, none]
  rfl

/-! ## The labels, one by one -/

theorem mem_labels {s : State} {addr : Nat} {l : Span × Region} : l ∈ s.labels addr ↔
    l = (anchorBlock, .anchorBlock (addr - 0x80)) ∨ l ∈ anchorLabels s.transit.anchor addr
      ∨ (∃ z < 64, l ∈ s.zoneLabels addr z) ∨ (∃ n < 32, l ∈ s.stationLabels addr n) ∨ ∃ e < 8, l ∈ s.pinLabels e := by
  simp only [State.labels, List.mem_cons, List.mem_append, List.mem_flatMap, List.mem_range, or_assoc]

theorem mem_zoneLabels {s : State} {addr z : Nat} {l : Span × Region} : l ∈ s.zoneLabels addr z ↔
    (s.zone z).mapped = true ∧ (l = ((s.zone z).playoutSpan, .playout z (addr - (s.zone z).playoutBase))
      ∨ (s.zone z).sensePresent = true ∧ l = ((s.zone z).senseSpan, .sense z (addr - (s.zone z).senseBase))) := by
  unfold State.zoneLabels
  cases (s.zone z).mapped <;> cases (s.zone z).sensePresent <;> simp

theorem mem_stationLabels {s : State} {addr n : Nat} {l : Span × Region} : l ∈ s.stationLabels addr n ↔
    (s.station n).active = true ∧ (l = ((s.station n).micSpan, .microphone n (addr - (s.station n).micBase))
      ∨ l = ((s.station n).earSpan, .earpiece n (addr - (s.station n).earBase))) := by
  unfold State.stationLabels
  cases (s.station n).active <;> simp

theorem mem_pinLabels {s : State} {e : Nat} {l : Span × Region} : l ∈ s.pinLabels e ↔
    (s.transit.pins.get e).inUse = true ∧ l = ((s.transit.pins.get e).span, .pinned e) := by
  unfold State.pinLabels
  cases (s.transit.pins.get e).inUse <;> simp

theorem mem_anchorLabels {a : Option Anchor} {addr : Nat} {l : Span × Region} : l ∈ anchorLabels a addr ↔
    ∃ b, a = some b ∧ (l = (b.windowSpan, .window (addr - b.window)) ∨ l = (b.pageSpan, .pageRing (addr - b.pageRing))) := by
  cases a <;> simp [anchorLabels]

/-! ## What a listener leaves alone (R5) -/

/-- Zone `z`, the control unit and the alarm unit may have changed: what the supervision of a zone touches. -/
def SupervisionOf (z : Nat) (s t : State) : Prop :=
  t = { s with zones := t.zones, control := t.control, alarm := t.alarm } ∧ ∀ y < 64, y ≠ z → t.zone y = s.zone y

/-- Station `n`, the groups and the control unit may have changed: what a microphone word touches. -/
def MicrophoneOf (n : Nat) (s t : State) : Prop :=
  t = { s with stations := t.stations, groups := t.groups, control := t.control } ∧ ∀ m < 32, m ≠ n → t.station m = s.station m

/-- The streams, the page ring record, the control unit and the free values drawn may have changed: what a page word touches. -/
def PageOnly (s t : State) : Prop :=
  t = { s with streams := t.streams, page := t.page, control := t.control, freeDraws := t.freeDraws }

theorem SupervisionOf.refl (z : Nat) (s : State) : SupervisionOf z s s := ⟨rfl, fun _ _ _ => rfl⟩

theorem SupervisionOf.trans {z : Nat} {s t u : State} (a : SupervisionOf z s t) (b : SupervisionOf z t u) : SupervisionOf z s u :=
  ⟨b.1.trans (by rw [a.1]), fun y hy other => (b.2 y hy other).trans (a.2 y hy other)⟩

theorem supervisionOf_setZone (z : Nat) (s : State) (e : ZoneEntry) : SupervisionOf z s (s.setZone z e) :=
  ⟨rfl, fun y hy other => by rw [zone_setZone _ _ _ _ hy, if_neg (Ne.symm other)]⟩

theorem supervisionOf_post (z : Nat) (s : State) (k : NoticeKind) : SupervisionOf z s (s.post k) := ⟨rfl, fun _ _ _ => rfl⟩

theorem supervisionOf_evaluateFallback (z : Nat) (s : State) : SupervisionOf z s s.evaluateFallback := by
  unfold State.evaluateFallback
  split <;> exact ⟨rfl, fun _ _ _ => rfl⟩

theorem supervisionOf_countedFrom (z : Nat) (s : State) (before : Nat) : SupervisionOf z s (s.countedFrom before) := by
  unfold State.countedFrom
  split <;> exact ⟨rfl, fun _ _ _ => rfl⟩

theorem closeSense_frame (s : State) (z : Nat) : SupervisionOf z s (s.closeSense z) := by
  have stored := supervisionOf_setZone z s ((s.zone z).closePeriod s.control.passThreshold)
  have counted := stored.trans (supervisionOf_countedFrom z _ (s.zone z).failingPeriods)
  unfold State.closeSense
  dsimp only
  split <;> split
  · exact (counted.trans (supervisionOf_post z _ _)).trans (supervisionOf_evaluateFallback z _)
  · exact (stored.trans (supervisionOf_post z _ _)).trans (supervisionOf_evaluateFallback z _)
  · exact counted
  · exact stored

theorem offerSense_frame (s : State) (z offset : Nat) (w : WriteWord) : SupervisionOf z s (s.offerSense z offset w) := by
  have scored := supervisionOf_setZone z s ((s.zone z).score (offset % 48) w)
  unfold State.offerSense
  dsimp only
  repeat' split
  · exact .refl z s
  · exact scored.trans (closeSense_frame _ z)
  · exact scored

/-- Only the position of a sense word counts (R156, R157). -/
theorem offerSense_position (s : State) (z offset : Nat) (w : WriteWord) :
    s.offerSense z offset w = s.offerSense z (offset % 48) w := by
  unfold State.offerSense
  rw [Nat.mod_mod]

theorem offerMic_frame (s : State) (n offset : Nat) (w : WriteWord) : MicrophoneOf n s (s.offerMic n offset w) := by
  have stored : ∀ (r : StationRecord) (m : Nat), m < 32 → m ≠ n → (s.setStation n r).station m = s.station m := fun r m hm other => by
    rw [station_setStation _ _ _ _ hm, if_neg (Ne.symm other)]
  unfold State.offerMic State.takeMic State.tearMic State.countedFrom
  dsimp only
  repeat' split
  · exact ⟨rfl, fun _ _ _ => rfl⟩
  · exact ⟨rfl, fun _ _ _ => rfl⟩
  · exact ⟨rfl, stored _⟩
  · exact ⟨rfl, stored _⟩
  · exact ⟨rfl, stored _⟩

theorem offerMic_position (s : State) (n offset : Nat) (w : WriteWord) :
    s.offerMic n offset w = s.offerMic n (offset % 48) w := by
  unfold State.offerMic
  rw [Nat.mod_mod]

theorem PageOnly.trans {s t u : State} (a : PageOnly s t) (b : PageOnly t u) : PageOnly s u := Eq.trans b (by rw [a])

theorem dropPeriod_frame (n : Nat) (s : State) : PageOnly s (s.dropPeriod n) := by
  unfold State.dropPeriod State.countedFrom
  dsimp only
  split <;> rfl

theorem newPagePeriod_frame (s : State) (n p : Nat) (word : Word) : PageOnly s (s.newPagePeriod n p word) := by
  unfold State.newPagePeriod
  dsimp only
  split
  · rfl
  · exact dropPeriod_frame n s

theorem offerPage_frame (s : State) (offset : Nat) (word : Word) : PageOnly s (s.offerPage offset word) := by
  unfold State.offerPage State.pageStray State.pageStart State.pageSample State.countedFrom
  dsimp only
  repeat' split
  · rfl
  · rfl
  · rfl
  · rfl
  · exact newPagePeriod_frame s _ _ _
  · exact PageOnly.trans (t := State.dropPeriod _ _) (dropPeriod_frame _ (s.setStream _ _)) (newPagePeriod_frame _ _ _ _)
  · rfl
  · rfl
  · rfl

/-- A control window word that is no listener's (R22). -/
theorem writeWindow_noListener (s : State) {k : Nat} (w : WriteWord) (h : k ≤ 15 ∨ (19 ≤ k ∧ k ≤ 31) ∨ 48 ≤ k) :
    s.writeWindow k w = s := by
  unfold State.writeWindow
  rw [if_neg (by omega), if_neg (by omega), if_neg (by omega), if_neg (by omega)]

/-- Settles O6: a burst without a pinned word is offered and queued; the region of a word is the one labelled span that holds it; the
listeners by their frames. -/
theorem wordsClassifiedOfferedAndQueued : Obligations.WordsClassifiedOfferedAndQueued := by
  refine ⟨?offered, ?region, ?listener, ?row⟩
  case offered =>
    intro s tag addr words port htag free notExamined unpinned
    have plain : (s.begun.burstRegions addr words.length).any Region.isPinned = false := by
      refine List.any_eq_false.mpr fun region h => ?_
      obtain ⟨j, hj, rfl⟩ := List.mem_map.mp h
      have : (s.begun.classify (addr + j)).isPinned = false := unpinned j (List.mem_range.mp hj)
      rw [this]; exact Bool.false_ne_true
    have offers : s.begun.offerBurst addr words
        = (((List.range words.length).map fun j => s.classify (addr + j)).zip words).foldl State.offerWord s.begun := by
      unfold State.offerBurst
      rw [if_neg (by rw [begun_transit, notExamined]; exact Bool.false_ne_true)]
      rfl
    rw [← offers, ← passWrite_queued tag addr words (accepts_of_free port htag free) plain]
    rfl
  case region =>
    intro s addr law
    refine ⟨fun h => ?_, fun a ⟨ha, h⟩ => ?_, fun a ⟨ha, h⟩ => ?_, fun z hz => ⟨fun ⟨mapped, h⟩ => ?_, fun ⟨mapped, sense, h⟩ => ?_⟩,
      fun n hn => ⟨fun ⟨active, h⟩ => ?_, fun ⟨active, h⟩ => ?_⟩, fun e he ⟨inUse, h⟩ => ?_, fun block window zone station pin => ?_⟩
    · exact classify_of_label law (mem_labels.mpr (.inl rfl)) h
    · exact classify_of_label law (mem_labels.mpr (.inr (.inl (mem_anchorLabels.mpr ⟨a, ha, .inl rfl⟩)))) h
    · exact classify_of_label law (mem_labels.mpr (.inr (.inl (mem_anchorLabels.mpr ⟨a, ha, .inr rfl⟩)))) h
    · exact classify_of_label law
        (mem_labels.mpr (.inr (.inr (.inl ⟨z, hz, mem_zoneLabels.mpr ⟨mapped, .inl rfl⟩⟩)))) h
    · exact classify_of_label law
        (mem_labels.mpr (.inr (.inr (.inl ⟨z, hz, mem_zoneLabels.mpr ⟨mapped, .inr ⟨sense, rfl⟩⟩⟩)))) h
    · exact classify_of_label law
        (mem_labels.mpr (.inr (.inr (.inr (.inl ⟨n, hn, mem_stationLabels.mpr ⟨active, .inl rfl⟩⟩))))) h
    · exact classify_of_label law
        (mem_labels.mpr (.inr (.inr (.inr (.inl ⟨n, hn, mem_stationLabels.mpr ⟨active, .inr rfl⟩⟩))))) h
    · exact classify_of_label law
        (mem_labels.mpr (.inr (.inr (.inr (.inr ⟨e, he, mem_pinLabels.mpr ⟨inUse, rfl⟩⟩))))) h
    · refine classify_plain fun l hl within => ?_
      rcases mem_labels.mp hl with rfl | hl | ⟨z, hz, hl⟩ | ⟨n, hn, hl⟩ | ⟨e, he, hl⟩
      · exact block within
      · obtain ⟨a, ha, rfl | rfl⟩ := mem_anchorLabels.mp hl
        · exact (window a).1 ⟨ha, within⟩
        · exact (window a).2 ⟨ha, within⟩
      · obtain ⟨mapped, rfl | ⟨sense, rfl⟩⟩ := mem_zoneLabels.mp hl
        · exact (zone z hz).1 ⟨mapped, within⟩
        · exact (zone z hz).2 ⟨mapped, sense, within⟩
      · obtain ⟨active, rfl | rfl⟩ := mem_stationLabels.mp hl
        · exact (station n hn).1 ⟨active, within⟩
        · exact (station n hn).2 ⟨active, within⟩
      · obtain ⟨inUse, rfl⟩ := mem_pinLabels.mp hl
        exact pin e he ⟨inUse, within⟩
  case listener =>
    intro s w
    refine ⟨fun o i => ⟨rfl, rfl, rfl, rfl, rfl⟩, fun k h => writeWindow_noListener s w h, fun z o => ?_, fun n o => ?_, fun o => ?_⟩
    · exact ⟨offerSense_position s z o w, offerSense_frame s z o w⟩
    · exact ⟨offerMic_position s n o w, offerMic_frame s n o w⟩
    · exact offerPage_frame s o w.data
  case row =>
    intro s a k w hears hk
    simp only [State.hears, Bool.and_eq_true] at hears
    exact ⟨classify_window hears.2 (by omega), rfl⟩

end Sys2Proof.Machine
end

section
/-! SUPPORT. An OK response to a READ: the words it returns and its other effects (R7, R34, R148). -/

namespace Sys2Proof.Machine

theorem holdsPlayout_iff (s : State) (addr count z : Nat) : holdsPlayout (s.burstRegions addr count) z = true
    ↔ ∃ j < count, ∃ offset, s.classify (addr + j) = .playout z offset := by
  simp only [holdsPlayout, State.burstRegions, List.any_map, List.any_eq_true, List.mem_range, Function.comp_apply]
  refine exists_congr fun j => and_congr_right fun _ => ?_
  cases s.classify (addr + j) <;> simp

theorem holdsPortData_iff (s : State) (addr count : Nat) : holdsPortData (s.burstRegions addr count) = true
    ↔ ∃ j < count, s.classify (addr + j) = .window 18 := by
  simp [holdsPortData, State.burstRegions]

/-- The other effects of a response touch the zones and the control unit only. -/
theorem readEffects_frame (s : State) (rs : List Region) :
    s.readEffects rs = { s with zones := (s.readEffects rs).zones, control := (s.readEffects rs).control } := by
  have reloaded : (s.forEach ((List.range 64).filter (holdsPlayout rs)) State.reloadWatch)
      = { s with zones := (s.forEach ((List.range 64).filter (holdsPlayout rs)) State.reloadWatch).zones } :=
    forEach_keeps (P := fun t => t = { s with zones := t.zones }) (fun z _ t ht => by rw [ht]; rfl) rfl
  unfold State.readEffects
  dsimp only
  split
  · rw [reloaded]; rfl
  · rw [reloaded]

/-- Each zone with a playout word has its watch reloaded, once (R148). -/
theorem readEffects_zone (s : State) (rs : List Region) {z : Nat} (hz : z < 64) : (s.readEffects rs).zone z
    = if holdsPlayout rs z = true then { s.zone z with watch := (s.zone z).watchLimit, silent := false } else s.zone z := by
  have same : (s.readEffects rs).zone z = (s.forEach ((List.range 64).filter (holdsPlayout rs)) State.reloadWatch).zone z := by
    unfold State.readEffects
    dsimp only
    split <;> rfl
  have reloaded := forEach_setZone (fun _ e => { e with watch := e.watchLimit, silent := false })
    (ns := (List.range 64).filter (holdsPlayout rs)) (List.nodup_range.filter _)
    (fun n hn => List.mem_range.mp (List.mem_of_mem_filter hn)) s hz
  have named : z ∈ (List.range 64).filter (holdsPlayout rs) ↔ holdsPlayout rs z = true := by
    rw [List.mem_filter, List.mem_range, and_iff_right hz]
  exact same.trans (reloaded.trans (if_congr named rfl rfl))

/-- A port data word advances the port (R34). -/
theorem readEffects_control (s : State) (rs : List Region) :
    (s.readEffects rs).control = if holdsPortData rs then s.control.advance false else s.control := by
  have same : (s.forEach ((List.range 64).filter (holdsPlayout rs)) State.reloadWatch).control = s.control :=
    forEach_same State.control (f := State.reloadWatch) (fun _ _ _ => rfl) s
  unfold State.readEffects
  dsimp only
  split
  · rw [advancePort_control, same]
  · exact same

/-- The words of a response with as many as were asked for (R7). -/
theorem rewriteBurst_getD (s : State) (e : TagEntry) {words : List Word} (hlen : words.length = e.count) {j : Nat}
    (hj : j < e.count) : (s.rewriteBurst e words).getD j 0#32
      = s.returnedWord (s.classify (e.addr + j)) (words.getD j 0#32) := by
  have all : words.drop e.count = [] := List.drop_eq_nil_of_le (by omega)
  rw [State.rewriteBurst, all, List.append_nil, List.getD_eq_getElem?_getD, List.getD_eq_getElem?_getD]
  simp [State.burstRegions, hj, hlen]

theorem length_rewriteBurst (s : State) (e : TagEntry) {words : List Word} (hlen : words.length = e.count) :
    (s.rewriteBurst e words).length = e.count := by
  simp [State.rewriteBurst, State.burstRegions, hlen]

/-- Settles O10: the response's two effects and its words, each by its lemma. -/
theorem okDataRewrittenByRegion : Obligations.OkDataRewrittenByRegion := by
  intro s tag e words settled port htag entry isRead hlen
  let rs := s.burstRegions e.addr e.count
  let u := (s.begun.clearTag tag).readEffects rs
  have frame : u = { s.begun.clearTag tag with zones := u.zones, control := u.control } := readEffects_frame _ rs
  have row : exec (.dataResponse tag .ok words) s
      = .next (u.answer (.data tag .okStatus (s.begun.rewriteBurst e words))).latch := by
    have answered : s.begun.memoryReturns tag (.data .ok words) = u.answer (.data tag .okStatus (s.begun.rewriteBurst e words)) := by
      rw [memoryReturns_hostTag _ port htag entry]
      simp only [State.hostResponse, isRead, Bool.false_eq_true, if_false]
      rfl
    rw [← answered]; rfl
  have zone : ∀ z < 64, u.zone z
      = if holdsPlayout rs z = true then { s.zone z with watch := (s.zone z).watchLimit, silent := false } else s.zone z :=
    fun z hz => readEffects_zone (s.begun.clearTag tag) rs hz
  have control : u.control = if holdsPortData rs then s.control.advance false else s.control :=
    readEffects_control (s.begun.clearTag tag) rs
  refine ⟨_, s.begun.rewriteBurst e words, row, ?_, length_rewriteBurst _ e hlen, fun j hj => ?_, fun z hz h => ?_, fun z hz h => ?_,
    fun h => ?_, fun h => ?_, ?_⟩
  · exact congrArg (fun t : State => { t.event with toHost := some (.data tag .okStatus (s.begun.rewriteBurst e words)) }) frame
  · rw [rewriteBurst_getD _ e hlen hj, show s.begun.classify (e.addr + j) = s.classify (e.addr + j) from rfl]
    cases s.classify (e.addr + j) <;> rfl
  · exact (zone z hz).trans (if_pos ((holdsPlayout_iff ..).mpr h))
  · exact (zone z hz).trans (if_neg fun p => h ((holdsPlayout_iff ..).mp p))
  · exact congrArg ControlUnit.latch (control.trans (if_pos ((holdsPortData_iff ..).mpr h)))
  · have same : u.control = s.control := control.trans (if_neg fun p => h ((holdsPortData_iff ..).mp p))
    exact (congrArg ControlUnit.latch same).trans (congrArg State.control (latch_settled s settled))
  · have kept : ∀ {α : Type} (f : State → α), f u = f { s.begun.clearTag tag with zones := u.zones, control := u.control } :=
      fun f => congrArg f frame
    exact ⟨kept State.transit, kept State.clock, kept State.streams, kept State.page, kept State.lastEnded,
      kept State.stations, kept State.groups, kept State.alarm, kept State.theatre, kept State.lines,
      kept State.freeDraws, kept State.pending⟩

end Sys2Proof.Machine
end

section
/-! SUPPORT. The words of the nine tables as numbers: each the sum of its fields in their places (11.5). -/

namespace Sys2Proof.Machine

/-! ## The numbers of named values fit their fields -/

theorem zoneKindNumber_lt (k : ZoneKind) : zoneKindNumber k < 4 := by cases k <;> decide

theorem verdictNumber_lt (v : Verdict) : verdictNumber v < 4 := by cases v <;> decide

theorem triggerNumber_lt (t : Trigger) : triggerNumber t < 4 := by cases t <;> decide

theorem cueActionNumber_lt (a : CueAction) : cueActionNumber a < 8 := by cases a <;> decide

theorem cueStateNumber_lt (c : CueState) : cueStateNumber c < 4 := by cases c <;> decide

theorem streamStateNumber_lt (x : StreamState) : streamStateNumber x < 8 := by cases x <;> decide

theorem streamSourceNumber_lt (x : StreamSource) : streamSourceNumber x < 4 := by cases x <;> decide

theorem ownerNumber_lt (o : StreamOwner) : ownerNumber o < 2 := by
  cases o with
  | announce => exact Nat.zero_lt_two
  | showCue => exact Nat.one_lt_two

theorem endCauseNumber_lt (c : EndCause) : endCauseNumber c < 16 := by cases c <;> decide

/-! ## Counting the cells of a bank -/

/-- How many cells satisfy `p`, by their indices. -/
theorem count_eq_length_filter {n : Nat} [NeZero n] {α : Type} (p : α → Bool) (b : Bank n α) :
    b.count p = ((List.range n).filter fun i => p (b.get i)).length := by
  have cells : b.cells = (List.range n).map b.get := List.ext_getElem (by simp [b.size]) fun i hi _ => by
    rw [List.getElem_map, List.getElem_range, Bank.get_eq_getElem _ _ (b.size ▸ hi)]
  rw [Bank.count, cells, List.countP_map, List.countP_eq_length_filter]
  rfl

theorem count_le {n : Nat} {α : Type} (p : α → Bool) (b : Bank n α) : b.count p ≤ n :=
  List.countP_le_length.trans_eq b.size

/-! ## CONFIG, PATTERN, PIN and COUNTER -/

theorem configWords_toNat (c : ControlUnit) :
    (c.configWord 0).toNat = ((List.range 9).map fun i => if c.mask.get i then 2 ^ i else 0).sum
      ∧ (c.configWord 1).toNat = c.pageTimeout % 2 ^ 16 ∧ (c.configWord 2).toNat = c.passThreshold % 2 ^ 6 := by
  refine ⟨?_, ?_, ?_⟩
  · have sum := sum_flags 9 0 c.mask.get
    have small := sum_flags_lt 9 c.mask.get
    simp only [Nat.zero_add] at sum
    rw [ControlUnit.configWord, toNat_pack, sum]
    omega
  · rw [ControlUnit.configWord, toNat_pack]
    simp only [sum_field_cons, sum_field_nil]
    omega
  · change (pack _).toNat = _
    rw [toNat_pack]
    simp only [sum_field_cons, sum_field_nil]
    omega

theorem segmentWord_toNat (a : AlarmUnit) {i : Nat} (hi : i ≠ 16) : (a.patternWord i).toNat
    = (a.segments.get i).frequency % 2 ^ 12 + 2 ^ 16 * ((a.segments.get i).duration % 2 ^ 16) := by
  rw [AlarmUnit.patternWord, if_neg hi, toNat_pack]
  simp only [sum_field_cons, sum_field_nil]
  omega

theorem patternLengthWord_toNat (a : AlarmUnit) : (a.patternWord 16).toNat = a.patternLength % 2 ^ 5 := by
  rw [AlarmUnit.patternWord, if_pos rfl, toNat_pack]
  simp only [sum_field_cons, sum_field_nil]
  omega

theorem pinWords_toNat (p : PinEntry) : (p.word 0).toNat = p.base % 2 ^ 28 + 2 ^ 31 * bit p.inUse
    ∧ (p.word 1).toNat = p.length % 2 ^ 21 := by
  have := bit_le_one p.inUse
  refine ⟨?_, ?_⟩
  · rw [PinEntry.word, if_pos rfl, toNat_pack]
    simp only [sum_field_cons, sum_field_nil]
    omega
  · rw [PinEntry.word, if_neg (by decide), toNat_pack]
    simp only [sum_field_cons, sum_field_nil]
    omega

theorem zoneCounterWord_toNat (s : State) {z : Nat} (hz : z < 64) : (s.counterWord z).toNat
    = (s.zone z).silentEvents % 2 ^ 8 + 2 ^ 8 * ((s.zone z).failingPeriods % 2 ^ 8) := by
  rw [State.counterWord, if_pos hz, toNat_pack]
  simp only [sum_field_cons, sum_field_nil]
  omega

theorem stationCounterWord_toNat (s : State) {n : Nat} (hn : n < 32) :
    (s.counterWord (64 + n)).toNat = (s.station n).torn % 2 ^ 8 := by
  rw [State.counterWord, if_neg (by omega), if_pos (by omega), toNat_pack, Nat.add_sub_cancel_left]
  simp only [sum_field_cons, sum_field_nil]
  omega

theorem pageCounterWord_toNat (s : State) :
    (s.counterWord 96).toNat = s.page.dropped % 2 ^ 8 + 2 ^ 8 * (s.page.strayCount % 2 ^ 8) := by
  rw [State.counterWord, if_neg (by decide), if_neg (by decide), toNat_pack]
  simp only [sum_field_cons, sum_field_nil]
  omega

/-! ## ZONE, STATION and GROUP -/

theorem zoneShapeWord_toNat (e : ZoneEntry) : (e.word 0).toNat = bit e.mapped + 2 * zoneKindNumber e.kind
    + 2 ^ 8 * (e.ringPeriods % 2 ^ 6) + 2 ^ 16 * bit e.sensePresent + 2 ^ 24 * (e.senseLag % 2 ^ 6) := by
  have := bit_le_one e.mapped
  have := bit_le_one e.sensePresent
  have := zoneKindNumber_lt e.kind
  rw [ZoneEntry.word, zoneWord0, toNat_pack]
  simp only [sum_field_cons, sum_field_nil, ZoneEntry.shape]
  omega

theorem zoneGainWords_toNat (e : ZoneEntry) : (e.word 3).toNat = e.programGain % 2 ^ 13 + 2 ^ 16 * (e.duckGain % 2 ^ 13)
    ∧ (e.word 4).toNat = e.overlayGain % 2 ^ 13 + 2 ^ 16 * (e.alarmGain % 2 ^ 13) := by
  refine ⟨?_, ?_⟩ <;> rw [ZoneEntry.word, toNat_pack] <;> simp only [sum_field_cons, sum_field_nil] <;> omega

theorem zonePriorityWord_toNat (e : ZoneEntry) : (e.word 5).toNat
    = e.minPriority % 2 ^ 3 + 2 ^ 8 * (e.watchLimit % 2 ^ 8) + 2 ^ 16 * (e.fallbackGroup.getD 15 % 2 ^ 4) := by
  rw [ZoneEntry.word, toNat_pack]
  simp only [sum_field_cons, sum_field_nil, optNumber]
  omega

theorem zonePilotWord_toNat (e : ZoneEntry) :
    (e.word 6).toNat = e.pilotLevel % 2 ^ 8 + 2 ^ 8 * (e.pilotPattern % 2 ^ 3) := by
  rw [ZoneEntry.word, toNat_pack]
  simp only [sum_field_cons, sum_field_nil]
  omega

theorem zoneRunWord_toNat (e : ZoneEntry) : (e.word 7).toNat
    = e.bound.getD 15 % 2 ^ 4 + 2 ^ 4 * ((if e.theatre then e.level else 0) % 2 ^ 13)
      + 2 ^ 17 * ((if e.mapped then e.watch else 0) % 2 ^ 8) + 2 ^ 25 * bit e.silent + 2 ^ 26 * verdictNumber e.verdict := by
  have := bit_le_one e.silent
  have := verdictNumber_lt e.verdict
  change (pack _).toNat = _
  rw [toNat_pack]
  simp only [sum_field_cons, sum_field_nil, optNumber]
  omega

theorem stationShapeWord_toNat (r : StationRecord) : (r.word 0).toNat = bit r.active + 2 ^ 8 * (r.ringPeriods % 2 ^ 6) := by
  have := bit_le_one r.active
  rw [StationRecord.word, stationWord0, toNat_pack]
  simp only [sum_field_cons, sum_field_nil]
  omega

theorem stationGainWord_toNat (r : StationRecord) : (r.word 3).toNat = r.alarmGain % 2 ^ 13 := by
  rw [StationRecord.word, toNat_pack]
  simp only [sum_field_cons, sum_field_nil]
  omega

theorem stationTalkWord_toNat (r : StationRecord) : (r.word 4).toNat = r.talk.getD 31 % 2 ^ 5
    + 2 ^ 16 * ((List.range 16).map fun i => if r.listen.get i then 2 ^ i else 0).sum := by
  have := sum_flags_lt 16 r.listen.get
  rw [StationRecord.word, toNat_pack, sum_field_cons, sum_flags, optNumber]
  omega

theorem stationHeardWord_toNat (r : StationRecord) : (r.word 5).toNat
    = r.readyGroup.getD 31 % 2 ^ 5 + 2 ^ 8 * ((if r.talk = none then 0 else r.heard) % 2 ^ 6) := by
  change (pack _).toNat = _
  rw [toNat_pack]
  simp only [sum_field_cons, sum_field_nil, optNumber, StationRecord.shownHeard]
  omega

theorem groupWords_toNat (s : State) (g : Nat) :
    (s.groupWord g 0).toNat = bit (s.group g).defined + 2 * bit (s.group g).essential
      ∧ (s.groupWord g 1).toNat = (s.group g).gain % 2 ^ 13
      ∧ (s.groupWord g 2).toNat = s.talkerCount g % 2 ^ 3 + 2 ^ 8 * s.streamCount g + 2 ^ 16 * bit (s.muted g)
      ∧ (s.groupWord g 3).toNat = s.listenerCount g := by
  have := bit_le_one (s.group g).defined
  have := bit_le_one (s.group g).essential
  have := bit_le_one (s.muted g)
  have : s.streamCount g ≤ 8 := count_le _ s.streams
  have : s.listenerCount g ≤ 32 := count_le _ s.stations
  refine ⟨?_, ?_, ?_, ?_⟩
  all_goals
    change (pack _).toNat = _
    rw [toNat_pack]
    simp only [sum_field_cons, sum_field_nil]
    omega

/-! ## CUE and STREAM -/

theorem cueWord_toNat (c : Cue) : (c.word 0).toNat = triggerNumber c.trigger + 2 ^ 2 * cueActionNumber c.action
    + 2 ^ 5 * bit c.notify + 2 ^ 6 * cueStateNumber c.state + 2 ^ 8 * (c.repeats % 2 ^ 4) + 2 ^ 12 * (c.value % 2 ^ 20) := by
  have := triggerNumber_lt c.trigger
  have := cueActionNumber_lt c.action
  have := bit_le_one c.notify
  have := cueStateNumber_lt c.state
  rw [Cue.word, toNat_pack]
  simp only [sum_field_cons, sum_field_nil]
  omega

/-- The zone set words of a cue whose action takes a zone set. -/
theorem cueSetWord_of_zones {c : Cue} (h : c.action = .fade ∨ c.action = .play) (w : Word) : c.setWord w = w := by
  obtain fade | play := h
  · rw [Cue.setWord, fade]
  · rw [Cue.setWord, play]

theorem cueSetWord_of_no_zones {c : Cue} (h : ¬ (c.action = .fade ∨ c.action = .play)) (w : Word) : c.setWord w = 0#32 := by
  unfold Cue.setWord
  cases action : c.action with
  | fade => exact absurd (Or.inl action) h
  | play => exact absurd (Or.inr action) h
  | note | halt | endShow => rfl

theorem cueArgumentWord_toNat (c : Cue) : c.argumentWord.toNat = (match c.action with
    | .fade => c.word3.toNat % 2 ^ 13 + 2 ^ 16 * (c.word3.toNat / 2 ^ 16 % 2 ^ 12)
    | .play => c.word3.toNat
    | .halt => c.word3.toNat % 2 ^ 8
    | .note => 0
    | .endShow => 0) := by
  unfold Cue.argumentWord
  cases c.action with
  | play | note | endShow => rfl
  | fade | halt =>
    dsimp only
    rw [toNat_pack]
    simp only [sum_field_cons, sum_field_nil, field]
    omega

theorem listLengthWord_toNat (r : ShowRecord) : (r.word 1024).toNat = r.length % 2 ^ 9 := by
  rw [ShowRecord.word, if_pos rfl, toNat_pack]
  simp only [sum_field_cons, sum_field_nil]
  omega

theorem streamStateWord_toNat (s : State) (n : Nat) : (s.streamWord n 0).toNat
    = streamStateNumber (s.stream n).state + 2 ^ 3 * streamSourceNumber (s.stream n).source
      + 2 ^ 5 * ownerNumber (s.stream n).owner + 2 ^ 8 * ((s.stream n).priority % 2 ^ 3)
      + 2 ^ 12 * endCauseNumber (s.stream n).endCause + 2 ^ 16 * ((s.stream n).queue.length % 2 ^ 3)
      + 2 ^ 19 * bit (s.stream n).current + 2 ^ 20 * bit (s.stream n).closing := by
  have := streamStateNumber_lt (s.stream n).state
  have := streamSourceNumber_lt (s.stream n).source
  have := ownerNumber_lt (s.stream n).owner
  have := endCauseNumber_lt (s.stream n).endCause
  have := bit_le_one (s.stream n).current
  have := bit_le_one (s.stream n).closing
  change (pack _).toNat = _
  rw [toNat_pack]
  simp only [sum_field_cons, sum_field_nil]
  omega

theorem streamCountWord_toNat (s : State) (n : Nat) : (s.streamWord n 3).toNat
    = (s.stream n).starvedCount % 2 ^ 8 + 2 ^ 8 * ((s.stream n).droppedCount % 2 ^ 8)
      + 2 ^ 16 * (ownerCue (s.stream n).owner % 2 ^ 8) + 2 ^ 24 * ((s.stream n).group % 2 ^ 4) := by
  change (pack _).toNat = _
  rw [toNat_pack]
  simp only [sum_field_cons, sum_field_nil]
  omega

/-! ## The word at an index -/

theorem tableWord_zone (s : State) (z : Nat) {k : Nat} (hk : k < 8) : s.tableWord .zone (8 * z + k) = (s.zone z).word k := by
  rw [State.tableWord, show (8 * z + k) / 8 = z by omega, show (8 * z + k) % 8 = k by omega]

theorem tableWord_station (s : State) (n : Nat) {k : Nat} (hk : k < 6) :
    s.tableWord .station (6 * n + k) = (s.station n).word k := by
  rw [State.tableWord, show (6 * n + k) / 6 = n by omega, show (6 * n + k) % 6 = k by omega]

theorem tableWord_group (s : State) (g : Nat) {k : Nat} (hk : k < 4) : s.tableWord .group (4 * g + k) = s.groupWord g k := by
  rw [State.tableWord, show (4 * g + k) / 4 = g by omega, show (4 * g + k) % 4 = k by omega]

theorem tableWord_cue (s : State) {n k : Nat} (hn : n < 256) (hk : k < 4) :
    s.tableWord .cue (4 * n + k) = (s.theatre.cue n).word k := by
  rw [State.tableWord, ShowRecord.word, if_neg (by omega), show (4 * n + k) / 4 = n by omega,
    show (4 * n + k) % 4 = k by omega]

theorem tableWord_pin (s : State) (e : Nat) {k : Nat} (hk : k < 2) :
    s.tableWord .pin (2 * e + k) = (s.transit.pins.get e).word k := by
  rw [State.tableWord, show (2 * e + k) / 2 = e by omega, show (2 * e + k) % 2 = k by omega]

theorem tableWord_stream (s : State) (n : Nat) {k : Nat} (hk : k < 4) : s.tableWord .stream (4 * n + k) = s.streamWord n k := by
  rw [State.tableWord, show (4 * n + k) / 4 = n by omega, show (4 * n + k) % 4 = k by omega]

/-! ## Every table -/

/-- Settles O16: each word through its table's lemmas. -/
theorem tableWordsHoldTheirFields : Obligations.TableWordsHoldTheirFields := by
  intro s
  dsimp only
  refine ⟨configWords_toNat s.control, fun z _ => ?_, fun n _ => ?_, fun g _ => ?_, fun n hn => ?_,
    listLengthWord_toNat s.theatre, fun i hi => segmentWord_toNat s.alarm (by omega), patternLengthWord_toNat s.alarm,
    fun e _ => ?_, fun n _ => ?_, fun z hz => zoneCounterWord_toNat s hz, fun n hn => stationCounterWord_toNat s hn,
    pageCounterWord_toNat s⟩
  · have word {k : Nat} (hk : k < 8) := congrArg BitVec.toNat (tableWord_zone s z hk)
    have theatre : (if (s.zone z).theatre then (s.zone z).level else 0)
        = if (s.zone z).mapped = true ∧ (s.zone z).kind = .theatreZone then (s.zone z).level else 0 :=
      if_congr (by simp [ZoneEntry.theatre]) rfl rfl
    refine ⟨(word (k := 0) (by decide)).trans (zoneShapeWord_toNat _), (word (by decide)).trans (BitVec.toNat_ofNat ..),
      (word (by decide)).trans (BitVec.toNat_ofNat ..), (word (by decide)).trans (zoneGainWords_toNat _).1,
      (word (by decide)).trans (zoneGainWords_toNat _).2, (word (by decide)).trans (zonePriorityWord_toNat _),
      (word (by decide)).trans (zonePilotWord_toNat _), ?_⟩
    rw [← theatre]
    exact (word (by decide)).trans (zoneRunWord_toNat _)
  · have word {k : Nat} (hk : k < 6) := congrArg BitVec.toNat (tableWord_station s n hk)
    exact ⟨(word (k := 0) (by decide)).trans (stationShapeWord_toNat _), (word (by decide)).trans (BitVec.toNat_ofNat ..),
      (word (by decide)).trans (BitVec.toNat_ofNat ..), (word (by decide)).trans (stationGainWord_toNat _),
      (word (by decide)).trans (stationTalkWord_toNat _), (word (by decide)).trans (stationHeardWord_toNat _)⟩
  · have word {k : Nat} (hk : k < 4) := congrArg BitVec.toNat (tableWord_group s g hk)
    obtain ⟨defined, gain, counts, listeners⟩ := groupWords_toNat s g
    rw [State.talkerCount, State.streamCount, count_eq_length_filter, count_eq_length_filter] at counts
    rw [State.listenerCount, count_eq_length_filter] at listeners
    exact ⟨(word (k := 0) (by decide)).trans defined, (word (by decide)).trans gain, (word (by decide)).trans counts,
      (word (by decide)).trans listeners⟩
  · have word {k : Nat} (hk : k < 4) := congrArg BitVec.toNat (tableWord_cue s hn hk)
    refine ⟨(word (k := 0) (by decide)).trans (cueWord_toNat _), fun zones => ⟨?_, ?_⟩, fun none => ⟨?_, ?_⟩,
      (word (by decide)).trans (cueArgumentWord_toNat _)⟩
    · exact (word (by decide)).trans (congrArg BitVec.toNat (cueSetWord_of_zones zones _))
    · exact (word (by decide)).trans (congrArg BitVec.toNat (cueSetWord_of_zones zones _))
    · exact (word (by decide)).trans (congrArg BitVec.toNat (cueSetWord_of_no_zones none _))
    · exact (word (by decide)).trans (congrArg BitVec.toNat (cueSetWord_of_no_zones none _))
  · have word {k : Nat} (hk : k < 2) := congrArg BitVec.toNat (tableWord_pin s e hk)
    exact ⟨(word (k := 0) (by decide)).trans (pinWords_toNat _).1, (word (by decide)).trans (pinWords_toNat _).2⟩
  · have word {k : Nat} (hk : k < 4) := congrArg BitVec.toNat (tableWord_stream s n hk)
    refine ⟨?_, (word (by decide)).trans (toNat_flagsWord _), (word (by decide)).trans (toNat_flagsWord _), ?_⟩
    · exact ((word (k := 0) (by decide)).trans (streamStateWord_toNat s n)).trans (by cases (s.stream n).owner <;> rfl)
    · exact ((word (by decide)).trans (streamCountWord_toNat s n)).trans (by cases (s.stream n).owner <;> rfl)

end Sys2Proof.Machine
end

section
/-! SUPPORT. A command record that finds its engine free comes to the command's own rule (R26, R27). -/

namespace Sys2Proof.Machine

/-- The payload word `k` of a record, as the take reads it. -/
theorem captured_payload {s : State} {h : CommandHead} {c : Command} {k : Nat} (hk : k < c.payload.length)
    (h14 : c.payload.length ≤ 14) : (s.atTake h c).control.captured.get (k + 1) = c.payload.getD k 0#32 := by
  have words : (recordWords h c).length = c.payload.length + 2 := by simp [recordWords, withCrc]
  rw [atTake_captured (by omega) (by omega)]
  simp [recordWords, withCrc, List.getD_eq_getElem?_getD, List.getElem?_append_left hk]

theorem toNat_ofNat_of_wordOk {n : Nat} (h : wordOk n = true) : (BitVec.ofNat 32 n).toNat = n := by
  rw [BitVec.toNat_ofNat]
  exact Nat.mod_eq_of_lt (by simpa [wordOk] using h)

/-- What a heard record of `c` needs in order to come to the command's own rule. -/
structure Taken (s : State) (h : CommandHead) (c : Command) : Prop where
  heard : s.hears h.host = true
  short : c.payload.length ≤ 14
  length : c.payloadLength = some c.payload.length
  read : parseCommand c.code (s.atTake h c).control.captured.get = some c
  idle : (s.atTake h c).control.busyFor c = false

/-- The event of the record: the report of what the own rule came to. -/
theorem Taken.judged {s : State} {h : CommandHead} {c : Command} (taken : Taken s h c) :
    (s.run fun s => s.writeRecord h c) = (let j : Judgement := match (s.atTake h c).ownRule c with
      | .ok (value, t) => { result := .accepted value, error := none, after := t }
      | .error reason => { result := .refused reason, error := some .refused, after := s.atTake h c }
    j.after.afterTake h c j.result j.error) := by
  have checks := judgeTake_record taken.length taken.short taken.read
  rw [taken.idle] at checks
  refine (writeRecord_hears taken.heard taken.short
    (payloadLengthOf_headerWord (Nat.le_trans taken.short (by decide)))).trans ?_
  rw [checks]
  rfl

theorem Taken.accepted {s t : State} {h : CommandHead} {c : Command} {value : Nat} (taken : Taken s h c)
    (rule : (s.atTake h c).ownRule c = .ok (value, t)) :
    Host.Outcome.next (s.run fun s => s.writeRecord h c) = State.commandAccepted t h c value := by
  rw [taken.judged, rule]; rfl

theorem Taken.refused {s : State} {h : CommandHead} {c : Command} {reason : Reason} (taken : Taken s h c)
    (rule : (s.atTake h c).ownRule c = .error reason) :
    Host.Outcome.next (s.run fun s => s.writeRecord h c) = s.commandRefused h c reason := by
  rw [taken.judged, rule]; rfl

/-! ## Ending a stream (R92) -/

theorem live_iff (r : StreamRecord) : r.live = true ↔ r.state = .starting ∨ r.state = .playing ∨ r.state = .paused := by
  unfold StreamRecord.live
  cases r.state <;> simp

theorem live_eq_false (r : StreamRecord) : r.live = false ↔ r.state = .free ∨ r.state = .ending := by
  unfold StreamRecord.live
  cases r.state <;> simp

theorem showOwned_eq_false (r : StreamRecord) : r.showOwned = false ↔ r.owner = .announce := by
  unfold StreamRecord.showOwned
  cases r.owner <;> simp

theorem endStream_of_not_live (cause : EndCause) {n : Nat} {s : State} (h : (s.stream n).live = false) :
    s.endStream cause n = s := by
  unfold State.endStream
  exact if_neg (by simp [h])

/-- Of several records ended at one event the highest is noted (R92). -/
theorem noteEnded_eq (s : State) (n : Nat) (cause : EndCause) (owner : StreamOwner) : s.noteEnded n cause owner = { s with
    lastEnded := if s.event.ended.getD 0 ≤ n then some { index := n, cause := cause, owner := owner } else s.lastEnded,
    event := if s.event.ended.getD 0 ≤ n then { s.event with ended := some n } else s.event } := by
  by_cases above : s.event.ended.getD 0 ≤ n
  · rw [if_pos above, if_pos above]
    exact if_neg (Nat.not_lt.mpr above)
  · rw [if_neg above, if_neg above]
    exact if_pos (Nat.lt_of_not_le above)

/-- The record's, the own queue's, the page's and the event's parts of an ending. -/
theorem endStream_of_live (cause : EndCause) {n : Nat} {s : State} (h : (s.stream n).live = true) :
    s.endStream cause n = State.post { s with
      streams := s.streams.set n { s.stream n with state := .ending, endCause := cause, drained := false },
      transit := { s.transit with ownQueue := s.transit.ownQueue.filter fun q => q.stream != n },
      page := if (s.stream n).source = .live then { s.page with capture := none } else s.page,
      lastEnded := if s.event.ended.getD 0 ≤ n then some { index := n, cause := cause, owner := (s.stream n).owner }
        else s.lastEnded,
      event := if s.event.ended.getD 0 ≤ n then { s.event with ended := some n } else s.event } .stream := by
  refine (if_pos h).trans (congrArg (fun t => State.post t .stream) ?_)
  rw [noteEnded_eq]
  by_cases page : (s.stream n).source = .live
  · rw [if_pos page, if_pos page]; rfl
  · rw [if_neg page, if_neg page]; rfl

/-! ## ANX and PGC (R94, R99) -/

theorem takeAnx_of_range {s : State} {index : Nat} (h : 7 < index) : s.takeAnx index = .error .argument := if_pos h

theorem takeAnx_of_state {s : State} {index : Nat} (h : index ≤ 7)
    (rests : (s.stream index).live = false ∨ (s.stream index).owner ≠ .announce) : s.takeAnx index = .error .state := by
  refine (if_neg (Nat.not_lt.mpr h)).trans ?_
  obtain stopped | owned := rests
  · exact if_pos (by simp [stopped])
  · have shown : (s.stream index).showOwned = true := by simpa using mt (showOwned_eq_false _).mp owned
    rw [if_pos shown, ite_self]

theorem takeAnx_accepted {s : State} {index : Nat} (h : index ≤ 7) (live : (s.stream index).live = true)
    (announce : (s.stream index).owner = .announce) : s.takeAnx index = .ok (index, s.endStream .aborted index) := by
  have own := (showOwned_eq_false _).mpr announce
  exact (if_neg (Nat.not_lt.mpr h)).trans ((if_neg (by simp [live])).trans (if_neg (by simp [own])))

/-- The record whose page window is open (R95). -/
def State.pageOpen (s : State) (n : Nat) : Prop := (s.stream n).source = .live
  ∧ ((s.stream n).state = .starting ∨ (s.stream n).state = .playing) ∧ (s.stream n).closing = false

theorem pageOpen_iff (s : State) (n : Nat) : s.pageOpen n
    ↔ ((s.stream n).source == .live && (s.stream n).sounding && !(s.stream n).closing) = true := by
  unfold State.pageOpen StreamRecord.sounding
  cases (s.stream n).state <;> simp

theorem openPage_eq_some {s : State} {n : Nat} (hn : n < 8) (opened : s.pageOpen n) (first : ∀ m < n, ¬ s.pageOpen m) :
    s.openPage = some n :=
  List.find?_range_eq_some.mpr ⟨(pageOpen_iff s n).mp opened, List.mem_range.mpr hn, fun m hm => by
    rw [Bool.not_eq_true', ← Bool.not_eq_true]
    exact mt (pageOpen_iff s m).mpr (first m hm)⟩

theorem openPage_eq_none {s : State} (closed : ∀ n < 8, ¬ s.pageOpen n) : s.openPage = none :=
  List.find?_range_eq_none.mpr fun n hn => by
    rw [Bool.not_eq_true', ← Bool.not_eq_true]
    exact mt (pageOpen_iff s n).mpr (closed n hn)

theorem taken_anx {s : State} {h : CommandHead} {index : Nat} (heard : s.hears h.host = true) (word : wordOk index = true)
    (idle : s.control.busyStream = false) : Taken s h (.anx index) where
  heard := heard
  short := by simp [Command.payload]
  length := rfl
  read := by
    have value : (s.atTake h (.anx index)).control.captured.get 1 = BitVec.ofNat 32 index :=
      captured_payload (c := .anx index) (k := 0) Nat.one_pos (by simp [Command.payload])
    simp only [Command.code, parseCommand, value, toNat_ofNat_of_wordOk word]
  idle := idle

theorem taken_pgc {s : State} {h : CommandHead} (heard : s.hears h.host = true) (idle : s.control.busyStream = false) :
    Taken s h .pgc := ⟨heard, Nat.zero_le _, rfl, rfl, idle⟩

/-- Settles O31: the ending by whether the record is live, each command by its own rule. -/
theorem anxPgcAndEnding : Obligations.AnxPgcAndEnding := by
  refine ⟨fun s cause n _ => ⟨fun stopped => endStream_of_not_live cause ((live_eq_false _).mpr stopped),
    fun live => endStream_of_live cause ((live_iff _).mpr live)⟩, fun s h index heard word idle => ?_⟩
  have anx := taken_anx heard word idle
  have pgc := taken_pgc heard idle
  refine ⟨fun range => ?_, fun range rests => ?_, fun range going announce => ?_, fun n hn opened first => ?_, fun closed => ?_⟩
  · exact anx.refused (takeAnx_of_range range)
  · exact anx.refused (takeAnx_of_state range (rests.imp_left (live_eq_false _).mpr))
  · have live : (s.stream index).live = true := by simpa using mt (live_eq_false _).mp going
    exact anx.accepted (takeAnx_accepted range live announce)
  · refine pgc.accepted ?_
    have found : (s.atTake h .pgc).openPage = some n := openPage_eq_some hn opened first
    show (s.atTake h .pgc).takePgc = _
    unfold State.takePgc
    rw [found]
    rfl
  · refine pgc.refused ?_
    have found : (s.atTake h .pgc).openPage = none := openPage_eq_none closed
    show (s.atTake h .pgc).takePgc = _
    unfold State.takePgc
    rw [found]

end Sys2Proof.Machine
end

section
/-! SUPPORT. The own rules of SVR, CNC, PIN and UNP (R16, R17, R45, R164). -/

namespace Sys2Proof.Machine

/-! ## The records read back -/

theorem taken_svr {s : State} {h : CommandHead} {zones : ZoneSet} (heard : s.hears h.host = true) : Taken s h (.svr zones) where
  heard := heard
  short := by simp [Command.payload]
  length := rfl
  read := by
    have word {k : Nat} (hk : k < 2) := captured_payload (s := s) (h := h) (c := .svr zones) hk (by simp [Command.payload])
    exact congrArg₂ (fun lo hi => some (Command.svr { lo := lo, hi := hi })) (word (k := 0) (by decide)) (word (k := 1) (by decide))
  idle := rfl

theorem taken_cnc {s : State} {h : CommandHead} {zones : ZoneSet} {stations : Word} {page : Nat}
    (heard : s.hears h.host = true) (word : wordOk page = true) : Taken s h (.cnc zones stations page) where
  heard := heard
  short := by simp [Command.payload]
  length := rfl
  read := by
    let c : Command := .cnc zones stations page
    have word' {k : Nat} (hk : k < 4) := captured_payload (s := s) (h := h) (c := c) hk (by simp [c, Command.payload])
    have lo : (s.atTake h c).control.captured.get 1 = zones.lo := word' (k := 0) (by decide)
    have hi : (s.atTake h c).control.captured.get 2 = zones.hi := word' (k := 1) (by decide)
    have set : (s.atTake h c).control.captured.get 3 = stations := word' (k := 2) (by decide)
    have flag : (s.atTake h c).control.captured.get 4 = BitVec.ofNat 32 page := word' (k := 3) (by decide)
    simp only [Command.code, parseCommand]
    rw [lo, hi, set, flag, toNat_ofNat_of_wordOk word]
  idle := rfl

theorem taken_pin {s : State} {h : CommandHead} {base length : Nat} (heard : s.hears h.host = true)
    (wordB : wordOk base = true) (wordL : wordOk length = true) : Taken s h (.pin base length) where
  heard := heard
  short := by simp [Command.payload]
  length := rfl
  read := by
    let c : Command := .pin base length
    have word {k : Nat} (hk : k < 2) := captured_payload (s := s) (h := h) (c := c) hk (by simp [c, Command.payload])
    have first : (s.atTake h c).control.captured.get 1 = BitVec.ofNat 32 base := word (k := 0) (by decide)
    have second : (s.atTake h c).control.captured.get 2 = BitVec.ofNat 32 length := word (k := 1) (by decide)
    simp only [Command.code, parseCommand]
    rw [first, second, toNat_ofNat_of_wordOk wordB, toNat_ofNat_of_wordOk wordL]
  idle := rfl

theorem taken_unp {s : State} {h : CommandHead} {entry : Nat} (heard : s.hears h.host = true) (word : wordOk entry = true) :
    Taken s h (.unp entry) where
  heard := heard
  short := by simp [Command.payload]
  length := rfl
  read := by
    have value : (s.atTake h (.unp entry)).control.captured.get 1 = BitVec.ofNat 32 entry :=
      captured_payload (c := .unp entry) (k := 0) Nat.one_pos (by simp [Command.payload])
    simp only [Command.code, parseCommand]
    rw [value, toNat_ofNat_of_wordOk word]
  idle := rfl

/-! ## SVR (R164) -/

/-- A loop that changes zones, as one state. -/
theorem forEach_setZone_eq (g : ZoneEntry → ZoneEntry) {ns : List Nat} (hd : ns.Nodup) (hr : ∀ n ∈ ns, n < 64) (s : State) :
    (s.forEach ns fun z s => s.setZone z (g (s.zone z)))
      = { s with zones := Bank.ofFn 64 fun z => if z ∈ ns then g (s.zone z) else s.zone z } := by
  have frame : ∀ t : State, t = { s with zones := t.zones } → ∀ z e, t.setZone z e = { s with zones := (t.setZone z e).zones } :=
    fun t ht z e => by rw [ht]; rfl
  have zones : (s.forEach ns fun z s => s.setZone z (g (s.zone z))).zones
      = Bank.ofFn 64 fun z => if z ∈ ns then g (s.zone z) else s.zone z :=
    Bank.ext_get fun z hz => (forEach_setZone (fun _ => g) hd hr s hz).trans
      (Bank.get_ofFn (fun z => if z ∈ ns then g (s.zone z) else s.zone z) z hz).symm
  rw [← zones]
  exact forEach_keeps (P := fun t => t = { s with zones := t.zones }) (fun z _ t ht => frame t ht z _) rfl

theorem mem_mappedZones (s : State) (zones : ZoneSet) {z : Nat} (hz : z < 64) :
    z ∈ s.mappedZones zones ↔ zoneIn zones z = true ∧ (s.zone z).mapped = true := by
  simp [State.mappedZones, zonesOf, hz, and_comm]

theorem takeSvr_accepted {s : State} {zones : ZoneSet} (quiet : s.alarm.state = .quiet) : s.takeSvr zones
    = .ok (((List.range 64).filter fun z => zoneIn zones z && (s.zone z).mapped).length, { s with
        zones := Bank.ofFn 64 fun z => if zoneIn zones z ∧ (s.zone z).mapped = true then
          { s.zone z with seen := Bank.fill 48 false, tally := 0, passRun := 0, failRun := 0, verdict := .unchecked }
        else s.zone z }) := by
  have members : s.mappedZones zones = (List.range 64).filter fun z => zoneIn zones z && (s.zone z).mapped := by
    rw [State.mappedZones, zonesOf, List.filter_filter]
    exact List.filter_congr fun z _ => Bool.and_comm ..
  have listed : ∀ z ∈ s.mappedZones zones, z < 64 := fun z hz =>
    List.mem_range.mp (List.mem_of_mem_filter (List.mem_of_mem_filter hz))
  have once : (s.mappedZones zones).Nodup := (List.nodup_range.filter _).filter _
  have reset := forEach_setZone_eq ZoneEntry.unsupervised once listed s
  have same : (Bank.ofFn 64 fun z => if z ∈ s.mappedZones zones then (s.zone z).unsupervised else s.zone z)
      = Bank.ofFn 64 fun z => if zoneIn zones z ∧ (s.zone z).mapped = true then (s.zone z).unsupervised else s.zone z :=
    Bank.ext_get fun z hz => by
      rw [Bank.get_ofFn _ _ hz, Bank.get_ofFn _ _ hz]
      exact if_congr (mem_mappedZones s zones hz) rfl rfl
  rw [same] at reset
  refine (if_neg (not_not.mpr quiet)).trans ?_
  rw [reset, members]
  rfl

/-! ## PIN and UNP (R16, R17) -/

theorem any_cells {n : Nat} [NeZero n] {α : Type} (p : α → Bool) (b : Bank n α) :
    b.cells.any p = true ↔ ∃ i < n, p (b.get i) = true := by
  have none := Bank.all_cells (fun a => ¬ p a = true) b
  rw [List.any_eq_true]
  constructor
  · rintro ⟨a, ha, hp⟩
    by_contra empty
    exact none.mpr (fun i hi h => empty ⟨i, hi, h⟩) a ha hp
  · rintro ⟨i, hi, hp⟩
    by_contra empty
    exact none.mp (fun a ha h => empty ⟨a, ha, h⟩) i hi hp

theorem pinPlaceable_iff (s : State) (base length : Nat) : s.pinPlaceable base length = true
    ↔ 1 ≤ length ∧ length ≤ 1048576 ∧ base + length ≤ 268435456
      ∧ ∀ q ∈ s.regions, Span.overlaps { base := base, length := length } q = false := by
  simp only [State.pinPlaceable, State.clearOf, Bool.and_eq_true, decide_eq_true_eq, List.all_eq_true, Bool.not_eq_true',
    and_assoc]
  rfl

theorem writePendingIn_iff (t : TransitUnit) (base length : Nat) :
    t.writePendingIn { base := base, length := length } = true
      ↔ ∃ tag < 32, ∃ e, t.tags.get tag = some e ∧ e.isWrite = true ∧ e.addr < base + length ∧ base < e.addr + e.count := by
  rw [TransitUnit.writePendingIn, any_cells]
  refine exists_congr fun tag => and_congr_right fun _ => ?_
  cases t.tags.get tag <;> simp [Span.overlaps]

theorem clipInUse_iff (s : State) (p : Span) : s.clipInUse p = true
    ↔ ∃ n < 8, (s.stream n).state ≠ .free ∧ (s.stream n).source = .clip ∧ (s.stream n).priority = 7
      ∧ p.base ≤ (s.stream n).clipBase ∧ (s.stream n).clipBase + (s.stream n).clipPeriods * 48 ≤ p.base + p.length := by
  rw [State.clipInUse, any_cells]
  simp [State.stream, Span.inside, and_assoc]

theorem freePin_eq_some {t : TransitUnit} {e : Nat} (he : e < 8) (free : (t.pins.get e).inUse = false)
    (first : ∀ m < e, ¬ (t.pins.get m).inUse = false) : t.freePin = some e :=
  List.find?_range_eq_some.mpr ⟨by simp [free], List.mem_range.mpr he, fun m hm => by simpa using first m hm⟩

theorem freePin_eq_none {t : TransitUnit} (used : ∀ e < 8, ¬ (t.pins.get e).inUse = false) : t.freePin = none :=
  List.find?_range_eq_none.mpr fun e he => by simpa using used e he

theorem takePin_of_argument {s : State} {base length : Nat} (h : s.pinPlaceable base length = false ∨ s.transit.freePin = none) :
    s.takePin base length = .error .argument := by
  unfold State.takePin
  obtain unplaceable | full := h
  · exact if_pos (by simp [unplaceable])
  · rw [full]; exact ite_self _

theorem takePin_of_free {s : State} {base length e : Nat} (placeable : s.pinPlaceable base length = true)
    (free : s.transit.freePin = some e) : s.takePin base length
      = if s.transit.writePendingIn { base := base, length := length } = true then .error .contention
        else .ok (e, s.setPin e { inUse := true, base := base, length := length }) := by
  unfold State.takePin
  rw [placeable, free]
  rfl

theorem takeUnp_of_argument {s : State} {e : Nat} (h : 7 < e ∨ (s.transit.pins.get e).inUse = false) :
    s.takeUnp e = .error .argument := by
  unfold State.takeUnp
  obtain range | unused := h
  · exact if_pos range
  · rw [if_pos (show (!(s.transit.pins.get e).inUse) = true by rw [unused]; rfl), ite_self]

theorem takeUnp_of_used {s : State} {e : Nat} (range : e ≤ 7) (used : (s.transit.pins.get e).inUse = true) : s.takeUnp e
    = if s.alarm.state ≠ .quiet then .error .alarm
      else if s.clipInUse (s.transit.pins.get e).span then .error .state
      else .ok (e, s.setPin e { inUse := false, base := 0, length := 0 }) :=
  (if_neg (Nat.not_lt.mpr range)).trans (if_neg (by simp [used]))

/-! ## The four commands -/

/-- Settles O34: each command's refusals and its effect, by its own rule. -/
theorem svrCncPinAndUnp : Obligations.SvrCncPinAndUnp := by
  refine ⟨fun s h zones heard => ⟨fun sounds => (taken_svr heard).refused (if_pos sounds),
      fun quiet => (taken_svr heard).accepted (takeSvr_accepted quiet)⟩,
    fun s h zones stations page heard word => ⟨fun range => (taken_cnc heard word).refused (if_pos range),
      fun range => (taken_cnc heard word).accepted (if_neg (Nat.not_lt.mpr range))⟩,
    fun s h base length entry heard wordB wordL wordE => ?_⟩
  have pin := taken_pin heard wordB wordL
  have unp := taken_unp heard wordE
  dsimp only
  rw [← pinPlaceable_iff, ← writePendingIn_iff, Bool.not_eq_true]
  refine ⟨fun bad => ?_, fun e he placeable free first => ?_, fun bad => ?_, fun range used sounds => ?_,
    fun range used quiet => ?_⟩
  · exact pin.refused (takePin_of_argument (s := s.atTake h (.pin base length)) (bad.imp_right freePin_eq_none))
  · have rule := takePin_of_free (s := s.atTake h (.pin base length)) placeable (freePin_eq_some he free first)
    exact ⟨fun writing => pin.refused (rule.trans (if_pos writing)), fun clear => pin.accepted (rule.trans (if_neg clear))⟩
  · exact unp.refused (takeUnp_of_argument (s := s.atTake h (.unp entry)) bad)
  · exact unp.refused ((takeUnp_of_used (s := s.atTake h (.unp entry)) range used).trans (if_pos sounds))
  · have rule := (takeUnp_of_used (s := s.atTake h (.unp entry)) range used).trans (if_neg (not_not.mpr quiet))
    have busy := clipInUse_iff (s.atTake h (.unp entry)) (s.transit.pins.get entry).span
    exact ⟨fun playing => unp.refused (rule.trans (if_pos (busy.mpr playing))),
      fun rests => unp.accepted (rule.trans (if_neg (mt busy.mp rests)))⟩

end Sys2Proof.Machine
end

section
/-! SUPPORT. What a fetch and the response to one leave of a record and of the READs that wait (R18, R19, R88, R89). -/

namespace Sys2Proof.Machine

/-! ## The READs of one stream that wait (R19) -/

/-- The waiting READs of stream `n`. -/
def State.waits (s : State) (n : Nat) : List OwnRequest := s.transit.ownQueue.filter fun q => q.stream == n

theorem foldl_insertOwn_filter_same {n : Nat} {rs : List OwnRequest} (own : ∀ r ∈ rs, r.stream = n) {q : List OwnRequest}
    (ordered : q.Pairwise fun a b => a.stream ≤ b.stream) :
    (rs.foldl insertOwn q).filter (fun x => x.stream == n) = q.filter (fun x => x.stream == n) ++ rs := by
  induction rs generalizing q with
  | nil => simp
  | cons r rs ih =>
    obtain rfl := own r List.mem_cons_self
    rw [List.foldl_cons, ih (fun x hx => own x (List.mem_cons_of_mem _ hx)) (insertOwn_ordered q r ordered),
      insertOwn_filter_same q r ordered, List.append_assoc, List.singleton_append]

theorem foldl_insertOwn_filter_other {m : Nat} {rs : List OwnRequest} (other : ∀ r ∈ rs, r.stream ≠ m) (q : List OwnRequest) :
    (rs.foldl insertOwn q).filter (fun x => x.stream == m) = q.filter (fun x => x.stream == m) := by
  induction rs generalizing q with
  | nil => rfl
  | cons r rs ih =>
    rw [List.foldl_cons, ih (fun x hx => other x (List.mem_cons_of_mem _ hx)),
      insertOwn_filter_other q r m (other r List.mem_cons_self)]

theorem ownReads_stream {n : Nat} {r : StreamRecord} {x : OwnRequest} (h : x ∈ ownReads n r) : x.stream = n := by
  obtain ⟨k, -, rfl⟩ := List.mem_map.mp h
  rfl

/-! ## A fetch (R88) -/

/-- The record as a fetch leaves it, its new slot in buffer `b`. -/
def StreamRecord.fetched (r : StreamRecord) (b : Nat) : StreamRecord :=
  { r with queue := r.queue ++ [Slot.fetching r.passUnderFetch r.nextFetch b],
           nextFetch := if r.nextFetch + 1 = r.clipPeriods ∧ 0 < r.repeatsLeft then 0 else r.nextFetch + 1,
           repeatsLeft := if r.nextFetch + 1 = r.clipPeriods ∧ 0 < r.repeatsLeft then r.repeatsLeft - 1 else r.repeatsLeft,
           passUnderFetch :=
             if r.nextFetch + 1 = r.clipPeriods ∧ 0 < r.repeatsLeft then r.passUnderFetch + 1 else r.passUnderFetch }

theorem advanceFetch_eq (r : StreamRecord) (b : Nat) :
    ({ r with queue := r.queue ++ [Slot.fetching r.passUnderFetch r.nextFetch b] } : StreamRecord).advanceFetch
      = r.fetched b := by
  unfold StreamRecord.advanceFetch StreamRecord.fetched
  dsimp only
  split <;> rfl

theorem fetch_of_not_mayFetch {s : State} {n : Nat} (h : ¬ (s.stream n).mayFetch = true) : s.fetch n = s := if_neg h

theorem fetch_of_mayFetch {s : State} {n : Nat} (h : (s.stream n).mayFetch = true) : s.fetch n
    = { s.setStream n ((s.stream n).fetched ((s.stream n).chooseBuffer s.freeDraws)) with
      transit := s.transit.queueOwn (ownReads n (s.stream n)), freeDraws := s.freeDraws + 1 } := by
  rw [← advanceFetch_eq]
  exact if_pos h

/-- A fetch touches the streams, the own queue and the free choices only. -/
theorem fetch_frame (s : State) (n : Nat) : s.fetch n = { s with
    streams := (s.fetch n).streams, transit := { s.transit with ownQueue := (s.fetch n).transit.ownQueue },
    freeDraws := (s.fetch n).freeDraws } := by
  by_cases may : (s.stream n).mayFetch = true
  · rw [fetch_of_mayFetch may]; rfl
  · rw [fetch_of_not_mayFetch may]

theorem fetch_zones (s : State) (n : Nat) : (s.fetch n).zones = s.zones := by rw [fetch_frame]

theorem fetch_stream_other {s : State} {n m : Nat} (hm : m < 8) (other : m ≠ n) : (s.fetch n).stream m = s.stream m := by
  by_cases may : (s.stream n).mayFetch = true
  · rw [fetch_of_mayFetch may]
    exact (stream_setStream s n m _ hm).trans (if_neg other.symm)
  · rw [fetch_of_not_mayFetch may]

theorem fetch_waits_other (s : State) {n m : Nat} (other : m ≠ n) : (s.fetch n).waits m = s.waits m := by
  by_cases may : (s.stream n).mayFetch = true
  · rw [fetch_of_mayFetch may]
    exact foldl_insertOwn_filter_other (fun x hx => by rw [ownReads_stream hx]; exact other.symm) _
  · rw [fetch_of_not_mayFetch may]

theorem fetch_waits {s : State} {n : Nat} (may : (s.stream n).mayFetch = true)
    (ordered : s.transit.ownQueue.Pairwise fun a b => a.stream ≤ b.stream) :
    (s.fetch n).waits n = s.waits n ++ ownReads n (s.stream n) := by
  rw [fetch_of_mayFetch may]
  exact foldl_insertOwn_filter_same (fun x hx => ownReads_stream hx) ordered

theorem fetch_stream {s : State} {n : Nat} (hn : n < 8) (may : (s.stream n).mayFetch = true) :
    ∃ b < 4, (∀ x ∈ (s.stream n).queue, x.buffer ≠ b) ∧ (s.fetch n).stream n = (s.stream n).fetched b := by
  obtain ⟨-, -, room, -, -⟩ := (mayFetch_iff _).mp may
  obtain ⟨inRange, own⟩ := chooseBuffer_free (s.stream n) s.freeDraws (freeBuffers_ne_nil _ room)
  refine ⟨_, inRange, own, ?_⟩
  rw [fetch_of_mayFetch may]
  exact stream_setStream_self s n _ hn

/-! ## The words of a response (R89) -/

theorem get_writeSample (r : StreamRecord) {b i : Nat} (word : Word) {c j : Nat} (hc : c < 4) (hj : j < 48) :
    (((r.writeSample b i word).buffers).get c).get j = if b = c ∧ i = j then word else (r.buffers.get c).get j := by
  rw [StreamRecord.writeSample, Bank.modify, Bank.get_set _ _ _ _ hc]
  by_cases same : b = c
  · subst same
    rw [if_pos rfl, Bank.get_set _ _ _ _ hj]
    simp
  · simp [same]

/-- Words put into buffer `b` at the positions from `base + m` up. -/
theorem get_foldl_writeSample (b base : Nat) {ws : List Word} {m : Nat} (r : StreamRecord) {c j : Nat} (hc : c < 4)
    (hj : j < 48) :
    (((ws.zipIdx m).foldl (fun r p => r.writeSample b (base + p.2) p.1) r).buffers.get c).get j
      = if b = c ∧ base + m ≤ j ∧ j < base + m + ws.length then ws.getD (j - (base + m)) 0#32 else (r.buffers.get c).get j := by
  induction ws generalizing r m with
  | nil => rw [if_neg (by simp only [List.length_nil]; omega)]; rfl
  | cons w ws ih =>
    rw [List.zipIdx_cons, List.foldl_cons, ih, get_writeSample _ _ hc hj]
    by_cases buffer : b = c
    · by_cases first : base + m = j
      · rw [if_neg (by omega), if_pos ⟨buffer, first⟩, if_pos ⟨buffer, by omega, by rw [List.length_cons]; omega⟩,
          show j - (base + m) = 0 by omega]
        rfl
      · by_cases later : base + m ≤ j ∧ j < base + m + (ws.length + 1)
        · rw [if_pos ⟨buffer, by omega, by omega⟩, if_pos ⟨buffer, later⟩,
            show j - (base + m) = (j - (base + (m + 1))) + 1 by omega, List.getD_cons_succ]
        · rw [if_neg (by omega), if_neg (by omega), if_neg fun h => later h.2]
    · rw [if_neg fun h => buffer h.1, if_neg fun h => buffer h.1, if_neg fun h => buffer h.1]

/-- The response to the last slot's part: the slot counts it, and its words are in that slot's buffer. -/
theorem place_last {r : StreamRecord} {o : OwnRequest} {q : List Slot} {x : Slot} {words : List Word}
    (hq : r.queue = q ++ [x]) (label : x.labelled o = true) (ready : ∀ y ∈ q, y.ready = true) (hlen : words.length = 16) :
    (∃ buffers, r.place o words = { r with buffers := buffers, queue := q ++ [x.arrive] })
      ∧ ∀ c < 4, ∀ j < 48, ((r.place o words).buffers.get c).get j
        = if x.buffer = c ∧ 16 * o.part ≤ j ∧ j < 16 * o.part + 16 then words.getD (j - 16 * o.part) 0#32
          else (r.buffers.get c).get j := by
  have others : q.filter (fun y => y.labelled o) = [] :=
    List.filter_eq_nil_iff.mpr fun y hy => by rw [not_labelled_of_ready o (ready y hy)]; exact Bool.false_ne_true
  have slots : r.queue.filter (fun y => y.labelled o) = [x] := by
    rw [hq, List.filter_append, others]
    exact List.filter_cons_of_pos (p := fun y : Slot => y.labelled o) label
  have arrived : r.queue.map (fun y => if y.labelled o then y.arrive else y) = q ++ [x.arrive] := by
    have kept : q.map (fun y => if y.labelled o then y.arrive else y) = q :=
      (List.map_congr_left fun y hy => by rw [not_labelled_of_ready o (ready y hy)]; rfl).trans (List.map_id q)
    rw [hq, List.map_append, kept, List.map_singleton, if_pos label]
  refine ⟨?_, fun c hc j hj => ?_⟩
  · obtain ⟨buffers, e⟩ := place_eq r o words
    exact ⟨buffers, by rw [e, arrived]⟩
  · have samples := get_foldl_writeSample x.buffer (16 * o.part) (ws := words.take 16) (m := 0) r hc hj
    rw [List.take_of_length_le (by omega), hlen] at samples
    unfold StreamRecord.place
    dsimp only
    rw [slots, List.foldl_cons, List.foldl_nil, List.take_of_length_le (by omega)]
    exact samples

end Sys2Proof.Machine
end

section
/-! SUPPORT. The response to an own READ (R18, R89, R93): the event, by what the record is doing. -/

namespace Sys2Proof.Machine

/-- The event in which own tag `k` is freed. -/
def State.freedOwn (s : State) (k : Nat) : State :=
  { s.begun with transit := { s.transit with ownTags := s.transit.ownTags.set k none } }

/-- The event of a response to the own request of tag `32 + k` (R18). -/
theorem exec_ownResponse {s : State} {k : Nat} {r : OwnRequest} (status : MemStatus) (words : List Word)
    (port : s.portOpen = true) (hk : k < 32) (own : s.transit.ownTags.get k = some r) :
    exec (.ownResponse (32 + k) status words) s
      = .next ((s.freedOwn k).ownData r status words).latch := by
  have entry : s.begun.transit.ownEntry (32 + k) = some r := (ownEntry_own s.transit hk).trans own
  have answered : s.begun.memoryReturns (32 + k) (.data status words) = s.begun.ownResponse k r status words := by
    refine (memoryReturns_own _ (s := s.begun) port entry).trans ?_
    exact congrArg (fun k => s.begun.ownResponse k r status words) (Nat.add_sub_cancel_left 32 k)
  exact congrArg (fun t : State => Host.Outcome.next t.latch) answered

/-- Freeing one own tag of the stream leaves one fewer in flight. -/
theorem count_set_none {k : Nat} (b : Bank 32 (Option OwnRequest)) (hk : k < 32) {p : Option OwnRequest → Bool}
    (held : p (b.get k) = true) (freed : p none = false) : (b.set k none).count p + 1 = b.count p := by
  have inside : k < b.cells.length := Nat.lt_of_lt_of_eq hk b.size.symm
  rw [Bank.get_eq_getElem _ _ hk] at held
  have some : 0 < b.cells.countP p := List.countP_pos_iff.mpr ⟨_, List.getElem_mem inside, held⟩
  have set := List.countP_set (p := p) (l := b.cells) (i := k) (a := none) inside
  rw [if_pos held, freed] at set
  show (b.cells.set k none).countP p + 1 = b.cells.countP p
  rw [set]
  simp
  omega

theorem freeIfDrained_stream {s : State} {n : Nat} (hn : n < 8) (ending : (s.stream n).state = .ending) :
    (s.freeIfDrained n).stream n = if (s.stream n).drained = true ∧ s.inFlight n = 0 then
      { s.stream n with state := .free } else s.stream n := by
  by_cases empty : (s.stream n).drained = true ∧ s.inFlight n = 0
  · have freed : s.freeIfDrained n = _ := if_pos ⟨ending, empty⟩
    rw [freed, if_pos empty]
    exact stream_setStream_self s n _ hn
  · have kept : s.freeIfDrained n = _ := if_neg fun h => empty h.2
    rw [kept, if_neg empty]

theorem freeIfDrained_other {s : State} {n m : Nat} (hm : m < 8) (other : m ≠ n) : (s.freeIfDrained n).stream m = s.stream m := by
  unfold State.freeIfDrained
  dsimp only
  split
  · exact (stream_setStream s n m _ hm).trans (if_neg other.symm)
  · rfl

theorem freeIfDrained_frame (s : State) (n : Nat) : s.freeIfDrained n = { s with streams := (s.freeIfDrained n).streams } := by
  unfold State.freeIfDrained
  dsimp only
  split <;> rfl

theorem freeIfDrained_zones (s : State) (n : Nat) : (s.freeIfDrained n).zones = s.zones := by
  rw [freeIfDrained_frame]

/-- A FAULT ends the live stream (R18). -/
theorem ownData_fault {s : State} {r : OwnRequest} (words : List Word) (live : (s.stream r.stream).live = true) :
    s.ownData r .fault words = s.endStream .fetchError r.stream := if_pos live

theorem ownData_ok {s : State} {r : OwnRequest} (words : List Word) (live : (s.stream r.stream).live = true) :
    s.ownData r .ok words = (s.setStream r.stream ((s.stream r.stream).place r words)).fetch r.stream := if_pos live

theorem ownData_dropped {s : State} {r : OwnRequest} (status : MemStatus) (words : List Word)
    (stopped : (s.stream r.stream).live = false) : s.ownData r status words = (s.freeIfDrained r.stream).releaseBusy :=
  if_neg (by simp [stopped])

theorem filter_withdrawn (q : List OwnRequest) (n : Nat) :
    (q.filter fun x => x.stream != n).filter (fun x => x.stream == n) = [] := by
  rw [List.filter_filter, List.filter_eq_nil_iff]
  intro x _
  cases h : x.stream == n <;> simp [bne, h]

theorem filter_withdrawn_other (q : List OwnRequest) {n m : Nat} (other : m ≠ n) :
    (q.filter fun x => x.stream != n).filter (fun x => x.stream == m) = q.filter fun x => x.stream == m := by
  rw [List.filter_filter]
  refine List.filter_congr fun x _ => ?_
  by_cases h : x.stream = m
  · simp [h, other]
  · simp [h]

/-- Settles O13: the three answers of the record, each by its lemmas. -/
theorem ownResponsePlacedDroppedOrFaulted : Obligations.OwnResponsePlacedDroppedOrFaulted := by
  intro s k r words port hk hn hpart hlen own
  let n := r.stream
  let freed := s.freedOwn k
  have row (status : MemStatus) {t : State} (work : freed.ownData r status words = t) :
      exec (.ownResponse (32 + k) status words) s = .next t.latch := by
    rw [exec_ownResponse status words port hk own, ← work]
  refine ⟨fun live => ?_, fun q x live hq label ready => ?_, fun status ending => ?_⟩
  · have ended := (ownData_fault words (s := freed) live).trans (endStream_of_live .fetchError (s := freed) live)
    refine ⟨_, row .fault ended, rfl, Bank.get_set_self _ _ _ hn, rfl, filter_withdrawn _ n,
      fun m hm other => ⟨?_, ?_⟩, rfl⟩
    · exact Bank.get_set_ne _ _ _ _ hm other.symm
    · exact filter_withdrawn_other _ other
  · let u : State := freed.setStream n ((s.stream n).place r words)
    obtain ⟨⟨buffers, record⟩, samples⟩ := place_last (words := words) hq label ready hlen
    have self : u.stream n = { s.stream n with buffers := buffers, queue := q ++ [x.arrive] } :=
      (stream_setStream_self freed n _ hn).trans record
    have may : (u.stream n).mayFetch = true ↔ x.parts = 2 ∧ (s.stream n).source = .clip ∧ q.length + 1 < 4
        ∧ (s.stream n).nextFetch < (s.stream n).clipPeriods := by
      have arrived : (∀ y ∈ q ++ [x.arrive], y.ready = true) ↔ x.parts = 2 := by
        simp [or_imp, forall_and, Slot.arrive]
        exact fun _ => ready
      have alive : (s.stream n).live = true := live
      rw [self, mayFetch_iff]
      simp only [List.length_append, List.length_singleton, arrived]
      show (s.stream n).live = true ∧ _ ↔ _
      tauto
    have kept : ((u.fetch n).stream n).buffers = ((s.stream n).place r words).buffers := by
      by_cases fetches : (u.stream n).mayFetch = true
      · obtain ⟨b, -, -, e⟩ := fetch_stream (s := u) hn fetches
        rw [e, record, self]
        rfl
      · rw [fetch_of_not_mayFetch fetches, self, record]
    have shape : buffers = ((u.fetch n).stream n).buffers := by rw [kept, record]
    refine ⟨_, row .ok (ownData_ok words (s := freed) live), congrArg (fun t => t.transit.ownTags) (fetch_frame u n),
      ⟨fun still => ?_, fun fetches => ⟨fun ordered => ?_, ?_⟩⟩, fun inside i hi => ?_, fun b hb other => ?_,
      fun m hm other => ⟨?_, fetch_waits_other u other⟩, fetch_zones u n⟩
    · have stands : u.fetch n = u := fetch_of_not_mayFetch (mt may.mp still)
      have record : (u.fetch n).stream n = u.stream n := by rw [stands]
      have reads : (u.fetch n).waits n = u.waits n := by rw [stands]
      rw [self, shape] at record
      exact ⟨record, reads⟩
    · refine (fetch_waits (s := u) (may.mpr fetches) ordered).trans ?_
      rw [self]
      rfl
    · obtain ⟨b, hb, own, e⟩ := fetch_stream (s := u) hn (may.mpr fetches)
      rw [self] at own e
      refine ⟨b, hb, own, e.trans ?_⟩
      rw [shape]
      let filled : StreamRecord := { s.stream n with buffers := ((u.fetch n).stream n).buffers, queue := q ++ [x.arrive] }
      exact congrArg (fun slots => { filled.fetched b with queue := slots }) (List.append_assoc q [x.arrive] [_])
    · refine (congrArg (fun buffers : Bank 4 (Bank 48 Word) => (buffers.get x.buffer).get i) kept).trans ?_
      exact (samples _ inside i hi).trans (if_congr (and_iff_right rfl) rfl rfl)
    · refine (congrArg (fun buffers : Bank 4 (Bank 48 Word) => buffers.get b) kept).trans ?_
      exact Bank.ext_get fun i hi => (samples b hb i hi).trans (if_neg fun h => other h.1.symm)
    · exact (fetch_stream_other (s := u) hm other).trans ((stream_setStream freed n m _ hm).trans (if_neg other.symm))
  · have stopped : (freed.stream n).live = false := (live_eq_false _).mpr (.inr ending)
    have fewer : freed.inFlight n + 1 = s.inFlight n := count_set_none s.transit.ownTags hk (by rw [own]; simp [n]) rfl
    refine ⟨_, row status (ownData_dropped status words stopped), congrArg (fun t => t.transit.ownTags) (freeIfDrained_frame freed n),
      (freeIfDrained_stream (s := freed) hn ending).trans (if_congr (and_congr_right fun _ => ?_) rfl rfl),
      fun m hm other => freeIfDrained_other (s := freed) hm other, freeIfDrained_zones freed n⟩
    show freed.inFlight n = 0 ↔ s.inFlight n = 1
    omega

end Sys2Proof.Machine
end

section
/-! SUPPORT. What the works of a tick leave of one stream record, but for the record's own (R71, R90, R101, R194). -/

namespace Sys2Proof.Machine

/-! ## The surroundings of a record -/

/-- What the works of a tick leave of stream `n`'s surroundings: its waiting READs, its zones, what was posted for it. -/
structure Aside (n : Nat) (s t : State) : Prop where
  waits : t.waits n = s.waits n
  ordered : (s.transit.ownQueue.Pairwise fun a b => a.stream ≤ b.stream) → t.transit.ownQueue.Pairwise fun a b => a.stream ≤ b.stream
  ownTags : t.transit.ownTags = s.transit.ownTags
  bound : ∀ z < 64, (t.zone z).bound = some n ↔ (s.zone z).bound = some n
  unbound : ∀ z < 64, (s.zone z).bound = none → (t.zone z).bound = none
  posted : s.control.pendingNotices.get 4 = true → t.control.pendingNotices.get 4 = true
  timeout : t.control.pageTimeout = s.control.pageTimeout
  captured : s.page.capture = none → t.page.capture = none
  theatre : t.theatre = s.theatre

/-- The record and the tick count stand too. -/
structure Spared (n : Nat) (s t : State) : Prop extends Aside n s t where
  stream : t.stream n = s.stream n
  tickCount : t.clock.tickCount = s.clock.tickCount

/-- A record after offers of its group's periods (R101). -/
def Offered (r r' : StreamRecord) : Prop :=
  r' = r ∨ (r.source = .group ∧ r.sounding = true
    ∧ { r' with queue := r.queue, buffers := r.buffers, droppedCount := r.droppedCount } = r)

/-- The surroundings and the tick count stand, and the record but for offers. -/
structure Passed (n : Nat) (s t : State) : Prop extends Aside n s t where
  offered : Offered (s.stream n) (t.stream n)
  tickCount : t.clock.tickCount = s.clock.tickCount

theorem Aside.refl (n : Nat) (s : State) : Aside n s s :=
  ⟨rfl, id, rfl, fun _ _ => Iff.rfl, fun _ _ => id, id, rfl, id, rfl⟩

theorem Aside.trans {n : Nat} {s t u : State} (a : Aside n s t) (b : Aside n t u) : Aside n s u where
  waits := b.waits.trans a.waits
  ordered := b.ordered ∘ a.ordered
  ownTags := b.ownTags.trans a.ownTags
  bound z hz := (b.bound z hz).trans (a.bound z hz)
  unbound z hz := b.unbound z hz ∘ a.unbound z hz
  posted := b.posted ∘ a.posted
  timeout := b.timeout.trans a.timeout
  captured := b.captured ∘ a.captured
  theatre := b.theatre.trans a.theatre

theorem Spared.refl (n : Nat) (s : State) : Spared n s s := ⟨.refl n s, rfl, rfl⟩

theorem Spared.trans {n : Nat} {s t u : State} (a : Spared n s t) (b : Spared n t u) : Spared n s u :=
  ⟨a.toAside.trans b.toAside, b.stream.trans a.stream, b.tickCount.trans a.tickCount⟩

theorem Offered.trans {r r' r'' : StreamRecord} (a : Offered r r') (b : Offered r' r'') : Offered r r'' := by
  obtain rfl | ⟨group, sounds, same⟩ := a
  · exact b
  · obtain rfl | ⟨-, -, same'⟩ := b
    · exact .inr ⟨group, sounds, same⟩
    · refine .inr ⟨group, sounds, ?_⟩
      rw [← same, ← same']

theorem Passed.trans {n : Nat} {s t u : State} (a : Passed n s t) (b : Passed n t u) : Passed n s u :=
  ⟨a.toAside.trans b.toAside, a.offered.trans b.offered, b.tickCount.trans a.tickCount⟩

theorem Spared.passed {n : Nat} {s t : State} (a : Spared n s t) : Passed n s t :=
  ⟨a.toAside, .inl a.stream, a.tickCount⟩

/-- The show that rests goes on resting. -/
theorem Aside.rests {n : Nat} {s t : State} (a : Aside n s t) (rests : s.showRests = true) : t.showRests = true := by
  unfold State.showRests
  rw [a.theatre]
  exact rests

/-- A work that touches no stream, own request or page, unbinds no zone and withdraws no notice. -/
theorem Spared.quiet {n : Nat} {s t : State} (streams : t.streams = s.streams) (transit : t.transit = s.transit)
    (bound : ∀ z < 64, (t.zone z).bound = (s.zone z).bound)
    (posted : s.control.pendingNotices.get 4 = true → t.control.pendingNotices.get 4 = true)
    (timeout : t.control.pageTimeout = s.control.pageTimeout) (page : t.page = s.page) (theatre : t.theatre = s.theatre)
    (tickCount : t.clock.tickCount = s.clock.tickCount) : Spared n s t where
  waits := by unfold State.waits; rw [transit]
  ordered := by rw [transit]; exact id
  ownTags := by rw [transit]
  bound z hz := by rw [bound z hz]
  unbound z hz := by rw [bound z hz]; exact id
  posted := posted
  timeout := timeout
  captured := by rw [page]; exact id
  theatre := theatre
  tickCount := tickCount
  stream := by unfold State.stream; rw [streams]

theorem post_spared (n : Nat) (s : State) (k : NoticeKind) : Spared n s (s.post k) := by
  refine .quiet rfl rfl (fun _ _ => rfl) (fun h => ?_) rfl rfl rfl rfl
  refine (Bank.get_set _ _ _ _ (by decide)).trans ?_
  split
  · rfl
  · exact h

theorem countedFrom_spared (n : Nat) (s : State) (before : Nat) : Spared n s (s.countedFrom before) := by
  unfold State.countedFrom
  split
  · exact post_spared n s _
  · exact .refl n s

theorem clock_spared (n : Nat) (s : State) (c : ClockUnit) (tickCount : c.tickCount = s.clock.tickCount) :
    Spared n s { s with clock := c } := .quiet rfl rfl (fun _ _ => rfl) id rfl rfl rfl tickCount

theorem alarmUnit_spared (n : Nat) (s : State) (a : AlarmUnit) : Spared n s { s with alarm := a } :=
  .quiet rfl rfl (fun _ _ => rfl) id rfl rfl rfl rfl

/-- Zones changed in what is no binding. -/
theorem mapZones_spared (n : Nat) (s : State) {f : ZoneEntry → ZoneEntry} (bound : ∀ e, (f e).bound = e.bound) :
    Spared n s { s with zones := s.zones.map f } :=
  .quiet rfl rfl (fun z hz => by
    refine Eq.trans ?_ (bound (s.zone z))
    exact congrArg ZoneEntry.bound (Bank.get_map f s.zones z hz)) id rfl rfl rfl rfl

/-! ## The show and the show mark -/

theorem consider_of_rests {s : State} (rests : s.showRests = true) : s.consider = s := by
  unfold State.consider considerChain
  refine if_neg fun h => ?_
  unfold State.showRests at rests
  rw [Bool.or_eq_true, bne_iff_ne, decide_eq_true_eq] at rests
  exact rests.elim (fun stopped => stopped h.1) fun through => Nat.not_lt.mpr through h.2

theorem markEvent_spared (n : Nat) {s : State} (rests : s.showRests = true) :
    Spared n s s.markEvent ∧ s.markEvent.alarm = s.alarm := by
  have stands : s.markEvent = { s with clock := { s.clock with markCount := (s.clock.markCount + 1) % 16777216 } } :=
    consider_of_rests rests
  rw [stands]
  exact ⟨clock_spared n s _ rfl, rfl⟩

theorem setLock_spared (n : Nat) (s : State) (lock : LockState) : Spared n s (s.setLock lock) :=
  (clock_spared n s { s.clock with lock := lock } rfl).trans (post_spared n _ _)

/-- A change of the lock and the clock, and the mark that goes with it. -/
theorem lockMark_spared (n : Nat) {s t : State} (rests : s.showRests = true) (change : Spared n s t) (alarm : t.alarm = s.alarm)
    (c : ClockUnit) (tickCount : c.tickCount = t.clock.tickCount) :
    Spared n s (State.markEvent { t with clock := c }) ∧ (State.markEvent { t with clock := c }).alarm = s.alarm := by
  have changed := change.trans (clock_spared n t c tickCount)
  obtain ⟨marked, same⟩ := markEvent_spared n (changed.rests rests)
  exact ⟨changed.trans marked, same.trans alarm⟩

theorem measureStep_spared (n : Nat) {s : State} (rests : s.showRests = true) :
    Spared n s s.measureStep ∧ s.measureStep.alarm = s.alarm := by
  have counted : Spared n s { s with clock := s.clock.countStep } := clock_spared n s _ rfl
  have same : State.alarm { s with clock := s.clock.countStep } = s.alarm := rfl
  unfold State.measureStep
  dsimp only
  split
  · exact ⟨counted, same⟩
  · exact ⟨counted, same⟩
  · split
    · exact lockMark_spared n rests (counted.trans (setLock_spared n _ _)) rfl _ rfl
    · exact ⟨counted, same⟩
  · split
    · unfold State.closeWindow
      split
      · exact lockMark_spared n rests (counted.trans (setLock_spared n _ _)) rfl _ rfl
      · exact lockMark_spared n rests counted rfl _ rfl
    · exact ⟨counted, same⟩

theorem measure_spared (n k : Nat) {s : State} (rests : s.showRests = true) :
    Spared n s (s.forEach (List.range k) fun _ s => s.measureStep)
      ∧ (s.forEach (List.range k) fun _ s => s.measureStep).alarm = s.alarm :=
  forEach_keeps (P := fun t => Spared n s t ∧ t.alarm = s.alarm) (fun _ _ t ht => by
    obtain ⟨spared, same⟩ := measureStep_spared n (ht.1.rests rests)
    exact ⟨ht.1.trans spared, same.trans ht.2⟩) ⟨.refl n s, rfl⟩

theorem showTick_spared (n : Nat) {s : State} (rests : s.showRests = true) :
    Spared n s s.showTick ∧ s.showTick.alarm = s.alarm := by
  have bound : ∀ e : ZoneEntry, e.stepRamp.bound = e.bound := fun e => by
    unfold ZoneEntry.stepRamp
    repeat' split
    all_goals rfl
  have follow : s.theatre.countFollow = s.theatre := by
    unfold ShowRecord.countFollow
    refine if_neg fun h => ?_
    unfold State.showRests at rests
    rw [Bool.or_eq_true, bne_iff_ne, decide_eq_true_eq] at rests
    exact rests.elim (fun stopped => stopped h.1) fun through => Nat.not_lt.mpr through h.2.1
  have stepped := mapZones_spared n s bound
  have stands : s.showTick = { s with zones := s.zones.map ZoneEntry.stepRamp } := by
    have set : s.showTick = State.consider { s with zones := s.zones.map ZoneEntry.stepRamp, theatre := s.theatre.countFollow } := rfl
    rw [set, follow]
    exact consider_of_rests (stepped.rests rests)
  rw [stands]
  exact ⟨stepped, rfl⟩

/-! ## The alarm unit -/

theorem evaluateFallback_spared (n : Nat) (s : State) : Spared n s s.evaluateFallback := by
  unfold State.evaluateFallback
  split
  · exact .refl n s
  · exact alarmUnit_spared n s _

theorem evaluateFallback_holdCount (s : State) : s.evaluateFallback.alarm.holdCount = s.alarm.holdCount := by
  unfold State.evaluateFallback
  split <;> rfl

theorem postSilent_spared (n : Nat) (e : ZoneEntry) (s : State) :
    Spared n s (State.postSilent e s) ∧ (State.postSilent e s).alarm = s.alarm := by
  have counted : ∀ t : State, (t.countedFrom e.silentEvents).alarm = t.alarm := fun t => by
    unfold State.countedFrom
    split <;> rfl
  unfold State.postSilent
  split
  · exact ⟨(post_spared n s _).trans (countedFrom_spared n _ _), counted _⟩
  · exact ⟨.refl n s, rfl⟩

theorem watchStep_spared (n : Nat) (s : State) :
    Spared n s s.watchStep ∧ s.watchStep.alarm.holdCount = s.alarm.holdCount := by
  have bound : ∀ e : ZoneEntry, e.stepWatch.bound = e.bound := fun e => by
    unfold ZoneEntry.stepWatch
    repeat' split
    all_goals rfl
  have posts : ∀ (es : List ZoneEntry) {t : State}, Spared n s t ∧ t.alarm = s.alarm →
      Spared n s (es.foldl (fun t e => State.postSilent e t) t)
        ∧ (es.foldl (fun t e => State.postSilent e t) t).alarm = s.alarm := by
    intro es
    induction es with
    | nil => exact id
    | cons e es ih =>
      intro t ht
      obtain ⟨posted, same⟩ := postSilent_spared n e t
      exact ih ⟨ht.1.trans posted, same.trans ht.2⟩
  obtain ⟨stepped, same⟩ := posts s.zones.cells ⟨mapZones_spared n s bound, rfl⟩
  unfold State.watchStep
  dsimp only
  split
  · exact ⟨stepped.trans (evaluateFallback_spared n _),
      (evaluateFallback_holdCount _).trans (congrArg AlarmUnit.holdCount same)⟩
  · exact ⟨stepped, congrArg AlarmUnit.holdCount same⟩

/-- The hold count rises past no seen event (R137). -/
theorem countHold_of_rests {s : State} (panel : s.alarm.holdCount ≠ 19) : s.countHold
    = if s.alarm.holdCount < 20 then { s with alarm := { s.alarm with holdCount := s.alarm.holdCount + 1 } } else s := by
  unfold State.countHold
  by_cases below : s.alarm.holdCount < 20
  · rw [if_pos below, if_pos below]
    exact if_neg fun h => panel (Nat.succ.inj h)
  · rw [if_neg below, if_neg below]

/-- The decoder step of a tick at which nothing is seen moves the alarm unit's own counts (R137, R139). -/
theorem decoderStep_spared (n : Nat) {s : State} (panel : s.alarm.holdCount ≠ 19) : Spared n s s.decoderStep := by
  have held : Spared n s s.countHold := by
    rw [countHold_of_rests panel]
    split
    · exact alarmUnit_spared n s _
    · exact .refl n s
  unfold State.decoderStep State.countWindow
  dsimp only
  split
  · split
    · exact held.trans (alarmUnit_spared n _ _)
    · exact held.trans (alarmUnit_spared n _ _)
  · exact held

theorem stepPattern_holdCount (a : AlarmUnit) : a.stepPattern.holdCount = a.holdCount := by
  unfold AlarmUnit.stepPattern
  dsimp only
  split <;> rfl

theorem alarmTick_spared (n : Nat) {s : State} (panel : s.panelRests = true) : Spared n s s.alarmTick := by
  have pattern : Spared n s s.patternStep ∧ s.patternStep.alarm.holdCount = s.alarm.holdCount := by
    unfold State.patternStep
    split
    · exact ⟨alarmUnit_spared n s _, stepPattern_holdCount _⟩
    · exact ⟨.refl n s, rfl⟩
  obtain ⟨watched, held⟩ := watchStep_spared n s.patternStep
  refine (pattern.1.trans watched).trans (decoderStep_spared n ?_)
  rw [held, pattern.2]
  simpa [State.panelRests] using panel

end Sys2Proof.Machine
end

section
/-! SUPPORT. The intercom engine's offers and the ticks of the other records, as one record sees them (R90 to R93, R101). -/

namespace Sys2Proof.Machine

/-! ## One record set -/

theorem setStream_aside (n : Nat) (s : State) (m : Nat) (r : StreamRecord) : Aside n s (s.setStream m r) :=
  ⟨rfl, id, rfl, fun _ _ => Iff.rfl, fun _ _ => id, id, rfl, id, rfl⟩

theorem setStream_spared {n m : Nat} (hn : n < 8) (other : m ≠ n) (s : State) (r : StreamRecord) :
    Spared n s (s.setStream m r) :=
  ⟨setStream_aside n s m r, (stream_setStream s m n r hn).trans (if_neg other), rfl⟩

theorem freeDraws_spared (n : Nat) (s : State) (k : Nat) : Spared n s { s with freeDraws := k } :=
  .quiet rfl rfl (fun _ _ => rfl) id rfl rfl rfl rfl

/-! ## Offers (R101, R120) -/

/-- An offer to the record itself. -/
theorem offerPeriod_own {n : Nat} (hn : n < 8) (g : Nat) (samples : Bank 48 Word) (s : State) :
    Passed n s (State.offerPeriod g samples n s) := by
  unfold State.offerPeriod
  dsimp only
  split
  swap
  · exact (Spared.refl n s).passed
  next offered =>
  have taken : ∀ r : StreamRecord, Offered (s.stream n) r → Passed n s (s.setStream n r) := fun r same =>
    ⟨setStream_aside n s n r, by rw [stream_setStream_self s n r hn]; exact same, rfl⟩
  split
  · refine Passed.trans ?_ (freeDraws_spared n (s.setStream n _) _).passed
    exact taken _ (.inr ⟨offered.2.1, offered.1, rfl⟩)
  · exact taken _ (.inr ⟨offered.2.1, offered.1, rfl⟩)

theorem offerPeriod_other {n m : Nat} (hn : n < 8) (other : m ≠ n) (g : Nat) (samples : Bank 48 Word) (s : State) :
    Spared n s (State.offerPeriod g samples m s) := by
  unfold State.offerPeriod
  dsimp only
  split
  · split
    · exact (setStream_spared hn other s _).trans (freeDraws_spared n _ _)
    · exact setStream_spared hn other s _
  · exact .refl n s

/-- What each turn of a loop passes, the loop passes. -/
theorem forEach_passed {n : Nat} {f : Nat → State → State} {ns : List Nat} (each : ∀ m ∈ ns, ∀ t, Passed n t (f m t)) (s : State) :
    Passed n s (s.forEach ns f) :=
  forEach_keeps (P := fun t => Passed n s t) (fun m hm t ht => ht.trans (each m hm t)) (Spared.refl n s).passed

theorem intercomTick_passed {n : Nat} (hn : n < 8) (s : State) : Passed n s s.intercomTick := by
  have offers : ∀ g t, Passed n t (State.offerGroup g t) := fun g t => by
    unfold State.offerGroup
    split
    · refine forEach_passed (fun m _ u => ?_) t
      by_cases own : m = n
      · rw [own]; exact offerPeriod_own hn g _ u
      · exact (offerPeriod_other hn own g _ u).passed
    · exact (Spared.refl n t).passed
  have swapped : Spared n s s.swapIntercom := .quiet rfl rfl (fun _ _ => rfl) id rfl rfl rfl rfl
  have offered := forEach_passed (ns := List.range 16) (fun g _ => offers g) s.swapIntercom
  have released : ∀ t : State, Spared n t { t with control := { t.control with busyIntercom := false } } := fun t =>
    .quiet rfl rfl (fun _ _ => rfl) id rfl rfl rfl rfl
  exact (swapped.passed.trans offered).trans (released _).passed

/-! ## The ticks of the other records -/

theorem endStream_spared {n m : Nat} (hn : n < 8) (other : m ≠ n) (cause : EndCause) (s : State) :
    Spared n s (s.endStream cause m) := by
  by_cases live : (s.stream m).live = true
  swap
  · rw [endStream_of_not_live cause (Bool.eq_false_iff.mpr live)]
    exact .refl n s
  rw [endStream_of_live cause live]
  refine .trans ?_ (post_spared n _ _)
  exact {
    waits := filter_withdrawn_other _ other.symm
    ordered := fun h => h.sublist List.filter_sublist
    ownTags := rfl
    bound := fun _ _ => Iff.rfl
    unbound := fun _ _ => id
    posted := id
    timeout := rfl
    captured := fun closed => by
      dsimp only
      split
      · rfl
      · exact closed
    theatre := rfl
    tickCount := rfl
    stream := Bank.get_set_ne _ _ _ _ hn other }

theorem fetch_spared {n m : Nat} (hn : n < 8) (other : m ≠ n) (s : State) : Spared n s (s.fetch m) where
  waits := fetch_waits_other s other.symm
  ordered h := by
    by_cases may : (s.stream m).mayFetch = true
    · rw [fetch_of_mayFetch may]; exact queueOwn_ordered _ h
    · rw [fetch_of_not_mayFetch may]; exact h
  ownTags := by rw [fetch_frame]
  bound z _ := by rw [fetch_frame]; exact Iff.rfl
  unbound z _ := by rw [fetch_frame]; exact id
  posted := by rw [fetch_frame]; exact id
  timeout := by rw [fetch_frame]
  captured := by rw [fetch_frame]; exact id
  theatre := by rw [fetch_frame]
  tickCount := by rw [fetch_frame]
  stream := fetch_stream_other hn other.symm

theorem freeIfDrained_spared {n m : Nat} (hn : n < 8) (other : m ≠ n) (s : State) : Spared n s (s.freeIfDrained m) := by
  unfold State.freeIfDrained
  dsimp only
  split
  · exact setStream_spared hn other s _
  · exact .refl n s

theorem zone_unbindAll (s : State) (m : Nat) {z : Nat} (hz : z < 64) : (s.unbindAll m).zone z
    = if (s.zone z).bound == some m then { s.zone z with bound := none } else s.zone z := Bank.get_map _ s.zones z hz

theorem unbindAll_spared {n m : Nat} (other : m ≠ n) (s : State) : Spared n s (s.unbindAll m) where
  waits := rfl
  ordered := id
  ownTags := rfl
  bound z hz := by
    rw [zone_unbindAll s m hz]
    split
    · next bound =>
      rw [beq_iff_eq.mp bound]
      exact ⟨nofun, fun e => absurd (Option.some.inj e) other⟩
    · rfl
  unbound z hz none := by
    rw [zone_unbindAll s m hz]
    split
    · rfl
    · exact none
  posted := id
  timeout := rfl
  captured := id
  theatre := rfl
  tickCount := rfl
  stream := rfl

theorem pageWatch_spared {n m : Nat} (hn : n < 8) (other : m ≠ n) (s : State) : Spared n s (s.pageWatch m) := by
  have counted := setStream_spared hn other s (s.stream m).countStarved
  unfold State.pageWatch
  dsimp only
  split
  · split
    · exact counted.trans (endStream_spared hn other _ _)
    · exact counted
  · exact .refl n s

/-- The tick of another record. -/
theorem tickRecord_spared {n m : Nat} (hn : n < 8) (other : m ≠ n) (before s : State) :
    Spared n s (State.tickRecord before m s) := by
  have set := setStream_spared hn other
  unfold State.tickRecord
  split
  · exact .refl n s
  · split
    · unfold State.tickStarting
      dsimp only
      split
      · exact (set s _).trans (endStream_spared hn other _ _)
      · exact (set s _).trans (pageWatch_spared hn other _)
    · exact .refl n s
  · unfold State.tickPlaying
    dsimp only
    split
    · exact (set s _).trans (endStream_spared hn other _ _)
    · exact ((((set s _).trans (set _ _)).trans (pageWatch_spared hn other _)).trans (fetch_spared hn other _))
  · exact .refl n s
  · split
    · exact ((set s _).trans (unbindAll_spared other _)).trans (freeIfDrained_spared hn other _)
    · exact .refl n s

theorem forEach_tickRecord_spared {n : Nat} (hn : n < 8) (before : State) {ns : List Nat} (others : n ∉ ns) (s : State) :
    Spared n s (s.forEach ns (State.tickRecord before)) :=
  forEach_keeps (P := Spared n s)
    (fun _ hm t ht => ht.trans (tickRecord_spared hn (fun e => others (e ▸ hm)) before t)) (.refl n s)

/-- The stream engine's work is the record's own tick among ticks of others. -/
theorem streamTick_around {n : Nat} (hn : n < 8) (before s : State) :
    ∃ u, Spared n s u ∧ Spared n (State.tickRecord before n u) (State.streamTick before s) := by
  obtain ⟨earlier, later, split, one⟩ : ∃ earlier later, List.range 8 = earlier ++ n :: later ∧ (earlier ++ n :: later).Nodup := by
    obtain ⟨earlier, later, e⟩ := List.append_of_mem (List.mem_range.mpr hn)
    exact ⟨earlier, later, e, e ▸ List.nodup_range⟩
  rw [List.nodup_middle, List.nodup_cons, List.mem_append, not_or] at one
  refine ⟨_, forEach_tickRecord_spared hn before one.1.1 s, ?_⟩
  have loop : s.forEach (List.range 8) (State.tickRecord before)
      = (State.tickRecord before n (s.forEach earlier (State.tickRecord before))).forEach later (State.tickRecord before) := by
    rw [split]
    exact List.foldl_append
  unfold State.streamTick
  rw [loop]
  have released : ∀ t : State, Spared n t t.releaseBusy := fun t => .quiet rfl rfl (fun _ _ => rfl) id rfl rfl rfl rfl
  exact (forEach_tickRecord_spared hn before one.1.2 _).trans (released _)

end Sys2Proof.Machine
end

section
/-! SUPPORT. The event that makes a tick, as one stream record sees it: its own tick among works that spare it (R69 to R72, R194). -/

namespace Sys2Proof.Machine

/-! ## What the stream engine's works leave alone -/

/-- The alarm unit, the clock and the show stand. -/
structure Apart (s t : State) : Prop where
  alarm : t.alarm = s.alarm
  clock : t.clock = s.clock
  theatre : t.theatre = s.theatre

theorem Apart.refl (s : State) : Apart s s := ⟨rfl, rfl, rfl⟩

theorem Apart.trans {s t u : State} (a : Apart s t) (b : Apart t u) : Apart s u :=
  ⟨b.alarm.trans a.alarm, b.clock.trans a.clock, b.theatre.trans a.theatre⟩

theorem endStream_apart (cause : EndCause) (n : Nat) (s : State) : Apart s (s.endStream cause n) := by
  have same := endStream_same cause n s
  exact ⟨same.alarm, same.clock, same.theatre⟩

theorem setStream_apart (s : State) (n : Nat) (r : StreamRecord) : Apart s (s.setStream n r) := ⟨rfl, rfl, rfl⟩

theorem fetch_apart (n : Nat) (s : State) : Apart s (s.fetch n) := by
  rw [fetch_frame]
  exact ⟨rfl, rfl, rfl⟩

theorem pageWatch_apart (n : Nat) (s : State) : Apart s (s.pageWatch n) := by
  unfold State.pageWatch
  dsimp only
  split
  · split
    · exact (setStream_apart s n _).trans (endStream_apart _ _ _)
    · exact setStream_apart s n _
  · exact .refl s

theorem tickRecord_apart (before : State) (n : Nat) (s : State) : Apart s (State.tickRecord before n s) := by
  have set := setStream_apart s n
  unfold State.tickRecord
  split
  · exact .refl s
  · split
    · unfold State.tickStarting
      dsimp only
      split
      · exact (set _).trans (endStream_apart _ _ _)
      · exact (set _).trans (pageWatch_apart _ _)
    · exact .refl s
  · unfold State.tickPlaying
    dsimp only
    split
    · exact (set _).trans (endStream_apart _ _ _)
    · exact (((set _).trans (setStream_apart _ n _)).trans (pageWatch_apart _ _)).trans (fetch_apart _ _)
  · exact .refl s
  · split
    · unfold State.tickEnding
      rw [freeIfDrained_frame]
      exact ⟨rfl, rfl, rfl⟩
    · exact .refl s

theorem streamTick_apart (before s : State) : Apart s (State.streamTick before s) := by
  have loop : Apart s (s.forEach (List.range 8) (State.tickRecord before)) :=
    forEach_keeps (P := Apart s) (fun n _ t ht => ht.trans (tickRecord_apart before n t)) (.refl s)
  have released : ∀ t : State, Apart t t.releaseBusy := fun _ => ⟨rfl, rfl, rfl⟩
  unfold State.streamTick
  exact loop.trans (released _)

theorem intercomTick_alarm (s : State) : s.intercomTick.alarm = s.alarm := by
  have offers : ∀ g samples n t, (State.offerPeriod g samples n t).alarm = t.alarm := fun g samples n t => by
    unfold State.offerPeriod
    dsimp only
    repeat' split
    all_goals rfl
  have group : ∀ g t, (State.offerGroup g t).alarm = t.alarm := fun g t => by
    unfold State.offerGroup
    split
    · exact forEach_same State.alarm (f := State.offerPeriod g _) (fun n _ u => offers g _ n u) t
    · rfl
  have loop : (s.swapIntercom.forEach (List.range 16) State.offerGroup).alarm = s.swapIntercom.alarm :=
    forEach_same State.alarm (f := State.offerGroup) (fun g _ t => group g t) s.swapIntercom
  have released : ∀ t : State, State.alarm { t with control := { t.control with busyIntercom := false } } = t.alarm := fun _ => rfl
  unfold State.intercomTick
  exact (released _).trans loop

/-! ## The blocks -/

/-- Every order has the stream engine once, only the alarm unit and the show engine before it, and no block twice. -/
theorem tickBlocks_split (o : TickOrder) : ∃ earlier later, tickBlocks o = earlier ++ .stream :: later
    ∧ (∀ b ∈ earlier, b = .alarm ∨ b = .showEngine) ∧ .stream ∉ later ∧ (earlier ++ later).Nodup := by
  refine ⟨(tickBlocks o).takeWhile (· != .stream), ((tickBlocks o).dropWhile (· != .stream)).tail, ?_⟩
  cases o <;> decide

/-- A block other than the stream engine, at a tick at which the show and the panel rest. -/
theorem blockTick_passed {n : Nat} (hn : n < 8) (before : State) {s : State} {b : TickBlock} (other : b ≠ .stream)
    (rests : s.showRests = true) (panel : b = .alarm → s.panelRests = true) : Passed n s (State.blockTick before s b) := by
  cases b with
  | stream => exact absurd rfl other
  | intercom => exact intercomTick_passed hn s
  | alarm => exact (alarmTick_spared n (panel rfl)).passed
  | showEngine => exact (showTick_spared n rests).1.passed

theorem blockTick_spared {n : Nat} (before : State) {s : State} {b : TickBlock} (one : b = .alarm ∨ b = .showEngine)
    (rests : s.showRests = true) (panel : b = .alarm → s.panelRests = true) : Spared n s (State.blockTick before s b) := by
  obtain rfl | rfl := one
  · exact alarmTick_spared n (panel rfl)
  · exact (showTick_spared n rests).1

theorem blockTick_alarm (before : State) {s : State} {b : TickBlock} (other : b ≠ .alarm) (rests : s.showRests = true) :
    (State.blockTick before s b).alarm = s.alarm := by
  cases b with
  | stream => exact (streamTick_apart before s).alarm
  | intercom => exact intercomTick_alarm s
  | alarm => exact absurd rfl other
  | showEngine => exact (showTick_spared 0 rests).2

/-- A run of blocks, each of which is in a relation that keeps the show: the panel rests as the alarm unit's turn comes. -/
theorem foldl_blockTick_relates {S : State → State → Prop} (refl : ∀ t, S t t) (trans : ∀ {t u v}, S t u → S u v → S t v)
    (shows : ∀ {t u}, S t u → t.showRests = true → u.showRests = true) {before : State} {bs : List TickBlock} (once : bs.Nodup)
    (works : ∀ b ∈ bs, ∀ t : State, t.showRests = true → (b = .alarm → t.panelRests = true) → S t (State.blockTick before t b))
    {s : State} (rests : s.showRests = true) (panel : .alarm ∈ bs → s.panelRests = true) :
    S s (bs.foldl (State.blockTick before) s)
      ∧ (.alarm ∉ bs → (bs.foldl (State.blockTick before) s).alarm = s.alarm) := by
  induction bs generalizing s with
  | nil => exact ⟨refl s, fun _ => rfl⟩
  | cons b bs ih =>
    obtain ⟨fresh, once⟩ := List.nodup_cons.mp once
    have first := works b List.mem_cons_self s rests fun e => panel (e ▸ List.mem_cons_self)
    have still : .alarm ∈ bs → (State.blockTick before s b).panelRests = true := fun mem => by
      unfold State.panelRests
      rw [blockTick_alarm before (fun e => fresh (by rw [e]; exact mem)) rests]
      exact panel (List.mem_cons_of_mem _ mem)
    obtain ⟨rest, same⟩ := ih once (fun c hc => works c (List.mem_cons_of_mem _ hc)) (shows first rests) still
    refine ⟨trans first rest, fun absent => ?_⟩
    rw [List.mem_cons, not_or] at absent
    exact (same absent.2).trans (blockTick_alarm before (Ne.symm absent.1) rests)

/-! ## The tick and the event -/

/-- The tick count has risen (R71). -/
def State.tickCounted (s : State) : State :=
  { s with clock := { s.clock with tickCount := (s.clock.tickCount + 1) % 4294967296 } }

theorem tickCounted_aside (n : Nat) (s : State) : Aside n s s.tickCounted :=
  ⟨rfl, id, rfl, fun _ _ => Iff.rfl, fun _ _ => id, id, rfl, id, rfl⟩

/-- The tick: the record's own tick among works that spare it. -/
theorem makeTick_around {n : Nat} (hn : n < 8) {s : State} (order : TickOrder) (rests : s.showRests = true)
    (panel : s.panelRests = true) : ∃ u, Spared n s.tickCounted u
      ∧ Aside n (State.tickRecord s.tickCounted n u) (s.makeTick order)
      ∧ Offered ((State.tickRecord s.tickCounted n u).stream n) ((s.makeTick order).stream n)
      ∧ (s.makeTick order).clock.tickCount = (s.clock.tickCount + 1) % 4294967296 := by
  let c := s.tickCounted
  obtain ⟨earlier, later, blocks, few, noStream, once⟩ := tickBlocks_split order
  obtain ⟨onceE, onceL, apart⟩ := List.nodup_append.mp once
  obtain ⟨arrived, same⟩ := foldl_blockTick_relates (S := Spared n) (before := c) (.refl n) .trans
    (fun h => h.rests) onceE (fun b hb t => blockTick_spared c (few b hb)) (s := c) rests fun _ => panel
  let a := earlier.foldl (State.blockTick c) c
  obtain ⟨u, before, after⟩ := streamTick_around hn c a
  have own := tickRecord_apart c n u
  have restsA : (State.streamTick c a).showRests = true := by
    have theatre : (State.streamTick c a).theatre = a.theatre := (streamTick_apart c a).theatre
    unfold State.showRests
    rw [theatre]
    exact arrived.rests rests
  have panelA : .alarm ∈ later → (State.streamTick c a).panelRests = true := fun mem => by
    have alarm : (State.streamTick c a).alarm = a.alarm := (streamTick_apart c a).alarm
    unfold State.panelRests
    rw [alarm, same fun mem' => apart _ mem' _ mem rfl]
    exact panel
  obtain ⟨left, -⟩ := foldl_blockTick_relates (S := Passed n) (before := c) (fun t => (Spared.refl n t).passed) .trans
    (fun h => h.rests) onceL (fun b hb t => blockTick_passed hn c fun e => noStream (e ▸ hb)) restsA panelA
  have whole : s.makeTick order = later.foldl (State.blockTick c) (State.streamTick c a) := by
    have taken : State.blockTick c a .stream = State.streamTick c a := rfl
    rw [← taken, ← List.foldl_cons, ← List.foldl_append, ← blocks]
    rfl
  have around := after.passed.trans left
  rw [whole]
  refine ⟨u, arrived.trans before, around.toAside, around.offered, around.tickCount.trans ?_⟩
  have clock : (State.tickRecord c n u).clock = u.clock := own.clock
  rw [clock, (arrived.trans before).tickCount]
  rfl

/-- What an event of a tick comes to for record `n`: its tick in the state `u`, where `before` is the state as the tick found it. -/
structure TickEvent (n : Nat) (s before u t : State) : Prop where
  found : before.stream n = s.stream n
  stream : u.stream n = s.stream n
  earlier : Aside n s u
  later : Aside n (State.tickRecord before n u) t
  offered : Offered ((State.tickRecord before n u).stream n) (t.stream n)
  tickCount : t.clock.tickCount = (s.clock.tickCount + 1) % 4294967296

/-- Works that spare the record, before the tick's event and after it. -/
theorem TickEvent.widen {n : Nat} {s s' before u t t' : State} (h : TickEvent n s before u t) (first : Spared n s' s)
    (last : Spared n t t') : TickEvent n s' before u t' where
  found := h.found.trans first.stream
  stream := h.stream.trans first.stream
  earlier := first.toAside.trans h.earlier
  later := h.later.trans last.toAside
  offered := h.offered.trans (.inl last.stream)
  tickCount := by rw [last.tickCount, h.tickCount, first.tickCount]

theorem makeTick_event {n : Nat} (hn : n < 8) {s : State} (order : TickOrder) (rests : s.showRests = true)
    (panel : s.panelRests = true) : ∃ before u, TickEvent n s before u (s.makeTick order) := by
  obtain ⟨u, first, last, offered, count⟩ := makeTick_around hn order rests panel
  exact ⟨s.tickCounted, u, rfl, first.stream, (tickCounted_aside n s).trans first.toAside, last, offered, count⟩

theorem TickEvent.rests {n : Nat} {s before u t : State} (h : TickEvent n s before u t) (rests : s.showRests = true) :
    t.showRests = true := by
  have own : (State.tickRecord before n u).theatre = u.theatre := (tickRecord_apart before n u).theatre
  unfold State.showRests
  rw [h.later.theatre, own]
  exact h.earlier.rests rests

theorem creditSteps_event {n k : Nat} (hn : n < 8) {s : State} (order : Interleave) (rests : s.showRests = true)
    (panel : s.panelRests = true) (due : s.clock.tickDue k = true) :
    ∃ before u, TickEvent n s before u (s.creditSteps k order) := by
  let p : State := { s with clock := s.clock.advancePhase k }
  have phased : Spared n s p := clock_spared n s _ rfl
  have restsP : p.showRests = true := phased.rests rests
  have notYet : ¬ (!s.clock.tickDue k) = true := by simp [due]
  by_cases markFirst : order.markFirst = true
  · obtain ⟨measured, alarm⟩ := measure_spared n k restsP
    have panelM : (p.forEach (List.range k) fun _ s => s.measureStep).panelRests = true := by
      unfold State.panelRests
      rw [alarm]
      exact panel
    obtain ⟨before, u, h⟩ := makeTick_event hn order.blocks (measured.rests restsP) panelM
    have credited : s.creditSteps k order = (p.forEach (List.range k) fun _ s => s.measureStep).makeTick order.blocks :=
      (if_neg notYet).trans (if_pos markFirst)
    rw [credited]
    exact ⟨before, u, h.widen (phased.trans measured) (.refl n _)⟩
  · obtain ⟨before, u, h⟩ := makeTick_event hn (s := p) order.blocks restsP panel
    have credited : s.creditSteps k order = (p.makeTick order.blocks).forEach (List.range k) fun _ s => s.measureStep :=
      (if_neg notYet).trans (if_neg markFirst)
    rw [credited]
    exact ⟨before, u, h.widen phased (measure_spared n k (h.rests restsP)).1⟩

theorem loseLine_spared (n : Nat) (s : State) : Spared n s s.loseLine := by
  have cleared := clock_spared n s { s.clock with source := .reference, offRun := 0, goodRun := 0 } rfl
  exact cleared.trans (post_spared n _ _)

theorem monitorLine_spared (n : Nat) (s : State) (gap : Nat) : Spared n s (s.monitorLine gap) := by
  unfold State.monitorLine
  split
  · exact clock_spared n s _ rfl
  · split
    · exact loseLine_spared n s
    · exact clock_spared n s _ rfl

/-- An event at which the tick phase comes to 48 credits the steps of a tick (R69, R70, R72). -/
theorem passTime_credits {s : State} {e : TimeEvent} (ticks : s.ticksAt e = true) (n : Nat) :
    ∃ k order, s.clock.tickDue k = true ∧ Spared n (s.creditSteps k order) (s.passTime e) := by
  cases e with
  | nextStep gap order =>
    unfold State.ticksAt at ticks
    rw [Bool.and_eq_true, Bool.not_eq_true', beq_iff_eq] at ticks
    obtain ⟨released, phase⟩ := ticks
    refine ⟨1, order, by simp [ClockUnit.tickDue, phase], ?_⟩
    unfold State.passTime
    dsimp only
    split
    · next source =>
      unfold State.clockEdge
      rw [if_neg (by simp [released]), source]
      exact monitorLine_spared n _ gap
    · next source =>
      unfold State.referenceStep
      rw [if_neg (by simp [released, source])]
      exact .refl n _
  | gapExpiry order =>
    unfold State.ticksAt at ticks
    rw [Bool.and_eq_true, Bool.and_eq_true, Bool.not_eq_true', beq_iff_eq] at ticks
    obtain ⟨⟨released, source⟩, due⟩ := ticks
    refine ⟨3, order, due, ?_⟩
    have expired : s.expireGap order = (s.creditSteps 3 order).loseLine := if_neg (by simp [released, source])
    show Spared n _ (s.expireGap order)
    rw [expired]
    exact loseLine_spared n _

/-- The event of a tick at which the show and the panel rest, as one stream record sees it. -/
theorem run_event {n : Nat} (hn : n < 8) {s : State} {e : TimeEvent} (ticks : s.ticksAt e = true) (rests : s.showRests = true)
    (panel : s.panelRests = true) : ∃ before u, TickEvent n s before u (s.run fun s => s.passTime e) := by
  have begun : Spared n s s.begun := .quiet rfl rfl (fun _ _ => rfl) id rfl rfl rfl rfl
  obtain ⟨k, order, due, rest⟩ := passTime_credits (s := s.begun) ticks n
  obtain ⟨before, u, h⟩ := creditSteps_event hn (s := s.begun) order rests panel due
  have latched : ∀ t : State, Spared n t t.latch := fun t => .quiet rfl rfl (fun _ _ => rfl) (fun posted => by
    rw [latch_control]
    unfold ControlUnit.latch
    split <;> exact posted) (by
    rw [latch_control]
    unfold ControlUnit.latch
    split <;> rfl) rfl rfl rfl
  exact ⟨before, u, h.widen begun (rest.trans (latched _))⟩

/-- The event is a tick's (R71). -/
theorem TickEvent.made {n : Nat} {s before u t : State} (h : TickEvent n s before u t) : tickMade s t = true := by
  unfold tickMade
  rw [h.tickCount, bne_iff_ne]
  omega

end Sys2Proof.Machine
end

section
/-! SUPPORT. A record's own tick (R90, R91, R93, R99, R100): the record it goes on as, or how it ends. -/

namespace Sys2Proof.Machine

/-! ## The record a tick leaves -/

/-- The queue after the current slot is retired (R91). -/
def StreamRecord.queueAfter (r : StreamRecord) : List Slot :=
  if r.state = .playing ∧ r.current = true then r.queue.tail else r.queue

/-- The periods left after it (R91). -/
def StreamRecord.leftAfter (r : StreamRecord) : Nat :=
  if (r.state = .playing ∧ r.current = true) ∧ r.source = .clip then r.periodsLeft - 1 else r.periodsLeft

/-- The new head is READY (R90, R91). -/
def StreamRecord.readyAfter (r : StreamRecord) : Bool :=
  match r.queueAfter with
  | [] => false
  | x :: _ => x.ready

/-- The page window is open for the record (R95). -/
def StreamRecord.openPage (r : StreamRecord) : Prop := r.source = .live ∧ r.closing = false

/-- The starved run after the tick (R100). -/
def StreamRecord.runAfter (r : StreamRecord) : Nat :=
  if r.source = .live ∧ r.closing = false then
    (if r.readyAfter = true ∨ (r.state = .starting ∧ r.current = true) then 0 else min 65535 (r.starvedRun + 1))
  else r.starvedRun

/-- The record that begins, is promoted or starves (R90, R91). -/
def StreamRecord.nextAfter (r : StreamRecord) : StreamRecord :=
  if r.readyAfter then { r with state := .playing, queue := r.queueAfter, current := true, periodsLeft := r.leftAfter,
                                starvedRun := r.runAfter }
  else if r.state = .starting then { r with starvedRun := r.runAfter }
  else { r with queue := r.queueAfter, current := false, periodsLeft := r.leftAfter, starvedRun := r.runAfter,
                starvedCount := if r.starvedCount < 255 then r.starvedCount + 1 else r.starvedCount }

/-- The record the steps of R90 and R91 leave, before the page is watched. -/
def StreamRecord.moved (r : StreamRecord) : StreamRecord := if r.state = .playing then r.retire.promote else r.begin

theorem retire_eq {r : StreamRecord} (playing : r.state = .playing) :
    r.retire = { r with queue := r.queueAfter, current := false, periodsLeft := r.leftAfter } := by
  unfold StreamRecord.retire StreamRecord.queueAfter StreamRecord.leftAfter
  cases current : r.current
  · rw [if_neg Bool.false_ne_true, if_neg (by simp), if_neg (by simp), ← current]
  · simp [playing]

theorem headReady_retire {r : StreamRecord} (playing : r.state = .playing) : r.retire.headReady = r.readyAfter := by
  rw [retire_eq playing]
  rfl

/-- A PLAYING record is promoted or starves. -/
theorem moved_of_playing {r : StreamRecord} (playing : r.state = .playing) : r.moved = if r.readyAfter then
    { r with state := .playing, queue := r.queueAfter, current := true, periodsLeft := r.leftAfter }
    else { r with queue := r.queueAfter, current := false, periodsLeft := r.leftAfter, starvedCount := bump r.starvedCount } := by
  have step : r.moved = r.retire.promote := if_pos playing
  rw [step]
  unfold StreamRecord.promote
  rw [headReady_retire playing, retire_eq playing, ← playing]

theorem queueAfter_of_starting {r : StreamRecord} (starting : r.state = .starting) : r.queueAfter = r.queue :=
  if_neg fun h => by rw [starting] at h; exact absurd h.1 nofun

theorem leftAfter_of_starting {r : StreamRecord} (starting : r.state = .starting) : r.leftAfter = r.periodsLeft :=
  if_neg fun h => by rw [starting] at h; exact absurd h.1.1 nofun

/-- A STARTING record begins to play or waits. -/
theorem moved_of_starting {r : StreamRecord} (starting : r.state = .starting) : r.moved = if r.readyAfter then
    { r with state := .playing, current := true } else r := by
  have step : r.moved = r.begin := if_neg fun h => by rw [starting] at h; exact absurd h nofun
  have head : r.headReady = r.readyAfter := by
    unfold StreamRecord.readyAfter
    rw [queueAfter_of_starting starting]
    rfl
  rw [step, StreamRecord.begin, head]

/-- What the steps before the page watch leave alone, and whether the record then has a current slot. -/
theorem moved_fields {r : StreamRecord} (sounds : r.state = .starting ∨ r.state = .playing) : r.moved.source = r.source
    ∧ r.moved.closing = r.closing ∧ r.moved.sounding = true ∧ r.moved.starvedRun = r.starvedRun
    ∧ (r.moved.current = true ↔ r.readyAfter = true ∨ (r.state = .starting ∧ r.current = true)) := by
  obtain starting | playing := sounds
  · rw [moved_of_starting starting]
    cases ready : r.readyAfter
    · exact ⟨rfl, rfl, by simp [StreamRecord.sounding, starting], rfl, by simp [starting]⟩
    · exact ⟨rfl, rfl, rfl, rfl, by simp⟩
  · rw [moved_of_playing playing]
    cases ready : r.readyAfter
    · exact ⟨rfl, rfl, by simp [StreamRecord.sounding, playing], rfl, by simp [playing]⟩
    · exact ⟨rfl, rfl, rfl, rfl, by simp⟩

theorem nextAfter_eq {r : StreamRecord} (sounds : r.state = .starting ∨ r.state = .playing) :
    r.nextAfter = { r.moved with starvedRun := r.runAfter } := by
  unfold StreamRecord.nextAfter
  obtain starting | playing := sounds
  · rw [moved_of_starting starting, queueAfter_of_starting starting, leftAfter_of_starting starting]
    cases r.readyAfter
    · exact if_pos starting
    · rfl
  · have begun : ¬ r.state = .starting := by rw [playing]; exact nofun
    rw [moved_of_playing playing]
    cases r.readyAfter
    · exact if_neg begun
    · rfl

/-- The starved run counted while the page is open (R100). -/
theorem countStarved_moved {r : StreamRecord} (sounds : r.state = .starting ∨ r.state = .playing) (page : r.openPage) :
    r.moved.countStarved = r.nextAfter := by
  obtain ⟨-, -, -, run, current⟩ := moved_fields sounds
  have counted : (if r.moved.current = true then 0 else if r.moved.starvedRun < 65535 then r.moved.starvedRun + 1 else 65535)
      = r.runAfter := by
    unfold StreamRecord.runAfter
    rw [if_pos (show r.source = .live ∧ r.closing = false from page), run]
    refine if_congr current rfl ?_
    split <;> omega
  rw [nextAfter_eq sounds, ← counted]
  rfl

theorem moved_of_closed {r : StreamRecord} (sounds : r.state = .starting ∨ r.state = .playing) (page : ¬ r.openPage) :
    r.moved = r.nextAfter := by
  obtain ⟨-, -, -, run, -⟩ := moved_fields sounds
  have stands : r.runAfter = r.moved.starvedRun := (if_neg page).trans run.symm
  rw [nextAfter_eq sounds, stands]

/-! ## The page watch (R100) -/

theorem setStream_setStream (s : State) (n : Nat) (r r' : StreamRecord) : (s.setStream n r).setStream n r' = s.setStream n r' :=
  congrArg (fun b => { s with streams := b }) (Bank.set_set s.streams n r r')

theorem pageWatch_moved {s : State} {n : Nat} (hn : n < 8)
    (sounds : (s.stream n).state = .starting ∨ (s.stream n).state = .playing) :
    ((s.stream n).openPage → s.control.pageTimeout ≤ (s.stream n).runAfter →
      (s.setStream n (s.stream n).moved).pageWatch n = (s.setStream n (s.stream n).nextAfter).endStream .pageTimeout n)
    ∧ (¬ ((s.stream n).openPage ∧ s.control.pageTimeout ≤ (s.stream n).runAfter) →
      (s.setStream n (s.stream n).moved).pageWatch n = s.setStream n (s.stream n).nextAfter) := by
  let r := s.stream n
  obtain ⟨source, closing, sounding, -, -⟩ := moved_fields sounds
  have self : (s.setStream n r.moved).stream n = r.moved := stream_setStream_self s n _ hn
  have watched (page : r.openPage) : (s.setStream n r.moved).pageWatch n
      = if s.control.pageTimeout ≤ r.nextAfter.starvedRun then (s.setStream n r.nextAfter).endStream .pageTimeout n
        else s.setStream n r.nextAfter := by
    unfold State.pageWatch
    rw [self]
    refine (if_pos ⟨source.trans page.1, sounding, by rw [closing, page.2]; rfl⟩).trans ?_
    rw [countStarved_moved sounds page]
    dsimp only
    rw [setStream_setStream]
    rfl
  have run : r.nextAfter.starvedRun = r.runAfter := by rw [nextAfter_eq sounds]
  refine ⟨fun page late => (watched page).trans (if_pos (by rw [run]; exact late)), fun stays => ?_⟩
  by_cases page : r.openPage
  · exact (watched page).trans (if_neg (by rw [run]; exact fun late => stays ⟨page, late⟩))
  · have closed : (s.setStream n r.moved).pageWatch n = s.setStream n r.moved := by
      unfold State.pageWatch
      rw [self]
      refine if_neg fun h => page ⟨source ▸ h.1, ?_⟩
      rw [← closing]
      simpa using h.2.2
    rw [closed, moved_of_closed sounds page]

end Sys2Proof.Machine
end

section
/-! SUPPORT. The tick of every stream record (R88, R90 to R93, R99, R100): each outcome of the record's own tick, and the event. -/

namespace Sys2Proof.Machine

/-! ## The outcomes of a record's own tick -/

/-- The record ends COMPLETE at its tick (R91, R99). -/
def StreamRecord.completesAtTick (r : StreamRecord) : Prop :=
  (r.state = .playing ∧ r.source = .clip ∧ r.leftAfter = 0) ∨ (r.source = .live ∧ r.closing = true ∧ r.queueAfter = [])

theorem finished_retire {r : StreamRecord} (playing : r.state = .playing) : r.retire.finished = true ↔ r.completesAtTick := by
  rw [retire_eq playing]
  unfold StreamRecord.finished StreamRecord.completesAtTick
  cases source : r.source <;> simp [playing]

theorem tickRecord_playing (before : State) {n : Nat} {s : State} (playing : (s.stream n).state = .playing) :
    State.tickRecord before n s = s.tickPlaying n := by
  unfold State.tickRecord
  rw [playing]

theorem tickRecord_starting {before : State} {n : Nat} {s : State} (found : (before.stream n).state = .starting)
    (starting : (s.stream n).state = .starting) : State.tickRecord before n s = s.tickStarting n := by
  unfold State.tickRecord
  rw [starting]
  exact if_pos found

/-- A record whose tick completes it ends so, with what it had retired. -/
theorem tickRecord_completes {before : State} {n : Nat} {s : State} (hn : n < 8) (found : before.stream n = s.stream n)
    (sounds : (s.stream n).state = .starting ∨ (s.stream n).state = .playing) (completes : (s.stream n).completesAtTick) :
    ∃ r : StreamRecord, r.live = true ∧ ((s.stream n).state = .playing → r.periodsLeft = (s.stream n).leftAfter)
      ∧ State.tickRecord before n s = (s.setStream n r).endStream .complete n := by
  obtain starting | playing := sounds
  · have begun : (s.stream n).begin = s.stream n := by
      obtain ⟨playing, -⟩ | ⟨-, -, empty⟩ := completes
      · rw [starting] at playing; exact absurd playing nofun
      · rw [queueAfter_of_starting starting] at empty
        have waits : (s.stream n).headReady = false := by unfold StreamRecord.headReady; rw [empty]
        exact if_neg (by simp [waits])
    refine ⟨s.stream n, (live_iff _).mpr (.inl starting), fun playing => ?_, ?_⟩
    · rw [starting] at playing; exact absurd playing nofun
    rw [tickRecord_starting (by rw [found, starting]) starting]
    unfold State.tickStarting
    dsimp only
    rw [begun, stream_setStream_self _ _ _ hn]
    obtain ⟨playing, -⟩ | ⟨page, closing, empty⟩ := completes
    · rw [starting] at playing; exact absurd playing nofun
    · rw [queueAfter_of_starting starting] at empty
      exact if_pos ⟨page, closing, by rw [empty]; rfl⟩
  · refine ⟨(s.stream n).retire, ?_, fun _ => ?_, ?_⟩
    · rw [retire_eq playing]
      exact (live_iff _).mpr (.inr (.inl playing))
    · rw [retire_eq playing]
    · rw [tickRecord_playing before playing]
      unfold State.tickPlaying
      dsimp only
      rw [stream_setStream_self _ _ _ hn]
      exact if_pos ((finished_retire playing).mpr completes)

/-- A record whose tick does not complete it comes to the page watch, and a PLAYING one to a fetch. -/
theorem tickRecord_watched {before : State} {n : Nat} {s : State} (hn : n < 8) (found : before.stream n = s.stream n)
    (sounds : (s.stream n).state = .starting ∨ (s.stream n).state = .playing) (goes : ¬ (s.stream n).completesAtTick) :
    State.tickRecord before n s = if (s.stream n).state = .playing
      then ((s.setStream n (s.stream n).moved).pageWatch n).fetch n else (s.setStream n (s.stream n).moved).pageWatch n := by
  obtain starting | playing := sounds
  · have begun : ¬ (s.stream n).state = .playing := by rw [starting]; exact nofun
    have moved : (s.stream n).moved = (s.stream n).begin := if_neg begun
    rw [if_neg begun, tickRecord_starting (by rw [found, starting]) starting, moved]
    unfold State.tickStarting
    dsimp only
    rw [stream_setStream_self _ _ _ hn]
    refine if_neg fun drained => goes (.inr ?_)
    have fields : (s.stream n).begin.source = (s.stream n).source ∧ (s.stream n).begin.closing = (s.stream n).closing
        ∧ (s.stream n).begin.queue = (s.stream n).queue := by
      unfold StreamRecord.begin
      split <;> exact ⟨rfl, rfl, rfl⟩
    obtain ⟨source, closing, queue⟩ := fields
    rw [source, closing, queue] at drained
    rw [queueAfter_of_starting starting]
    exact ⟨drained.1, drained.2.1, List.isEmpty_iff.mp drained.2.2⟩
  · have moved : (s.stream n).moved = (s.stream n).retire.promote := if_pos playing
    rw [if_pos playing, tickRecord_playing before playing, moved]
    unfold State.tickPlaying
    dsimp only
    rw [stream_setStream_self _ _ _ hn, setStream_setStream]
    exact if_neg (mt (finished_retire playing).mp goes)

theorem nextAfter_live {r : StreamRecord} (sounds : r.state = .starting ∨ r.state = .playing) : r.nextAfter.live = true := by
  rw [nextAfter_eq sounds]
  exact live_of_sounding (moved_fields sounds).2.2.1

/-- A fetch of a stream that has ended is none. -/
theorem fetch_of_ended {s : State} {n : Nat} (stopped : (s.stream n).live = false) : s.fetch n = s :=
  fetch_of_not_mayFetch fun may => by
    rw [((mayFetch_iff _).mp may).1] at stopped
    cases stopped

/-- What the ending of a live record leaves (R92). -/
theorem endStream_set {s : State} {n : Nat} {r : StreamRecord} (hn : n < 8) (cause : EndCause) (live : r.live = true) :
    ((s.setStream n r).endStream cause n).stream n = { r with state := .ending, endCause := cause, drained := false }
      ∧ ((s.setStream n r).endStream cause n).control.pendingNotices.get 4 = true
      ∧ (r.source = .live → ((s.setStream n r).endStream cause n).page.capture = none) := by
  have self : (s.setStream n r).stream n = r := stream_setStream_self s n r hn
  rw [endStream_of_live cause (by rw [self]; exact live), self]
  refine ⟨Bank.get_set_self _ _ _ hn, Bank.get_set_self _ _ _ (by decide), fun page => ?_⟩
  show PageRingRecord.capture (if r.source = .live then _ else _) = none
  rw [if_pos page]

/-- An open page that has starved to its timeout ends so. -/
theorem tickRecord_timesOut {before : State} {n : Nat} {s : State} (hn : n < 8) (found : before.stream n = s.stream n)
    (sounds : (s.stream n).state = .starting ∨ (s.stream n).state = .playing) (goes : ¬ (s.stream n).completesAtTick)
    (page : (s.stream n).openPage) (late : s.control.pageTimeout ≤ (s.stream n).runAfter) :
    State.tickRecord before n s = (s.setStream n (s.stream n).nextAfter).endStream .pageTimeout n := by
  have watched := (pageWatch_moved hn sounds).1 page late
  have ended := endStream_set (s := s) hn .pageTimeout (nextAfter_live sounds)
  rw [tickRecord_watched hn found sounds goes, watched, fetch_of_ended (by rw [ended.1]; rfl), ite_self]

/-- A record that goes on, and fetches if it plays. -/
theorem tickRecord_goes {before : State} {n : Nat} {s : State} (hn : n < 8) (found : before.stream n = s.stream n)
    (sounds : (s.stream n).state = .starting ∨ (s.stream n).state = .playing) (goes : ¬ (s.stream n).completesAtTick)
    (waits : ¬ ((s.stream n).openPage ∧ s.control.pageTimeout ≤ (s.stream n).runAfter)) :
    State.tickRecord before n s = if (s.stream n).state = .playing then (s.setStream n (s.stream n).nextAfter).fetch n
      else s.setStream n (s.stream n).nextAfter := by
  rw [tickRecord_watched hn found sounds goes, (pageWatch_moved hn sounds).2 waits]

theorem tickRecord_rests (before : State) {n : Nat} {s : State}
    (rests : (s.stream n).state = .free ∨ (s.stream n).state = .paused) : State.tickRecord before n s = s := by
  unfold State.tickRecord
  obtain free | paused := rests
  · rw [free]
  · rw [paused]

/-- The tick of a record that was ENDING before it (R93). -/
theorem tickRecord_ending {before : State} {n : Nat} {s : State} (hn : n < 8) (found : before.stream n = s.stream n)
    (ending : (s.stream n).state = .ending) :
    (State.tickRecord before n s).stream n = { s.stream n with
        queue := [], current := false, drained := true, state := if s.inFlight n = 0 then .free else .ending }
      ∧ ∀ z < 64, (s.zone z).bound = some n → ((State.tickRecord before n s).zone z).bound = none := by
  have tick : State.tickRecord before n s = s.tickEnding n := by
    unfold State.tickRecord
    rw [ending]
    exact if_pos (by rw [found, ending])
  let e : StreamRecord := { s.stream n with queue := [], current := false, drained := true }
  let u : State := (s.setStream n e).unbindAll n
  have self : u.stream n = e := stream_setStream_self s n e hn
  rw [tick]
  refine ⟨?_, fun z hz bound => ?_⟩
  · refine (freeIfDrained_stream (s := u) hn (by rw [self]; exact ending)).trans ?_
    rw [self]
    by_cases drained : s.inFlight n = 0
    · rw [if_pos ⟨rfl, drained⟩, if_pos drained]
    · rw [if_neg fun h => drained h.2, if_neg drained, ← ending]
  · have zone : (s.tickEnding n).zone z = u.zone z := congrArg (fun b : Bank 64 ZoneEntry => b.get z) (freeIfDrained_zones u n)
    have named : ((s.setStream n e).zone z).bound == some n := beq_iff_eq.mpr bound
    rw [zone, zone_unbindAll _ n hz, if_pos named]

/-! ## The events -/

theorem Offered.eq_of_stopped {r r' : StreamRecord} (h : Offered r r') (stopped : r.sounding = false) : r' = r :=
  h.elim id fun offered => by rw [offered.2.1] at stopped; cases stopped

theorem Offered.eq_of_source {r r' : StreamRecord} (h : Offered r r') (source : r.source ≠ .group) : r' = r :=
  h.elim id fun offered => absurd offered.1 source

section

variable {n : Nat} {s before u t : State}

/-- The record as it ended at the tick, with its notice. -/
theorem TickEvent.ended (h : TickEvent n s before u t) (hn : n < 8) {r : StreamRecord} {cause : EndCause} (live : r.live = true)
    (tick : State.tickRecord before n u = (u.setStream n r).endStream cause n) :
    t.stream n = { r with state := .ending, endCause := cause, drained := false } ∧ t.control.pendingNotices.get 4 = true
      ∧ (r.source = .live → t.page.capture = none) := by
  obtain ⟨record, posted, closed⟩ := endStream_set (s := u) hn cause live
  rw [← tick] at record posted closed
  exact ⟨(h.offered.eq_of_stopped (by rw [record]; rfl)).trans record, h.later.posted posted, fun page =>
    h.later.captured (closed page)⟩

theorem TickEvent.timedOut (h : TickEvent n s before u t) (hn : n < 8)
    (sounds : (s.stream n).state = .starting ∨ (s.stream n).state = .playing) (goes : ¬ (s.stream n).completesAtTick)
    (page : (s.stream n).openPage) (late : s.control.pageTimeout ≤ (s.stream n).runAfter) :
    (t.stream n).state = .ending ∧ (t.stream n).endCause = .pageTimeout ∧ t.page.capture = none
      ∧ t.control.pendingNotices.get 4 = true := by
  have stream := h.stream
  have late' : u.control.pageTimeout ≤ (u.stream n).runAfter := by rw [h.earlier.timeout, stream]; exact late
  rw [← stream] at sounds goes page
  have source : (u.stream n).nextAfter.source = .live := by
    rw [nextAfter_eq sounds]
    exact (moved_fields sounds).1.trans page.1
  obtain ⟨record, posted, closed⟩ := h.ended hn (nextAfter_live sounds)
    (tickRecord_timesOut hn (h.found.trans stream.symm) sounds goes page late')
  rw [record]
  exact ⟨rfl, rfl, closed source, posted⟩

theorem TickEvent.completed (h : TickEvent n s before u t) (hn : n < 8)
    (sounds : (s.stream n).state = .starting ∨ (s.stream n).state = .playing) (completes : (s.stream n).completesAtTick) :
    (t.stream n).state = .ending ∧ (t.stream n).endCause = .complete ∧ t.control.pendingNotices.get 4 = true
      ∧ ((s.stream n).state = .playing → (t.stream n).periodsLeft = (s.stream n).leftAfter) := by
  have stream := h.stream
  rw [← stream] at sounds completes
  obtain ⟨r, live, left, tick⟩ := tickRecord_completes hn (h.found.trans stream.symm) sounds completes
  obtain ⟨record, posted, -⟩ := h.ended hn live tick
  rw [record, ← stream]
  exact ⟨rfl, rfl, posted, left⟩

/-- The record that goes on: as its tick left it but for offers, its zones kept. -/
theorem TickEvent.goesOn (h : TickEvent n s before u t) (hn : n < 8)
    (sounds : (s.stream n).state = .starting ∨ (s.stream n).state = .playing) (goes : ¬ (s.stream n).completesAtTick)
    (waits : ¬ ((s.stream n).openPage ∧ s.control.pageTimeout ≤ (s.stream n).runAfter)) :
    ∃ w : State, w.stream n = (s.stream n).nextAfter ∧ w.waits n = s.waits n
      ∧ ((s.transit.ownQueue.Pairwise fun a b => a.stream ≤ b.stream) →
        w.transit.ownQueue.Pairwise fun a b => a.stream ≤ b.stream)
      ∧ (let v := if (s.stream n).state = .playing then w.fetch n else w
        Offered (v.stream n) (t.stream n) ∧ t.waits n = v.waits n)
      ∧ ∀ z < 64, (t.zone z).bound = some n ↔ (s.zone z).bound = some n := by
  have stream := h.stream
  rw [← h.earlier.timeout] at waits
  rw [← stream] at sounds goes waits ⊢
  let w := u.setStream n (u.stream n).nextAfter
  have set : Aside n u w := setStream_aside n u n _
  have tick := tickRecord_goes hn (h.found.trans stream.symm) sounds goes waits
  have offered := h.offered
  have reads := h.later.waits
  have zones : ∀ z < 64, ((State.tickRecord before n u).zone z).bound = some n ↔ (s.zone z).bound = some n := fun z hz => by
    rw [tick]
    split
    · have zone : (w.fetch n).zone z = u.zone z := congrArg (fun b : Bank 64 ZoneEntry => b.get z) (fetch_zones w n)
      rw [zone]
      exact h.earlier.bound z hz
    · exact h.earlier.bound z hz
  rw [tick] at offered reads
  exact ⟨w, stream_setStream_self u n _ hn, set.waits.trans h.earlier.waits, h.earlier.ordered, ⟨offered, reads⟩,
    fun z hz => (h.later.bound z hz).trans (zones z hz)⟩

end

end Sys2Proof.Machine
end

section
/-! SUPPORT. The record that goes on at its tick, by its source, and the statement about every record (R88, R90, R91, R101). -/

namespace Sys2Proof.Machine

/-! ## What a tick leaves of a record that goes on -/

/-- The fields that the tick of a record leaves to its fetches and offers. -/
theorem nextAfter_fields {r : StreamRecord} (sounds : r.state = .starting ∨ r.state = .playing) :
    r.nextAfter.queue = r.queueAfter ∧ r.nextAfter.buffers = r.buffers ∧ r.nextAfter.droppedCount = r.droppedCount
      ∧ r.nextAfter.source = r.source ∧ r.nextAfter.clipBase = r.clipBase ∧ r.nextAfter.clipPeriods = r.clipPeriods
      ∧ r.nextAfter.nextFetch = r.nextFetch ∧ r.nextAfter.repeatsLeft = r.repeatsLeft
      ∧ r.nextAfter.passUnderFetch = r.passUnderFetch := by
  rw [nextAfter_eq sounds]
  obtain starting | playing := sounds
  · rw [moved_of_starting starting, queueAfter_of_starting starting]
    cases r.readyAfter <;> exact ⟨rfl, rfl, rfl, rfl, rfl, rfl, rfl, rfl, rfl⟩
  · rw [moved_of_playing playing]
    cases r.readyAfter <;> exact ⟨rfl, rfl, rfl, rfl, rfl, rfl, rfl, rfl, rfl⟩

/-- A fetch at the tick counts from what the record had (R88). -/
theorem fetched_nextAfter {r : StreamRecord} (sounds : r.state = .starting ∨ r.state = .playing) (b : Nat) :
    r.nextAfter.fetched b = { r.nextAfter with
      queue := r.queueAfter ++ [Slot.fetching r.passUnderFetch r.nextFetch b],
      nextFetch := if r.nextFetch + 1 = r.clipPeriods ∧ 0 < r.repeatsLeft then 0 else r.nextFetch + 1,
      repeatsLeft := if r.nextFetch + 1 = r.clipPeriods ∧ 0 < r.repeatsLeft then r.repeatsLeft - 1 else r.repeatsLeft,
      passUnderFetch :=
        if r.nextFetch + 1 = r.clipPeriods ∧ 0 < r.repeatsLeft then r.passUnderFetch + 1 else r.passUnderFetch } := by
  obtain ⟨queue, -, -, -, -, periods, next, repeats, pass⟩ := nextAfter_fields sounds
  unfold StreamRecord.fetched
  dsimp only
  rw [queue, periods, next, repeats, pass]

/-- The record fetches at its tick (R88). -/
def StreamRecord.fetchesAtTick (r : StreamRecord) : Prop := r.state = .playing ∧ r.queueAfter.length < 4
  ∧ (∀ x ∈ r.queueAfter, x.ready = true) ∧ r.nextFetch < r.clipPeriods

theorem mayFetch_nextAfter {r : StreamRecord} (sounds : r.state = .starting ∨ r.state = .playing) :
    r.nextAfter.mayFetch = true ↔ r.source = .clip ∧ r.queueAfter.length < 4 ∧ (∀ x ∈ r.queueAfter, x.ready = true)
      ∧ r.nextFetch < r.clipPeriods := by
  obtain ⟨queue, -, -, source, -, periods, next, -, -⟩ := nextAfter_fields sounds
  rw [mayFetch_iff, queue, source, periods, next, and_iff_right (nextAfter_live sounds)]

theorem Offered.but {r r' : StreamRecord} (h : Offered r r') :
    { r' with queue := r.queue, buffers := r.buffers, droppedCount := r.droppedCount } = r := by
  obtain rfl | ⟨-, -, same⟩ := h
  · rfl
  · exact same

section

variable {n : Nat} {s before u t : State} (h : TickEvent n s before u t) (hn : n < 8)
  (sounds : (s.stream n).state = .starting ∨ (s.stream n).state = .playing) (goes : ¬ (s.stream n).completesAtTick)
  (waits : ¬ ((s.stream n).openPage ∧ s.control.pageTimeout ≤ (s.stream n).runAfter))

include h hn sounds goes waits

theorem TickEvent.goesOn_bound {z : Nat} (hz : z < 64) : (t.zone z).bound = some n ↔ (s.zone z).bound = some n := by
  obtain ⟨-, -, -, -, -, bound⟩ := h.goesOn hn sounds goes waits
  exact bound z hz

/-- Without a fetch the record goes on as it is, but for offers. -/
theorem TickEvent.goesOn_still (still : ¬ ((s.stream n).source = .clip ∧ (s.stream n).fetchesAtTick)) :
    Offered (s.stream n).nextAfter (t.stream n) ∧ t.waits n = s.waits n := by
  obtain ⟨w, record, reads, -, ⟨offered, last⟩, -⟩ := h.goesOn hn sounds goes waits
  have stands : (if (s.stream n).state = .playing then w.fetch n else w) = w := by
    split
    · next playing =>
      refine fetch_of_not_mayFetch fun may => still ?_
      rw [record] at may
      obtain ⟨clip, rest⟩ := (mayFetch_nextAfter sounds).mp may
      exact ⟨clip, playing, rest⟩
    · rfl
  rw [stands, record] at offered
  rw [stands, reads] at last
  exact ⟨offered, last⟩

/-- A clip that fetches into the freed buffer (R88). -/
theorem TickEvent.goesOn_fetches (clip : (s.stream n).source = .clip) (fetches : (s.stream n).fetchesAtTick) :
    ((s.transit.ownQueue.Pairwise fun a b => a.stream ≤ b.stream) →
      t.waits n = s.waits n ++ ownReads n (s.stream n).nextAfter)
    ∧ ∃ b < 4, (∀ x ∈ (s.stream n).queueAfter, x.buffer ≠ b) ∧ t.stream n = (s.stream n).nextAfter.fetched b := by
  obtain ⟨w, record, reads, ordered, ⟨offered, last⟩, -⟩ := h.goesOn hn sounds goes waits
  have may : (w.stream n).mayFetch = true := by
    rw [record]
    exact (mayFetch_nextAfter sounds).mpr ⟨clip, fetches.2⟩
  obtain ⟨queue, -, -, source, -⟩ := nextAfter_fields sounds
  obtain ⟨b, hb, own, fetched⟩ := fetch_stream hn may
  have isClip : ((s.stream n).nextAfter.fetched b).source ≠ .group := by
    show (s.stream n).nextAfter.source ≠ .group
    rw [source, clip]
    exact nofun
  rw [record] at fetched own
  rw [if_pos fetches.1, fetched] at offered
  rw [if_pos fetches.1] at last
  rw [queue] at own
  refine ⟨fun order => ?_, b, hb, own, offered.eq_of_source isClip⟩
  rw [last, fetch_waits may (ordered order), reads, record]

end

/-! ## Every record -/

theorem runIf_of_due {s : State} {due : State → State → Bool} {work : State → State} (h : due s (s.run work) = true) :
    s.runIf due work = s.run work := if_pos h

theorem sourceEnded_of {n : Nat} {source : StreamSource} {cause : EndCause} {s t : State}
    (same : (s.stream n).source = source) (live : (s.stream n).live = true) (state : (t.stream n).state = .ending)
    (ended : (t.stream n).endCause = cause) : sourceEnded n source cause s t = true := by
  unfold sourceEnded endedWith
  simp [same, live, state, ended]

/-- Settles O46: the record's tick among works that spare it, by what the record is doing. -/
theorem streamRecordsAtATick : Obligations.StreamRecordsAtATick := by
  refine ⟨fun s e n ticks rests panel hn => ⟨fun playing clip current one => ?_, fun page opened sounds head below late => ?_⟩,
    fun s e n ticks rests panel hn => ?_⟩
  · obtain ⟨before, u, h⟩ := run_event hn ticks rests panel
    have left : (s.stream n).leftAfter = 0 := (if_pos ⟨⟨playing, current⟩, clip⟩).trans (by rw [one])
    obtain ⟨state, ended, posted, periods⟩ := h.completed hn (.inr playing) (.inl ⟨playing, clip, left⟩)
    have due := sourceEnded_of clip ((live_iff _).mpr (.inr (.inl playing))) state ended
    exact ⟨_, congrArg Host.Outcome.next (runIf_of_due due), state, ended, (periods playing).trans left, posted⟩
  · obtain ⟨before, u, h⟩ := run_event hn ticks rests panel
    have going : (s.stream n).state = .starting ∨ (s.stream n).state = .playing :=
      sounds.elim .inr fun starting => .inl starting.1
    have queue : (s.stream n).queueAfter
        = if (s.stream n).current = true then (s.stream n).queue.tail else (s.stream n).queue := by
      obtain playing | ⟨starting, idle⟩ := sounds
      · exact if_congr (and_iff_right playing) rfl rfl
      · rw [queueAfter_of_starting starting, idle]; rfl
    have notReady : (s.stream n).readyAfter = false := by
      unfold StreamRecord.readyAfter
      split
      · rfl
      · next x rest first => exact head x rest (queue.symm.trans first)
    have run : (s.stream n).runAfter = (s.stream n).starvedRun + 1 := by
      refine (if_pos ⟨page, opened⟩).trans ((if_neg ?_).trans (by omega))
      rintro (ready | ⟨starting, current⟩)
      · rw [notReady] at ready; cases ready
      · obtain playing | ⟨-, idle⟩ := sounds
        · rw [playing] at starting; cases starting
        · rw [idle] at current; cases current
    have goes : ¬ (s.stream n).completesAtTick := by
      rintro (⟨-, clip, -⟩ | ⟨-, closing, -⟩)
      · rw [page] at clip; cases clip
      · rw [opened] at closing; cases closing
    obtain ⟨state, ended, closed, posted⟩ := h.timedOut hn going goes ⟨page, opened⟩ (by rw [run]; exact late)
    have due := sourceEnded_of page ((live_iff _).mpr (going.imp_right .inl)) state ended
    exact ⟨_, congrArg Host.Outcome.next (runIf_of_due due), state, ended, closed, posted⟩
  · obtain ⟨before, u, h⟩ := run_event hn ticks rests panel
    have inFlight : u.inFlight n = s.inFlight n := by unfold State.inFlight; rw [h.earlier.ownTags]
    refine ⟨_, congrArg Host.Outcome.next (runIf_of_due h.made), fun still => ?_, fun ending => ?_, fun sounds completes => ?_,
      fun sounds goes page late => ?_, fun sounds goes waits => ⟨fun z hz => ?_, fun live => ?_, fun group => ?_,
        fun clip still => ?_, fun clip fetches => ?_⟩⟩
    · have offered := h.offered
      rw [tickRecord_rests before (by rw [h.stream]; exact still), h.stream] at offered
      refine offered.eq_of_stopped ?_
      unfold StreamRecord.sounding
      obtain free | paused := still
      · rw [free]
      · rw [paused]
    · obtain ⟨record, zones⟩ := tickRecord_ending hn (h.found.trans h.stream.symm) (by rw [h.stream]; exact ending)
      rw [h.stream, inFlight] at record
      have stopped : ((State.tickRecord before n u).stream n).sounding = false := by
        rw [record]
        unfold StreamRecord.sounding
        dsimp only
        by_cases empty : s.inFlight n = 0
        · rw [if_pos empty]
        · rw [if_neg empty]
      exact ⟨(h.offered.eq_of_stopped stopped).trans record,
        fun z hz bound => h.later.unbound z hz (zones z hz ((h.earlier.bound z hz).mpr bound))⟩
    · obtain ⟨state, ended, posted, -⟩ := h.completed hn sounds completes
      exact ⟨state, ended, posted⟩
    · obtain ⟨state, ended, -, posted⟩ := h.timedOut hn sounds goes page late
      exact ⟨state, ended, posted⟩
    · exact h.goesOn_bound hn sounds goes waits hz
    · obtain ⟨-, -, -, source, -⟩ := nextAfter_fields sounds
      obtain ⟨offered, -⟩ := h.goesOn_still hn sounds goes waits fun fetch => by rw [live] at fetch; cases fetch.1
      exact offered.eq_of_source (by rw [source, live]; exact nofun)
    · obtain ⟨queue, buffers, dropped, -⟩ := nextAfter_fields sounds
      obtain ⟨offered, -⟩ := h.goesOn_still hn sounds goes waits fun fetch => by rw [group] at fetch; cases fetch.1
      have but := offered.but
      rw [queue, buffers, dropped] at but
      exact but
    · obtain ⟨-, -, -, source, -⟩ := nextAfter_fields sounds
      obtain ⟨offered, reads⟩ := h.goesOn_still hn sounds goes waits fun fetch => still fetch.2
      exact ⟨offered.eq_of_source (by rw [source, clip]; exact nofun), reads⟩
    · obtain ⟨-, -, -, -, base, -, next, -, pass⟩ := nextAfter_fields sounds
      obtain ⟨reads, b, hb, own, record⟩ := h.goesOn_fetches hn sounds goes waits clip fetches
      unfold ownReads at reads
      rw [base, next, pass] at reads
      rw [fetched_nextAfter sounds] at record
      exact ⟨reads, b, hb, own, record⟩

end Sys2Proof.Machine
end

section
/-! SUPPORT. The notices: what an event leaves of them (R40), and the sixteen live words as numbers (11.4). -/

namespace Sys2Proof.Machine

/-- Settles O55: an event ends with the latching of R40, and a step without one leaves the control unit as it is. -/
theorem noticesStaySettled : Obligations.NoticesStaySettled := by
  intro s s' settled h
  obtain ⟨-, rfl⟩ | ⟨c, rest, -, rfl | ⟨w, rfl⟩⟩ := Laws.step_cases h
  · exact settled
  · exact settled
  · exact settled_latch _

/-! ## The numbers of named values fit their fields -/

theorem resetCauseNumber_lt (c : ResetCause) : resetCauseNumber c < 4 := by cases c <;> decide

theorem alarmStateNumber_lt (x : AlarmState) : alarmStateNumber x < 4 := by cases x <;> decide

theorem alarmSourceNumber_lt (x : Option AlarmSource) : alarmSourceNumber x < 4 := by
  obtain _ | x := x
  · decide
  · cases x <;> decide

theorem decoderStateNumber_lt (x : DecoderState) : decoderStateNumber x < 4 := by cases x <;> decide

theorem noticeNumber_lt (k : Option NoticeKind) : noticeNumber k < 16 := by
  obtain _ | k := k
  · decide
  · cases k <;> decide

theorem resultNumber_lt (r : TakeResult) : resultNumber r < 4 := by
  cases r with
  | accepted | refused | rejected | busy => exact of_decide_eq_true rfl

theorem clockSourceNumber_lt (x : ClockSource) : clockSourceNumber x < 2 := by cases x <;> decide

theorem lockStateNumber_lt (x : LockState) : lockStateNumber x < 4 := by cases x <;> decide

theorem showStateNumber_lt (x : ShowState) (cause : Option HoldCause) : showStateNumber x cause < 8 := by
  cases x with
  | idle | stopped | running => exact of_decide_eq_true rfl
  | held =>
    obtain _ | cause := cause
    · decide
    · cases cause <;> decide

/-! ## The words -/

theorem alarmSummary_toNat (s : State) : s.alarmSummary.toNat = alarmStateNumber s.alarm.state
    + 2 ^ 2 * alarmSourceNumber s.alarm.source + 2 ^ 4 * bit s.alarm.panelAbort
    + 2 ^ 5 * decoderStateNumber s.alarm.decoder
    + 2 ^ 8 * ((List.range 8).map fun g => if s.alarm.fallback.get g then 2 ^ g else 0).sum
    + 2 ^ 16 * (s.alarm.entryTick % 2 ^ 16) := by
  have := alarmStateNumber_lt s.alarm.state
  have := alarmSourceNumber_lt s.alarm.source
  have := bit_le_one s.alarm.panelAbort
  have := decoderStateNumber_lt s.alarm.decoder
  have := sum_flags_lt 8 s.alarm.fallback.get
  rw [State.alarmSummary, toNat_pack, List.map_append, List.sum_append, sum_flags]
  simp only [sum_field_cons, sum_field_nil]
  omega

theorem noticeWord_toNat (s : State) : s.noticeWord.toNat = noticeNumber s.control.inService
    + 2 ^ 16 * ((List.range 9).map fun i => if s.control.pendingNotices.get i then 2 ^ i else 0).sum := by
  have := noticeNumber_lt s.control.inService
  have := sum_flags_lt 9 s.control.pendingNotices.get
  rw [State.noticeWord, toNat_pack, sum_field_cons, sum_flags]
  omega

theorem outcomeWord_toNat (o : OutcomeWord) : o.word.toNat = o.sequence % 2 ^ 8 + 2 ^ 8 * (o.code % 2 ^ 5)
    + 2 ^ 13 * resultNumber o.result + 2 ^ 16 * (resultDetail o.result % 2 ^ 16) := by
  have := resultNumber_lt o.result
  rw [OutcomeWord.word, toNat_pack]
  simp only [sum_field_cons, sum_field_nil]
  omega

theorem errorWord_toNat (b : Bank 10 Bool) :
    (errorWord b).toNat = ((List.range 10).map fun i => if b.get i then 2 ^ i else 0).sum := by
  have sum := sum_flags 10 0 b.get
  have small := sum_flags_lt 10 b.get
  simp only [Nat.zero_add] at sum
  rw [errorWord, toNat_pack, sum]
  omega

theorem clockSummary_toNat (s : State) : s.clockSummary.toNat = clockSourceNumber s.clock.source
    + 2 * lockStateNumber s.clock.lock + 2 ^ 4 * (s.clock.lockedInterval % 2 ^ 11)
    + 2 ^ 16 * (s.clock.tickCount % 2 ^ 16) := by
  have := clockSourceNumber_lt s.clock.source
  have := lockStateNumber_lt s.clock.lock
  rw [State.clockSummary, toNat_pack]
  simp only [sum_field_cons, sum_field_nil]
  omega

theorem showSummary_toNat (s : State) : s.showSummary.toNat = showStateNumber s.theatre.state s.theatre.holdCause
    + 2 ^ 3 * (s.theatre.pointer % 2 ^ 9) + 2 ^ 12 * (s.markNumber % 2 ^ 20) := by
  have := showStateNumber_lt s.theatre.state s.theatre.holdCause
  rw [State.showSummary, toNat_pack]
  simp only [sum_field_cons, sum_field_nil]
  omega

theorem lastEndedWord_toNat (s : State) : s.lastEndedWord.toNat = (match s.lastEnded with
    | none => 0
    | some l => l.index % 2 ^ 3 + 2 ^ 4 * endCauseNumber l.cause + 2 ^ 8 * ownerNumber l.owner
      + 2 ^ 16 * (ownerCue l.owner % 2 ^ 8)) := by
  unfold State.lastEndedWord
  cases s.lastEnded with
  | none => rfl
  | some l =>
    have := endCauseNumber_lt l.cause
    have := ownerNumber_lt l.owner
    dsimp only
    rw [toNat_pack]
    simp only [sum_field_cons, sum_field_nil]
    omega

theorem lastFiredWord_toNat (s : State) : s.lastFiredWord.toNat = (match s.theatre.lastFired with
    | none => 0
    | some l => l.cue % 2 ^ 8 + 2 ^ 8 * cueStateNumber l.state + 2 ^ 16 * (l.mark % 2 ^ 16)) := by
  unfold State.lastFiredWord
  cases s.theatre.lastFired with
  | none => rfl
  | some l =>
    have := cueStateNumber_lt l.state
    dsimp only
    rw [toNat_pack]
    simp only [sum_field_cons, sum_field_nil]
    omega

theorem busyWord_toNat (s : State) : s.busyWord.toNat
    = bit s.control.busyStream + 2 * bit s.control.busyIntercom + 4 * bit s.control.busyShow := by
  have := bit_le_one s.control.busyStream
  have := bit_le_one s.control.busyIntercom
  have := bit_le_one s.control.busyShow
  rw [State.busyWord, toNat_pack]
  simp only [sum_field_cons, sum_field_nil]
  omega

theorem resetCauseWord_toNat (s : State) : s.resetCauseWord.toNat = resetCauseNumber s.control.resetCause := by
  have := resetCauseNumber_lt s.control.resetCause
  rw [State.resetCauseWord, toNat_pack]
  simp only [sum_field_cons, sum_field_nil]
  omega

/-- Four-bit numbers side by side. -/
theorem sum_nibbles (count : Nat) (v : Nat → Nat) (small : ∀ n, v n < 16) :
    (((List.range count).map fun n => (⟨v n, 4 * n, 4⟩ : FieldValue)).map FieldValue.weight).sum
        = ((List.range count).map fun n => 2 ^ (4 * n) * v n).sum
      ∧ ((List.range count).map fun n => 2 ^ (4 * n) * v n).sum < 2 ^ (4 * count) := by
  induction count with
  | zero => exact ⟨rfl, Nat.one_pos⟩
  | succ n ih =>
    obtain ⟨sum, below⟩ := ih
    have weight : FieldValue.weight ⟨v n, 4 * n, 4⟩ = 2 ^ (4 * n) * v n := by
      have held : v n % 2 ^ 4 = v n := Nat.mod_eq_of_lt (small n)
      exact (congrArg (· * 2 ^ (4 * n)) held).trans (Nat.mul_comm ..)
    have top : 2 ^ (4 * n) * v n ≤ 2 ^ (4 * n) * 15 := Nat.mul_le_mul_left _ (Nat.le_of_lt_succ (small n))
    rw [List.range_succ, List.map_append, List.map_append, List.sum_append, sum, List.map_append, List.sum_append]
    simp only [List.map_cons, List.map_nil, List.sum_cons, List.sum_nil, weight, Nat.add_zero, true_and]
    rw [Nat.mul_succ, Nat.pow_add]
    omega

theorem streamStatesWord_toNat (s : State) : s.streamStatesWord.toNat
    = ((List.range 8).map fun n => 2 ^ (4 * n) * streamStateNumber (s.stream n).state).sum := by
  obtain ⟨sum, below⟩ := sum_nibbles 8 (fun n => streamStateNumber (s.stream n).state) fun n =>
    Nat.lt_trans (streamStateNumber_lt _) (by decide)
  rw [State.streamStatesWord, toNat_pack, sum]
  exact Nat.mod_eq_of_lt below

theorem identityWord_toNat : identityWord.toNat = 1 + 2 ^ 8 * 64 + 2 ^ 16 * 0x0D40 := by
  rw [identityWord, toNat_pack]
  simp only [sum_field_cons, sum_field_nil]
  omega

/-- Settles O12: each word through its lemma, the named values by their numbers. -/
theorem liveWordsHoldTheirFields : Obligations.LiveWordsHoldTheirFields := by
  intro s
  dsimp only
  refine ⟨identityWord_toNat, ?cause, ?alarm, ?notice, ?outcome, errorWord_toNat _, ?clock, ?theatre, toNat_flagsWord _,
    toNat_flagsWord _, toNat_flagsWord _, toNat_flagsWord _, ?ended, ?states, busyWord_toNat s, ?fired⟩
  case cause => exact resetCauseWord_toNat s
  case alarm => exact alarmSummary_toNat s
  case notice => exact (noticeWord_toNat s).trans (by cases s.control.inService <;> rfl)
  case outcome => exact (outcomeWord_toNat _).trans (by cases s.control.outcome.result <;> rfl)
  case clock => exact clockSummary_toNat s
  case theatre => exact showSummary_toNat s
  case ended =>
    refine (lastEndedWord_toNat s).trans ?_
    obtain _ | ⟨index, cause, owner⟩ := s.lastEnded
    · rfl
    · cases owner <;> rfl
  case states => exact streamStatesWord_toNat s
  case fired => exact lastFiredWord_toNat s

end Sys2Proof.Machine
end

section
/-! SUPPORT. Single words of the control window (R22): the acknowledge and the latching, the selector, the command slot, the port. -/

namespace Sys2Proof.Machine

/-- A field of a packed word is computed from the sum of the fields it was packed of. -/
theorem field_pack {fs : List FieldValue} {lo width v : Nat}
    (sum : (fs.map FieldValue.weight).sum % 4294967296 / 2 ^ lo % 2 ^ width = v) : field (pack fs) lo width = v := by
  rw [field, toNat_pack, sum]

/-! ## One word of the window -/

/-- A heard write of control window word `k`. -/
theorem exec_controlWordWrite {s : State} {a : HostAccess} {k : Nat} (w : WriteWord) (heard : s.hears a = true) (hk : k < 1024) :
    exec (.controlWordWrite a k w) s = .next ((s.begun.writeWindow k w).afterWord a.tag (a.window + k) w) :=
  congrArg (fun t : State => Host.Outcome.next t.latch) (writeControl_hears (s := s.begun) w heard hk)

theorem writeWindow_other (s : State) {k : Nat} (w : WriteWord) (h : k ≤ 15 ∨ (19 ≤ k ∧ k ≤ 31) ∨ 48 ≤ k) :
    s.writeWindow k w = s := by
  unfold State.writeWindow
  rw [if_neg (by omega), if_neg (by omega), if_neg (by omega), if_neg (by omega)]

theorem writeWindow_slot (s : State) {k : Nat} (w : WriteWord) (low : 32 ≤ k) (high : k ≤ 47) :
    s.writeWindow k w = s.writeSlot (k - 32) w := by
  unfold State.writeWindow
  rw [if_neg (by omega), if_neg (by omega), if_neg (by omega), if_pos ⟨low, high⟩]

/-! ## The acknowledge and the latching (R40, R41) -/

theorem acknowledge_matched {c : ControlUnit} {w : WriteWord} {k : NoticeKind} (serving : c.inService = some k)
    (whole : w.lanes = 15#4) (names : w.data.toNat = k.number) :
    c.acknowledge w = { c with pendingNotices := c.pendingNotices.set k.index false, inService := none } := by
  unfold ControlUnit.acknowledge
  rw [serving]
  exact if_pos ⟨whole, names⟩

theorem acknowledge_mismatched {c : ControlUnit} {w : WriteWord}
    (differs : ∀ k, c.inService = some k → w.lanes = 15#4 → w.data.toNat ≠ k.number) :
    c.acknowledge w = c.addError .noticeMismatch := by
  unfold ControlUnit.acknowledge
  split
  · rfl
  · next k serving => exact if_neg fun h => differs k serving h.1 h.2

theorem latch_serving {s : State} {k : NoticeKind} (serving : s.control.inService = some k) : s.latch = s := by
  have kept : s.control.latch = s.control := by unfold ControlUnit.latch; rw [serving]
  exact congrArg (fun c => { s with control := c }) kept

/-- The kinds stand in the order of their numbers. -/
theorem noticeKinds_split (k : NoticeKind) :
    noticeKinds = noticeKinds.take k.index ++ k :: noticeKinds.drop k.number
      ∧ ∀ j ∈ noticeKinds.take k.index, j.number < k.number := by
  cases k <;> exact ⟨rfl, by decide⟩

/-- The search of R40 finds the lowest-numbered kind. -/
theorem find_noticeKinds {p : NoticeKind → Bool} {k : NoticeKind} (hit : p k = true)
    (lowest : ∀ j : NoticeKind, j.number < k.number → p j = false) : noticeKinds.find? p = some k := by
  obtain ⟨split, lower⟩ := noticeKinds_split k
  exact List.find?_eq_some_iff_append.mpr ⟨hit, _, _, split, fun j hj => by rw [lowest j (lower j hj)]; rfl⟩

theorem latch_idle {s : State} (idle : s.control.inService = none) :
    s.latch = { s with control := { s.control with inService := noticeKinds.find? s.control.latchable } } := by
  have latched : s.control.latch = { s.control with inService := noticeKinds.find? s.control.latchable } := by
    unfold ControlUnit.latch
    rw [idle]
  exact congrArg (fun c => { s with control := c }) latched

/-! ## The selector (R33) -/

theorem portTableOf_eq_some {n : Nat} {t : PortTable} : portTableOf n = some t ↔ n = portTableNumber t := by
  constructor
  · intro h
    unfold portTableOf at h
    split at h
    all_goals cases h
    all_goals rfl
  · rintro rfl
    cases t <;> rfl

theorem incModeOf_eq_some {n : Nat} {m : IncMode} : incModeOf n = some m ↔ n = incModeNumber m := by
  constructor
  · intro h
    unfold incModeOf at h
    split at h
    all_goals cases h
    all_goals rfl
  · rintro rfl
    cases m <;> rfl

/-- The words that name a selector. -/
theorem selectorOf_eq_some {w : Word} {sel : Selector} : selectorOf w = some sel ↔ field w 0 4 = portTableNumber sel.table
    ∧ field w 24 2 = incModeNumber sel.mode ∧ field w 8 11 = sel.index ∧ sel.index ≤ lastIndex sel.table := by
  rw [← portTableOf_eq_some, ← incModeOf_eq_some]
  unfold selectorOf
  cases portTableOf (field w 0 4) with
  | none => simp
  | some table =>
    cases incModeOf (field w 24 2) with
    | none => simp
    | some mode =>
      dsimp only
      rw [Option.ite_none_right_eq_some]
      constructor
      · rintro ⟨range, named⟩
        cases named
        exact ⟨rfl, rfl, rfl, range⟩
      · rintro ⟨ht, hm, hi, range⟩
        cases ht
        cases hm
        refine ⟨hi ▸ range, ?_⟩
        rw [hi]

theorem select_named {c : ControlUnit} {w : WriteWord} {sel : Selector} (whole : w.lanes = 15#4)
    (named : selectorOf w.data = some sel) : c.select w = { c with selector := sel } := by
  unfold ControlUnit.select
  rw [named]
  exact if_pos whole

theorem select_ignored {c : ControlUnit} {w : WriteWord} (h : w.lanes ≠ 15#4 ∨ selectorOf w.data = none) :
    c.select w = c.addError .portRange := by
  unfold ControlUnit.select
  split
  · next named => exact if_neg (h.resolve_right (by rw [named]; exact nofun))
  · rfl

/-- Settles O15: the acknowledge and the selector by what the word names, the latching by its search of the kinds. -/
theorem acknowledgeSelectAndLatch : Obligations.AcknowledgeSelectAndLatch := by
  refine ⟨fun s a w heard => ?acknowledge, fun s => ?latch, fun s a w heard => ?select⟩
  case acknowledge =>
    have written : ∀ c : ControlUnit, s.control.acknowledge w = c → exec (.noticeAcknowledge a w) s
        = .next (State.afterWord { s.begun with control := c } a.tag (a.window + 16) w) := by
      rintro c rfl
      exact exec_controlWordWrite w heard (by decide)
    exact ⟨fun k serving whole names => written _ (acknowledge_matched serving whole names),
      fun differs => written _ (acknowledge_mismatched differs)⟩
  case latch =>
    have latchable : ∀ k : NoticeKind, (s.control.pendingNotices.get (k.number - 1) = true →
        s.control.mask.get (k.number - 1) = true) → s.control.latchable k = false := fun k masked => by
      unfold ControlUnit.latchable NoticeKind.index
      cases pending : s.control.pendingNotices.get (k.number - 1) with
      | false => rfl
      | true => rw [masked pending]; rfl
    refine ⟨fun k serving => latch_serving serving, fun k idle pending unmasked lower => ?_, fun idle masked => ?_, ?_⟩
    · have hit : s.control.latchable k = true := by
        unfold ControlUnit.latchable NoticeKind.index
        rw [pending, unmasked]
        rfl
      rw [latch_idle idle, find_noticeKinds hit fun j hj => latchable j (lower j hj)]
    · have nothing : noticeKinds.find? s.control.latchable = none := List.find?_eq_none.mpr fun k _ => by
        rw [latchable k (masked k)]
        exact Bool.false_ne_true
      rw [latch_idle idle, nothing, ← idle]
    · exact Option.isSome_iff_ne_none
  case select =>
    have written : ∀ c : ControlUnit, s.control.select w = c → exec (.portSelectorWrite a w) s
        = .next (State.afterWord { s.begun with control := c } a.tag (a.window + 17) w) := by
      rintro c rfl
      exact exec_controlWordWrite w heard (by decide)
    refine ⟨fun t m whole table mode range => written _ (select_named whole (selectorOf_eq_some.mpr ⟨table, mode, rfl, range⟩)),
      fun bad => written _ (select_ignored (bad.imp_right fun unnamed => ?_))⟩
    rw [Option.eq_none_iff_forall_ne_some]
    intro sel named
    obtain ⟨table, mode, index, range⟩ := selectorOf_eq_some.mp named
    obtain outside | unknown := unnamed
    · exact absurd (outside _ table) (by omega)
    · exact unknown _ mode

/-! ## The command slot (R25, R26) -/

/-- The mask covers the bytes of the enabled lanes. -/
theorem laneMask_bit : ∀ l : Lanes, ∀ b < 32, (laneMask l).getLsbD b = l.getLsbD (b / 8) := by decide +kernel

/-- A captured word takes the bytes of the enabled lanes (R25). -/
theorem mergeWord_bit (old : Word) (w : WriteWord) {b : Nat} (hb : b < 32) : (mergeWord old w).getLsbD b
    = if w.lanes.getLsbD (b / 8) then w.data.getLsbD b else old.getLsbD b := by
  unfold mergeWord
  rw [BitVec.getLsbD_or, BitVec.getLsbD_and, BitVec.getLsbD_and, BitVec.getLsbD_not, laneMask_bit _ _ hb, decide_eq_true hb]
  cases w.lanes.getLsbD (b / 8) <;> simp

/-- Settles O17: the branches of the window by the word's number. -/
theorem controlWordByItsNumber : Obligations.ControlWordByItsNumber := by
  intro s a k w heard
  refine ⟨fun other => ?_, rfl, rfl, exec_controlWordWrite w heard (by decide), fun low high => ?_⟩
  · rw [exec_controlWordWrite w heard (by omega), writeWindow_other s.begun w (by omega)]
  · refine ⟨mergeWord (s.control.captured.get (k - 32)) w, fun b hb => mergeWord_bit _ w hb, ?_⟩
    have fresh : (k - 32 == 0 && w.lanes != 0#4) = (decide (k = 32) && decide (w.lanes ≠ 0#4)) := by
      have first : (k - 32 == 0) = decide (k = 32) := by
        rw [Bool.eq_iff_iff, beq_iff_eq, decide_eq_true_iff]
        omega
      have lane : (w.lanes != 0#4) = decide (w.lanes ≠ 0#4) := by
        rw [Bool.eq_iff_iff, bne_iff_ne, decide_eq_true_iff]
      rw [first, lane]
    rw [exec_controlWordWrite w heard (by omega), writeWindow_slot s.begun w low high, ← fresh]
    rfl

/-! ## Port data (R35, R36) -/

/-- A selector word beyond its table names nothing (R33). -/
theorem selectorOf_selectorWord_outside {sel : Selector} (range : sel.index < 2048) (outside : lastIndex sel.table < sel.index) :
    selectorOf (selectorWord sel) = none := by
  have hn : portTableNumber sel.table < 16 := by cases sel.table <;> decide
  have hm : incModeNumber sel.mode < 4 := by cases sel.mode <;> decide
  have table : field (selectorWord sel) 0 4 = portTableNumber sel.table :=
    field_pack (by simp only [sum_field_cons, sum_field_nil]; omega)
  have index : field (selectorWord sel) 8 11 = sel.index :=
    field_pack (by simp only [sum_field_cons, sum_field_nil]; omega)
  rw [Option.eq_none_iff_forall_ne_some]
  intro other named
  obtain ⟨table', -, index', range'⟩ := selectorOf_eq_some.mp named
  have same : sel.table = other.table := Option.some.inj
    ((portTableOf_eq_some.mpr rfl).symm.trans (portTableOf_eq_some.mpr (table.symm.trans table')))
  rw [index] at index'
  rw [same] at outside
  omega

/-- A heard burst of a selector word and a port data word, whatever the selector word names. -/
theorem writeTableLanes_selects {s : State} {p : PortAccess} {table : PortTable} {index : Nat} (w : WriteWord)
    (heard : s.hears p.host = true) :
    (s.begun.writeTableLanes p table index w).latch
      = (let t : State := { s.begun with
          control := s.control.select (wholeWord (selectorWord { table := table, index := index, mode := p.mode })) }
        State.afterPort ((t.offerTable w).getD (t.addError .portRefused)) p table index w) := by
  have burst := passWrite_window (s := s.begun) (k := 17) (ws := portBurst p.mode table index w) heard (by simp [portBurst]) w
  unfold State.writeTableLanes
  rw [burst]
  rfl

theorem offerTable_closed {s : State} {w : WriteWord}
    (closed : s.control.tableClosed s.control.selector.table = true ∨ w.lanes ≠ 15#4) : s.offerTable w = none := if_pos closed

theorem offerTable_open {s : State} {w : WriteWord} (opened : s.control.tableClosed s.control.selector.table = false)
    (whole : w.lanes = 15#4) :
    s.offerTable w = s.writeTable s.control.selector.table s.control.selector.index w.data :=
  if_neg (by simp [opened, whole])

theorem tableClosed_iff (c : ControlUnit) (t : PortTable) : c.tableClosed t = true ↔ t = .pin ∨ t = .stream ∨ t = .counter
    ∨ ((t = .station ∨ t = .group) ∧ c.busyIntercom = true) ∨ (t = .cue ∧ c.busyShow = true) := by
  unfold ControlUnit.tableClosed
  cases t <;> simp

theorem advances_of_moves {mode : IncMode} {isWrite : Bool}
    (moves : mode = .readAndWrite ∨ (mode = .writeOnly ∧ isWrite = true)) : advances mode isWrite = true := by
  obtain rfl | ⟨rfl, rfl⟩ := moves
  · rfl
  · rfl

theorem advances_of_still {mode : IncMode} {isWrite : Bool}
    (still : mode = .none ∨ (mode = .writeOnly ∧ isWrite = false)) : advances mode isWrite = false := by
  obtain rfl | ⟨rfl, rfl⟩ := still
  · rfl
  · rfl

/-- Settles O18: a burst refused by the control unit, offered to the owner, or sent where the old selector points; and the
post-increment by its mode. -/
theorem portWritesAndIndex : Obligations.PortWritesAndIndex := by
  refine ⟨fun s p table index w heard bound => ⟨fun range refused => ?_, fun range whole opened => ?_, fun outside => ?_⟩,
    fun c isWrite => ⟨fun still => ?_, fun moves => ⟨fun inside => ?_, fun last => ?_⟩⟩⟩
  · have closed : (s.atPort p table index).offerTable w = none :=
      offerTable_closed (refused.symm.imp_left (tableClosed_iff s.control table).mpr)
    have written := writeTableLanes_hears w heard range
    rw [closed] at written
    exact congrArg Host.Outcome.next written
  · have free : s.control.tableClosed table = false := by
      obtain rfl | rfl | rfl | ⟨rfl | rfl, idle⟩ | ⟨rfl, idle⟩ := opened
      · rfl
      · rfl
      · rfl
      · exact idle
      · exact idle
      · exact idle
    have offered : (s.atPort p table index).offerTable w = (s.atPort p table index).writeTable table index w.data :=
      offerTable_open free whole
    have written := writeTableLanes_hears w heard range
    rw [offered] at written
    exact congrArg Host.Outcome.next written
  · have ignored : s.control.select (wholeWord (selectorWord { table := table, index := index, mode := p.mode }))
        = s.control.addError .portRange :=
      select_ignored (.inr (selectorOf_selectorWord_outside bound outside))
    have written := writeTableLanes_selects (table := table) (index := index) w heard
    rw [ignored] at written
    exact congrArg Host.Outcome.next written
  · exact if_neg (by rw [advances_of_still still]; exact Bool.false_ne_true)
  · have advanced := advances_of_moves moves
    exact (if_pos advanced).trans (if_pos inside)
  · have advanced := advances_of_moves moves
    exact (if_pos advanced).trans (if_neg (Nat.not_lt.mpr last))

end Sys2Proof.Machine
end

section
/-! SUPPORT. Table writes by their owners: the rows of the STATION and GROUP tables (R111 to R115). -/

namespace Sys2Proof.Machine

/-! ## A table row -/

/-- A table write whose owner takes the word (R35). -/
theorem tableRow_written {s t : State} {p : PortAccess} {table : PortTable} {index : Nat} {data : Word}
    (heard : s.hears p.host = true) (range : index ≤ lastIndex table) (opened : s.control.tableClosed table = false)
    (owner : (s.atPort p table index).writeTable table index data = some t) :
    Host.Outcome.next (s.run fun s => s.writeTableWord p table index data) = State.tableWritten t p table index data := by
  have offered := (offerTable_open (s := s.atPort p table index) (w := wholeWord data) opened rfl).trans owner
  have written := writeTableLanes_hears (wholeWord data) heard range
  rw [offered] at written
  exact congrArg Host.Outcome.next written

/-- A table write that the control unit or the owner refuses (R35). -/
theorem tableRow_refused {s : State} {p : PortAccess} {table : PortTable} {index : Nat} {data : Word}
    (heard : s.hears p.host = true) (range : index ≤ lastIndex table)
    (refused : s.control.tableClosed table = false → (s.atPort p table index).writeTable table index data = none) :
    Host.Outcome.next (s.run fun s => s.writeTableWord p table index data) = s.tableRefused p table index data := by
  have offered : (s.atPort p table index).offerTable (wholeWord data) = none := by
    cases closed : s.control.tableClosed table with
    | true => exact offerTable_closed (.inl closed)
    | false => exact (offerTable_open (s := s.atPort p table index) (w := wholeWord data) closed rfl).trans (refused closed)
  have written := writeTableLanes_hears (wholeWord data) heard range
  rw [offered] at written
  exact congrArg Host.Outcome.next written

/-! ## STATION (R111 to R113) -/

theorem writeTable_station (s : State) (n : Nat) {w : Nat} (hw : w < 6) (data : Word) :
    s.writeTable .station (6 * n + w) data = s.writeStation n w data := by
  rw [State.writeTable, show (6 * n + w) / 6 = n by omega, show (6 * n + w) % 6 = w by omega]

theorem stationWord0_fields {active : Bool} {periods : Nat} (h : periods < 64) :
    flag (stationWord0 active periods) 0 = active ∧ field (stationWord0 active periods) 8 6 = periods := by
  have := bit_le_one active
  have one : field (stationWord0 active periods) 0 1 = bit active :=
    field_pack (by simp only [sum_field_cons, sum_field_nil]; omega)
  refine ⟨?_, field_pack (by simp only [sum_field_cons, sum_field_nil]; omega)⟩
  rw [flag_eq_field, one]
  cases active <;> rfl

theorem periodsOk_iff (n : Nat) : periodsOk n = true ↔ 2 ≤ n ∧ n ≤ 32 := by simp [periodsOk]

theorem stationPlaceable_iff (s : State) (r : StationRecord) : s.stationPlaceable r = true
    ↔ r.micBase + r.ringPeriods * 48 ≤ 268435456 ∧ r.earBase + r.ringPeriods * 48 ≤ 268435456
      ∧ r.micSpan.overlaps r.earSpan = false
      ∧ ∀ q ∈ s.regions, r.micSpan.overlaps q = false ∧ r.earSpan.overlaps q = false := by
  simp only [State.stationPlaceable, State.clearOf, Bool.and_eq_true, List.all_eq_true, Bool.not_eq_true', and_assoc,
    forall_and, Span.inMemory, decide_eq_true_eq]
  rfl

/-- Word 0 as the activation and deactivation rows write it, by the station's state (R112, R113). -/
theorem writeStationShape_word0 (s : State) (n : Nat) (active : Bool) {periods : Nat} (h : periods < 64) :
    s.writeStationShape n (stationWord0 active periods)
      = if (s.station n).active = active then
          if active = false ∧ periodsOk periods = true then some (s.setStation n { s.station n with ringPeriods := periods })
          else none
        else if active = true then s.activateStation n periods else s.deactivateStation n periods := by
  obtain ⟨flag, field⟩ := stationWord0_fields (active := active) h
  unfold State.writeStationShape
  rw [flag, field]
  dsimp only
  cases was : (s.station n).active <;> cases active <;> simp

theorem activateStation_eq {s : State} {n periods : Nat} :
    s.activateStation n periods = if periodsOk periods = true
        ∧ s.stationPlaceable { s.station n with ringPeriods := periods } = true then
      some (s.setStation n { ({ s.station n with ringPeriods := periods } : StationRecord).clearOwn with active := true })
    else none := if_congr (by rw [Bool.and_eq_true]) rfl rfl

/-- A base is stored while the station is not active (R111). -/
theorem baseOk_iff (free : Bool) (data : Word) : baseOk free data = true ↔ free = true ∧ data.toNat ≤ 268435455 := by
  rw [baseOk, Bool.and_eq_true, decide_eq_true_iff]
  rfl

/-- Settles O22: each row through its owner's function, on the state the word is offered to. -/
theorem stationTableWrites : Obligations.StationTableWrites := by
  intro s p n periods data heard hn hp r at' wrote refused cleared inRange placeable
  have range {w : Nat} (hw : w < 6) : 6 * n + w ≤ lastIndex .station := by
    show 6 * n + w ≤ 191
    omega
  have stored (idle : s.control.busyIntercom = false) {w : Nat} (hw : w < 6) {d : Word} {t : State}
      (owner : (at' w).writeStation n w d = some t) :
      Host.Outcome.next (s.run fun s => s.writeTableWord p .station (6 * n + w) d) = t.tableWritten p .station (6 * n + w) d :=
    tableRow_written heard (range hw) idle ((writeTable_station _ n hw d).trans owner)
  have rejected {w : Nat} (hw : w < 6) {d : Word}
      (owner : s.control.busyIntercom = false → (at' w).writeStation n w d = none) :
      Host.Outcome.next (s.run fun s => s.writeTableWord p .station (6 * n + w) d) = refused w d :=
    tableRow_refused heard (range hw) fun idle => (writeTable_station _ n hw d).trans (owner idle)
  have shape (active : Bool) := writeStationShape_word0 (at' 0) n active hp
  have placed : placeable ↔ periodsOk periods = true
      ∧ (at' 0).stationPlaceable { (at' 0).station n with ringPeriods := periods } = true := by
    rw [periodsOk_iff, stationPlaceable_iff]
    rfl
  have outside (bad : r.active = true ∨ 268435455 < data.toNat) : ¬ baseOk (!r.active) data = true := by
    rw [baseOk_iff]
    rintro ⟨rests, top⟩
    exact bad.elim (fun going => by rw [going] at rests; cases rests) fun above => Nat.not_le.mpr above top
  have inside (rests : r.active = false) (top : data.toNat ≤ 268435455) : baseOk (!r.active) data = true :=
    (baseOk_iff _ _).mpr ⟨by rw [rests]; rfl, top⟩
  refine ⟨fun busy => ⟨?_, ?_, fun w hw => ?_⟩, fun idle => ⟨fun rests fits => ?_, fun bad => ?_, fun going fits quiet => ?_,
    fun rests fits => ?_, fun bad => ?_, ?_, fun rests top => ⟨?_, ?_⟩, fun bad => ⟨?_, ?_⟩, fun top => ?_, fun bad => ?_,
    ?_, ?_⟩⟩
  · exact rejected (w := 0) (by decide) fun idle => by rw [busy] at idle; cases idle
  · exact rejected (w := 0) (by decide) fun idle => by rw [busy] at idle; cases idle
  · exact rejected hw fun idle => by rw [busy] at idle; cases idle
  · refine stored idle (w := 0) (by decide) ((shape true).trans ((if_neg (by
      rw [show ((at' 0).station n).active = false from rests]; decide)).trans ?_))
    exact (if_pos rfl).trans (activateStation_eq.trans (if_pos (placed.mp fits)))
  · refine rejected (w := 0) (by decide) fun _ => (shape true).trans ?_
    by_cases going : ((at' 0).station n).active = true
    · exact (if_pos going).trans (if_neg fun h => nomatch h.1)
    · exact (if_neg going).trans ((if_pos rfl).trans (activateStation_eq.trans
        (if_neg (mt placed.mpr (bad.resolve_left going)))))
  · refine stored idle (w := 0) (by decide) ((shape false).trans ((if_neg (by
      rw [show ((at' 0).station n).active = true from going]; decide)).trans ?_))
    exact (if_neg (by decide)).trans (if_pos ⟨(periodsOk_iff _).mpr fits, quiet⟩)
  · exact stored idle (w := 0) (by decide)
      ((shape false).trans ((if_pos rests).trans (if_pos ⟨rfl, (periodsOk_iff _).mpr fits⟩)))
  · refine rejected (w := 0) (by decide) fun _ => (shape false).trans ?_
    by_cases rests : ((at' 0).station n).active = false
    · refine (if_pos rests).trans (if_neg fun h => ?_)
      obtain out | ⟨going, -⟩ := bad
      · exact out ((periodsOk_iff _).mp h.2)
      · exact Bool.false_ne_true (rests.symm.trans going)
    · refine (if_neg rests).trans ((if_neg (by decide)).trans (if_neg fun h => ?_))
      obtain out | ⟨-, talking⟩ := bad
      · exact out ((periodsOk_iff _).mp h.1)
      · rw [show r.talk = none from h.2] at talking
        cases talking
  · have word : (at' 0).writeStation n 0 data = (at' 0).writeStationShape n data := rfl
    cases owner : (at' 0).writeStationShape n data with
    | some t => exact stored idle (w := 0) (by decide) (word.trans owner)
    | none => exact rejected (w := 0) (by decide) fun _ => word.trans owner
  · exact stored idle (w := 1) (by decide) (if_pos (inside rests top))
  · exact stored idle (w := 2) (by decide) (if_pos (inside rests top))
  · exact rejected (w := 1) (by decide) fun _ => if_neg (outside bad)
  · exact rejected (w := 2) (by decide) fun _ => if_neg (outside bad)
  · exact stored idle (w := 3) (by decide) (if_pos top)
  · exact rejected (w := 3) (by decide) fun _ => if_neg (Nat.not_le.mpr bad)
  · exact rejected (w := 4) (by decide) fun _ => rfl
  · exact rejected (w := 5) (by decide) fun _ => rfl

/-! ## GROUP (R114, R115) -/

theorem writeTable_group (s : State) (g : Nat) {w : Nat} (hw : w < 4) (data : Word) :
    s.writeTable .group (4 * g + w) data = s.writeGroup g w data := by
  rw [State.writeTable, show (4 * g + w) / 4 = g by omega, show (4 * g + w) % 4 = w by omega]

theorem groupWord0_fields (defined essential : Bool) :
    flag (groupWord0 defined essential) 0 = defined ∧ flag (groupWord0 defined essential) 1 = essential := by
  cases defined <;> cases essential <;> decide +kernel

/-- Word 0 by the flag it writes and the group as it stands (R115). -/
theorem writeGroupFlags_word0 (s : State) (g : Nat) (defined essential : Bool) :
    s.writeGroupFlags g (groupWord0 defined essential)
      = if s.alarm.state ≠ .quiet ∧ essential ≠ (s.group g).essential then none
        else if (s.group g).defined = defined then some (s.setGroup g { s.group g with essential := essential })
        else if defined = true then
          some (s.setGroup g { (s.group g).clearSums with defined := true, essential := essential })
        else s.undefineGroup g essential := by
  obtain ⟨zero, one⟩ := groupWord0_fields defined essential
  unfold State.writeGroupFlags
  rw [zero, one]
  dsimp only
  refine ite_congr rfl (fun _ => rfl) fun _ => ?_
  cases was : (s.group g).defined <;> cases defined <;> simp

/-- Settles O23: each row through its owner's function, on the state the word is offered to. -/
theorem groupTableWrites : Obligations.GroupTableWrites := by
  intro s p g essential data heard hg r at' refused defineWord undefineWord frozen inUse
  have range {w : Nat} (hw : w < 4) : 4 * g + w ≤ lastIndex .group := by
    show 4 * g + w ≤ 63
    omega
  have stored (idle : s.control.busyIntercom = false) {w : Nat} (hw : w < 4) {d : Word} {t : State}
      (owner : (at' w).writeGroup g w d = some t) :
      Host.Outcome.next (s.run fun s => s.writeTableWord p .group (4 * g + w) d) = t.tableWritten p .group (4 * g + w) d :=
    tableRow_written heard (range hw) idle ((writeTable_group _ g hw d).trans owner)
  have rejected {w : Nat} (hw : w < 4) {d : Word}
      (owner : s.control.busyIntercom = false → (at' w).writeGroup g w d = none) :
      Host.Outcome.next (s.run fun s => s.writeTableWord p .group (4 * g + w) d) = refused w d :=
    tableRow_refused heard (range hw) fun idle => (writeTable_group _ g hw d).trans (owner idle)
  have flags (defined : Bool) := writeGroupFlags_word0 (at' 0) g defined essential
  have idleOf (free : ¬ frozen) : s.control.busyIntercom = false := Bool.eq_false_iff.mpr fun busy => free (.inl busy)
  have flagsOf (free : ¬ frozen) (defined : Bool) : (at' 0).writeGroup g 0 (groupWord0 defined essential) = _ :=
    (flags defined).trans (if_neg fun h => free (.inr h))
  have differs {was : Bool} (is : r.defined = was) : ¬ ((at' 0).group g).defined = !was := by
    rw [show ((at' 0).group g).defined = was from is]
    cases was <;> decide
  have frozenFlags (cold : frozen) (defined : Bool) (idle : s.control.busyIntercom = false) :
      (at' 0).writeGroup g 0 (groupWord0 defined essential) = none :=
    (flags defined).trans (if_pos (cold.resolve_left (by rw [idle]; exact Bool.false_ne_true)))
  refine ⟨fun cold => ⟨?_, ?_⟩, fun free => ⟨fun undefined => ⟨?_, ?_⟩, fun defined => ⟨?_, fun used => ?_, fun unused => ?_⟩⟩,
    fun busy w low high => ?_, fun idle => ⟨fun top => ?_, fun above => ?_, ?_, ?_⟩⟩
  · exact rejected (w := 0) (by decide) (frozenFlags cold true)
  · exact rejected (w := 0) (by decide) (frozenFlags cold false)
  · exact stored (idleOf free) (w := 0) (by decide) ((flagsOf free true).trans ((if_neg (differs undefined)).trans (if_pos rfl)))
  · exact stored (idleOf free) (w := 0) (by decide) ((flagsOf free false).trans (if_pos undefined))
  · exact stored (idleOf free) (w := 0) (by decide) ((flagsOf free true).trans (if_pos defined))
  · refine rejected (w := 0) (by decide) fun _ => (flagsOf free false).trans
      ((if_neg (differs defined)).trans ((if_neg (by decide)).trans (if_neg fun none => ?_)))
    have talkers : s.talkerCount g = 0 := none.1
    have streams : s.streamCount g = 0 := none.2
    exact used.elim (by omega) (by omega)
  · rw [not_or, Nat.not_lt, Nat.not_lt, Nat.le_zero, Nat.le_zero] at unused
    exact stored (idleOf free) (w := 0) (by decide) ((flagsOf free false).trans
      ((if_neg (differs defined)).trans ((if_neg (by decide)).trans (if_pos unused))))
  · exact rejected (by omega) fun idle => by rw [busy] at idle; cases idle
  · exact stored idle (w := 1) (by decide) (if_pos top)
  · exact rejected (w := 1) (by decide) fun _ => if_neg (Nat.not_le.mpr above)
  · exact rejected (w := 2) (by decide) fun _ => rfl
  · exact rejected (w := 3) (by decide) fun _ => rfl

end Sys2Proof.Machine
end

section
/-! SUPPORT. Table writes by their owners: the rows of the CUE, CONFIG and PATTERN tables (R38, R144, R170, R171). -/

namespace Sys2Proof.Machine

/-! ## CUE (R170) -/

theorem writeTable_cue (s : State) {n w : Nat} (hn : n < 256) (hw : w < 4) (data : Word) :
    s.writeTable .cue (4 * n + w) data = s.writeCue n w data := by
  rw [State.writeTable, if_neg (by omega), show (4 * n + w) / 4 = n by omega, show (4 * n + w) % 4 = w by omega]

theorem editable_iff (r : ShowRecord) (n : Nat) :
    r.editable n = true ↔ ¬ ((r.state = .running ∨ r.state = .held) ∧ n ≤ r.pointer) := by
  unfold ShowRecord.editable ShowState.settled
  cases r.state <;> simp

theorem triggerOf_triggerNumber (t : Trigger) : triggerOf (triggerNumber t) = some t := by cases t <;> rfl

theorem cueActionOf_cueActionNumber (a : CueAction) : cueActionOf (cueActionNumber a) = some a := by cases a <;> rfl

/-- A word 0 that names a trigger and an action. -/
theorem withWord0_named {c : Cue} {data : Word} {t : Trigger} {a : CueAction} (trigger : field data 0 2 = triggerNumber t)
    (action : field data 2 3 = cueActionNumber a) : c.withWord0 data
      = if t = .follow ∧ 65535 < field data 12 20 then none
        else some { c with trigger := t, action := a, notify := flag data 5, repeats := field data 8 4,
                           value := field data 12 20 } := by
  unfold Cue.withWord0
  rw [trigger, action, triggerOf_triggerNumber, cueActionOf_cueActionNumber]

theorem withWord0_refused {c : Cue} {data : Word}
    (bad : field data 0 2 = 3 ∨ 5 ≤ field data 2 3 ∨ (field data 0 2 = 2 ∧ 65535 < field data 12 20)) :
    c.withWord0 data = none := by
  unfold Cue.withWord0
  split
  · next t a trigger action =>
    refine if_pos ?_
    obtain three | five | ⟨two, above⟩ := bad
    · rw [three] at trigger
      cases trigger
    · have named : cueActionOf (field data 2 3) = none := by
        unfold cueActionOf
        split
        rotate_right
        · rfl
        all_goals omega
      rw [named] at action
      cases action
    · rw [two] at trigger
      cases trigger
      exact ⟨rfl, above⟩
  · rfl

theorem writeCue_editable {s : State} {n : Nat} (editable : s.theatre.editable n = true) (w : Nat) (data : Word) :
    s.writeCue n w data
      = ((s.theatre.cue n).withWord w data).map fun c => s.setShow { s.theatre with cues := s.theatre.cues.set n c } :=
  if_pos editable

/-! ## The list length (R171) -/

theorem writeLength_refused {s : State} {data : Word}
    (h : 256 < field data 0 9 ∨ s.theatre.state = .running ∨ s.theatre.state = .held) : s.writeLength data = none := by
  unfold State.writeLength
  dsimp only
  split
  · rfl
  · next short =>
    obtain running | held := h.resolve_left short
    · rw [running]
    · rw [held]

theorem writeLength_idle {s : State} {data : Word} (short : field data 0 9 ≤ 256) (idle : s.theatre.state = .idle) :
    s.writeLength data = if field data 0 9 = 0 then some (s.setShow { s.theatre with length := 0 })
      else some ((s.setShow { s.theatre with length := field data 0 9, state := .stopped }).post .showNotice) := by
  unfold State.writeLength
  rw [idle]
  exact if_neg (Nat.not_lt.mpr short)

theorem writeLength_stopped {s : State} {data : Word} (short : field data 0 9 ≤ 256) (stopped : s.theatre.state = .stopped) :
    s.writeLength data = if field data 0 9 = 0 then
        some ((s.setShow { s.theatre.allWaiting with length := 0, pointer := 0, state := .idle }).post .showNotice)
      else some (s.setShow { s.theatre with length := field data 0 9 }) := by
  unfold State.writeLength
  rw [stopped]
  exact if_neg (Nat.not_lt.mpr short)

/-! ## CONFIG and PATTERN (R38, R144) -/

theorem maskReserved_iff (data : Word) : field data 9 23 = 0 ↔ data.toNat < 512 := by
  have := data.isLt
  unfold field
  omega

theorem segmentOk_iff (data : Word) : segmentOk data = true
    ↔ (field data 0 12 = 0 ∨ (100 ≤ field data 0 12 ∧ field data 0 12 ≤ 3000)) ∧ 1 ≤ field data 16 16 := by
  simp only [segmentOk, Bool.and_eq_true, Bool.or_eq_true, beq_iff_eq, decide_eq_true_eq]

theorem writePattern_length {s : State} {data : Word} (quiet : s.alarm.state = .quiet) : s.writePattern 16 data
    = if 1 ≤ field data 0 5 ∧ field data 0 5 ≤ 16 then
        some { s with alarm := { s.alarm with patternLength := field data 0 5 } }
      else none := (if_neg (not_not.mpr quiet)).trans (if_pos rfl)

theorem writePattern_segment {s : State} {data : Word} {i : Nat} (quiet : s.alarm.state = .quiet) (hi : i < 16) :
    s.writePattern i data = if segmentOk data = true then
        some { s with alarm := { s.alarm with
          segments := s.alarm.segments.set i { frequency := field data 0 12, duration := field data 16 16 } } }
      else none := (if_neg (not_not.mpr quiet)).trans (if_neg (Nat.ne_of_lt hi))

/-- Settles O24: each row through its owner's function, on the state the word is offered to. -/
theorem cueConfigAndPatternWrites : Obligations.CueConfigAndPatternWrites := by
  refine ⟨fun s p n data heard hn => ?cue, fun s p data heard => ?length, fun s p data heard => ?config,
    fun s p i data heard hi => ?pattern⟩
  case cue =>
    intro c wrote refused closed
    have range {w : Nat} (hw : w < 4) : 4 * n + w ≤ lastIndex .cue := by
      show 4 * n + w ≤ 1024
      omega
    have rejected {w : Nat} (hw : w < 4) (owner : s.control.busyShow = false → (s.atPort p .cue (4 * n + w)).writeCue n w data = none) :
        exec (.cueWrite p n w data) s = refused w :=
      tableRow_refused heard (range hw) fun idle => (writeTable_cue _ hn hw data).trans (owner idle)
    have stored (free : ¬ closed) {w : Nat} (hw : w < 4) {c' : Cue} (word : c.withWord w data = some c') :
        exec (.cueWrite p n w data) s = wrote w c' := by
      rw [not_or, Bool.not_eq_true] at free
      have editable : (s.atPort p .cue (4 * n + w)).theatre.editable n = true := (editable_iff _ n).mpr free.2
      exact tableRow_written heard (range hw) free.1 ((writeTable_cue _ hn hw data).trans
        ((writeCue_editable editable w data).trans (congrArg (Option.map _) word)))
    refine ⟨fun shut w hw => rejected hw fun idle => if_neg fun editable => ?_, fun free => ⟨?_, ?_, ?_, fun t a trigger action fits => ?_,
      fun bad => ?_⟩⟩
    · exact (editable_iff _ n).mp editable (shut.resolve_left (by rw [idle]; exact Bool.false_ne_true))
    · exact stored free (w := 1) (by decide) rfl
    · exact stored free (w := 2) (by decide) rfl
    · exact stored free (w := 3) (by decide) rfl
    · exact stored free (w := 0) (by decide)
        ((withWord0_named trigger action).trans (if_neg fun h => Nat.not_lt.mpr (fits h.1) h.2))
    · refine rejected (w := 0) (by decide) fun _ => ?_
      unfold State.writeCue
      split
      · exact congrArg (Option.map _) (withWord0_refused bad)
      · rfl
  case length =>
    intro length at' wrote refused
    have stored (idle : s.control.busyShow = false) {t : State} (owner : at'.writeLength data = some t) :
        exec (.listLengthWrite p data) s = wrote t := tableRow_written heard (Nat.le_refl 1024) idle owner
    refine ⟨fun shut => tableRow_refused heard (Nat.le_refl 1024) fun (idle : s.control.busyShow = false) => ?_, fun idle short => ⟨fun state zero => ?_,
      fun state some => ?_, fun state zero => ?_, fun state some => ?_⟩⟩
    · exact writeLength_refused (s := at') (shut.resolve_left (by rw [idle]; exact Bool.false_ne_true))
    · exact stored idle ((writeLength_idle (s := at') short state).trans (if_pos zero))
    · exact stored idle ((writeLength_idle (s := at') short state).trans (if_neg (Nat.pos_iff_ne_zero.mp some)))
    · exact stored idle ((writeLength_stopped (s := at') short state).trans (if_pos zero))
    · exact stored idle ((writeLength_stopped (s := at') short state).trans (if_neg (Nat.pos_iff_ne_zero.mp some)))
  case config =>
    refine ⟨fun small => ?_, fun large => ?_, fun some => ?_, fun none => ?_, fun fits => ?_, fun bad => ?_⟩
    · exact tableRow_written heard (Nat.zero_le _) rfl (if_pos ((maskReserved_iff data).mpr small))
    · exact tableRow_refused heard (Nat.zero_le _) fun _ => if_neg (mt (maskReserved_iff data).mp (Nat.not_lt.mpr large))
    · exact tableRow_written heard (of_decide_eq_true rfl) rfl (if_neg (Nat.pos_iff_ne_zero.mp some))
    · exact tableRow_refused heard (of_decide_eq_true rfl) fun _ => if_pos none
    · exact tableRow_written heard (of_decide_eq_true rfl) rfl (if_pos fits)
    · exact tableRow_refused heard (of_decide_eq_true rfl) fun _ => if_neg (by omega)
  case pattern =>
    intro segmentFits lengthFits
    have segmentWord := @writePattern_segment (s.atPort p .pattern i) data i
    have lengthWord := @writePattern_length (s.atPort p .pattern 16) data
    refine ⟨fun quiet segment fits => ?_, fun quiet fits => ?_, fun bad => ?_⟩
    · exact tableRow_written heard hi rfl ((segmentWord quiet segment).trans (if_pos ((segmentOk_iff data).mpr fits)))
    · exact tableRow_written heard (Nat.le_refl 16) rfl ((lengthWord quiet).trans (if_pos fits))
    · refine tableRow_refused heard hi fun _ => ?_
      by_cases quiet : s.alarm.state = .quiet
      · obtain ⟨segment, unfit⟩ | ⟨rfl, unfit⟩ := bad.resolve_left (not_not.mpr quiet)
        · exact (segmentWord quiet segment).trans (if_neg (mt (segmentOk_iff data).mp unfit))
        · exact (lengthWord quiet).trans (if_neg unfit)
      · exact if_pos quiet

end Sys2Proof.Machine
end

section
/-! SUPPORT. A command record read back as its command (R25, R195, 11.3), and the checks of a take in their order (R27 to R29). -/

namespace Sys2Proof.Machine

/-! ## The words of a record -/

theorem length_recordWords (h : CommandHead) (c : Command) : (recordWords h c).length = c.payload.length + 2 := by
  simp [recordWords, withCrc]

theorem payload_short (c : Command) : c.payload.length ≤ 14 := by
  cases c <;> exact of_decide_eq_true rfl

theorem payloadLength_of_fits {c : Command} (fits : c.fits = true) : c.payloadLength = some c.payload.length := by
  cases c with
  | ansNone => cases fits
  | _ => rfl

theorem recordWords_header (h : CommandHead) (c : Command) :
    (recordWords h c).getD 0 0#32 = headerWord c.code h.sequence h.answer c.payload.length := rfl

theorem recordWords_payload (h : CommandHead) {c : Command} {k : Nat} (hk : k < c.payload.length) :
    (recordWords h c).getD (k + 1) 0#32 = c.payload.getD k 0#32 := by
  simp [recordWords, withCrc, List.getD_eq_getElem?_getD, List.getElem?_append_left hk]

theorem recordWords_trailer (h : CommandHead) (c : Command) : (recordWords h c).getD (c.payload.length + 1) 0#32
    = (crc16 (headerWord c.code h.sequence h.answer c.payload.length :: c.payload)).setWidth 32 := by
  simp [recordWords, withCrc, List.getD_eq_getElem?_getD]

/-- The words before the trailer are those the CRC was taken of (R195). -/
theorem recordWords_body (h : CommandHead) (c : Command) :
    (List.range (c.payload.length + 1)).map (fun k => (recordWords h c).getD k 0#32)
      = headerWord c.code h.sequence h.answer c.payload.length :: c.payload := by
  rw [List.range_succ_eq_map, List.map_cons, List.map_map, recordWords_header]
  refine congrArg _ (List.ext_getElem (by simp) fun k hk hk' => ?_)
  rw [List.getElem_map, List.getElem_range]
  exact (recordWords_payload h hk').trans (List.getD_eq_getElem _ _ hk')

theorem code_lt (c : Command) : c.code < 32 := by
  cases c <;> exact of_decide_eq_true rfl

theorem headerWord_fields {code sequence length : Nat} {answer : Bool} (hc : code < 32) (hs : sequence ≤ 255) :
    field (headerWord code sequence answer length) 0 5 = code ∧ field (headerWord code sequence answer length) 8 8 = sequence
      ∧ (headerWord code sequence answer length).getLsbD 16 = answer := by
  have := bit_le_one answer
  have answered : field (headerWord code sequence answer length) 16 1 = bit answer :=
    field_pack (by simp only [sum_field_cons, sum_field_nil]; omega)
  refine ⟨code_headerWord hc, field_pack (by simp only [sum_field_cons, sum_field_nil]; omega), ?_⟩
  refine (flag_eq_field _ 16).trans ?_
  rw [answered]
  cases answer <;> rfl

/-! ## The command its words give -/

theorem ansWord_fields {source priority : Nat} (hs : source < 16) (hp : priority ≤ 15) :
    field (pack [⟨source, 0, 4⟩, ⟨priority, 8, 4⟩]) 0 4 = source
      ∧ field (pack [⟨source, 0, 4⟩, ⟨priority, 8, 4⟩]) 8 4 = priority :=
  ⟨field_pack (by simp only [sum_field_cons, sum_field_nil]; omega),
    field_pack (by simp only [sum_field_cons, sum_field_nil]; omega)⟩

theorem ansGroupWord_fields {priority group : Nat} (hp : priority ≤ 15) (hg : group ≤ 255) :
    field (pack [⟨3, 0, 4⟩, ⟨priority, 8, 4⟩, ⟨group, 16, 8⟩]) 0 4 = 3
      ∧ field (pack [⟨3, 0, 4⟩, ⟨priority, 8, 4⟩, ⟨group, 16, 8⟩]) 8 4 = priority
      ∧ field (pack [⟨3, 0, 4⟩, ⟨priority, 8, 4⟩, ⟨group, 16, 8⟩]) 16 8 = group :=
  ⟨field_pack (by simp only [sum_field_cons, sum_field_nil]; omega),
    field_pack (by simp only [sum_field_cons, sum_field_nil]; omega),
    field_pack (by simp only [sum_field_cons, sum_field_nil]; omega)⟩

theorem clipWord_fields {periods repeats : Nat} (hp : periods ≤ 65535) (hr : repeats ≤ 255) :
    field (pack [⟨periods, 0, 16⟩, ⟨repeats, 16, 8⟩]) 0 16 = periods
      ∧ field (pack [⟨periods, 0, 16⟩, ⟨repeats, 16, 8⟩]) 16 8 = repeats :=
  ⟨field_pack (by simp only [sum_field_cons, sum_field_nil]; omega),
    field_pack (by simp only [sum_field_cons, sum_field_nil]; omega)⟩

theorem talkWord_fields {station group : Nat} (hs : station ≤ 255) (hg : group ≤ 31) :
    field (pack [⟨station, 0, 8⟩, ⟨group, 8, 5⟩]) 0 8 = station ∧ field (pack [⟨station, 0, 8⟩, ⟨group, 8, 5⟩]) 8 5 = group :=
  ⟨field_pack (by simp only [sum_field_cons, sum_field_nil]; omega),
    field_pack (by simp only [sum_field_cons, sum_field_nil]; omega)⟩

/-- Words that hold a fitting command's payload are parsed as the command. -/
theorem parseCommand_payload {c : Command} {w : Nat → Word} (fits : c.fits = true)
    (words : ∀ k < c.payload.length, w (k + 1) = c.payload.getD k 0#32) : parseCommand c.code w = some c := by
  cases c with
  | ansNone => cases fits
  | pgc | als | asi | aen | shg | shh | shr | shs => rfl
  | ansClip priority zones base periods repeats =>
    simp only [Command.fits, Bool.and_eq_true, decide_eq_true_eq] at fits
    obtain ⟨⟨⟨hp, hb⟩, hn⟩, hr⟩ := fits
    have one : w 1 = pack [⟨1, 0, 4⟩, ⟨priority, 8, 4⟩] := words 0 (of_decide_eq_true rfl)
    have lo : w 2 = zones.lo := words 1 (of_decide_eq_true rfl)
    have hi : w 3 = zones.hi := words 2 (of_decide_eq_true rfl)
    have four : w 4 = BitVec.ofNat 32 base := words 3 (of_decide_eq_true rfl)
    have five : w 5 = pack [⟨periods, 0, 16⟩, ⟨repeats, 16, 8⟩] := words 4 (of_decide_eq_true rfl)
    obtain ⟨source, held⟩ := ansWord_fields (source := 1) (by decide) hp
    obtain ⟨length, plays⟩ := clipWord_fields hn hr
    simp only [Command.code, parseCommand, parseAns]
    rw [one, lo, hi, four, five, source, held, length, plays, toNat_ofNat_of_wordOk hb]
    rfl
  | ansLive priority zones =>
    have hp : priority ≤ 15 := of_decide_eq_true fits
    have one : w 1 = pack [⟨2, 0, 4⟩, ⟨priority, 8, 4⟩] := words 0 (of_decide_eq_true rfl)
    have lo : w 2 = zones.lo := words 1 (of_decide_eq_true rfl)
    have hi : w 3 = zones.hi := words 2 (of_decide_eq_true rfl)
    obtain ⟨source, held⟩ := ansWord_fields (source := 2) (by decide) hp
    simp only [Command.code, parseCommand, parseAns]
    rw [one, lo, hi, source, held]
    rfl
  | ansGroup priority zones group =>
    simp only [Command.fits, Bool.and_eq_true, decide_eq_true_eq] at fits
    have one : w 1 = pack [⟨3, 0, 4⟩, ⟨priority, 8, 4⟩, ⟨group, 16, 8⟩] := words 0 (of_decide_eq_true rfl)
    have lo : w 2 = zones.lo := words 1 (of_decide_eq_true rfl)
    have hi : w 3 = zones.hi := words 2 (of_decide_eq_true rfl)
    obtain ⟨source, held, named⟩ := ansGroupWord_fields fits.1 fits.2
    simp only [Command.code, parseCommand, parseAns]
    rw [one, lo, hi, source, held, named]
    rfl
  | anx index =>
    have one : w 1 = BitVec.ofNat 32 index := words 0 (of_decide_eq_true rfl)
    simp only [Command.code, parseCommand]
    rw [one, toNat_ofNat_of_wordOk fits]
  | ict station group =>
    simp only [Command.fits, Bool.and_eq_true, decide_eq_true_eq] at fits
    have one : w 1 = pack [⟨station, 0, 8⟩, ⟨group, 8, 5⟩] := words 0 (of_decide_eq_true rfl)
    obtain ⟨talker, talked⟩ := talkWord_fields fits.1 fits.2
    simp only [Command.code, parseCommand]
    rw [one, talker, talked]
  | icl station groups =>
    have hs : station ≤ 255 := of_decide_eq_true fits
    have one : w 1 = pack [⟨station, 0, 8⟩] := words 0 (of_decide_eq_true rfl)
    have two : w 2 = groups := words 1 (of_decide_eq_true rfl)
    have listener : field (pack [⟨station, 0, 8⟩]) 0 8 = station :=
      field_pack (by simp only [sum_field_cons, sum_field_nil]; omega)
    simp only [Command.code, parseCommand]
    rw [one, two, listener]
  | svr zones =>
    have lo : w 1 = zones.lo := words 0 (of_decide_eq_true rfl)
    have hi : w 2 = zones.hi := words 1 (of_decide_eq_true rfl)
    simp only [Command.code, parseCommand]
    rw [lo, hi]
  | pin base length =>
    simp only [Command.fits, Bool.and_eq_true] at fits
    have one : w 1 = BitVec.ofNat 32 base := words 0 (of_decide_eq_true rfl)
    have two : w 2 = BitVec.ofNat 32 length := words 1 (of_decide_eq_true rfl)
    simp only [Command.code, parseCommand]
    rw [one, two, toNat_ofNat_of_wordOk fits.1, toNat_ofNat_of_wordOk fits.2]
  | unp entry =>
    have one : w 1 = BitVec.ofNat 32 entry := words 0 (of_decide_eq_true rfl)
    simp only [Command.code, parseCommand]
    rw [one, toNat_ofNat_of_wordOk fits]
  | rst scope =>
    have one : w 1 = BitVec.ofNat 32 scope := words 0 (of_decide_eq_true rfl)
    simp only [Command.code, parseCommand]
    rw [one, toNat_ofNat_of_wordOk fits]
  | cnc zones stations page =>
    have lo : w 1 = zones.lo := words 0 (of_decide_eq_true rfl)
    have hi : w 2 = zones.hi := words 1 (of_decide_eq_true rfl)
    have three : w 3 = stations := words 2 (of_decide_eq_true rfl)
    have four : w 4 = BitVec.ofNat 32 page := words 3 (of_decide_eq_true rfl)
    simp only [Command.code, parseCommand]
    rw [lo, hi, three, four, toNat_ofNat_of_wordOk fits]

/-- Settles O28: header, payload and trailer by their places in the record. -/
theorem recordReadsBackAsItsCommand : Obligations.RecordReadsBackAsItsCommand := by
  intro h c fits sequence w length
  obtain ⟨code, number, answer⟩ := headerWord_fields (length := c.payload.length) (answer := h.answer) (code_lt c) sequence
  have header : w 0 = headerWord c.code h.sequence h.answer c.payload.length := recordWords_header h c
  have trailer : w (length + 1) = (crc16 (headerWord c.code h.sequence h.answer c.payload.length :: c.payload)).setWidth 32 :=
    recordWords_trailer h c
  have body : (List.range (length + 1)).map w = headerWord c.code h.sequence h.answer c.payload.length :: c.payload :=
    recordWords_body h c
  refine ⟨payload_short c, length_recordWords h c, payloadLength_of_fits fits, ?_, ?_, ?_, ?_, ?_,
    parseCommand_payload fits fun k hk => recordWords_payload h hk⟩
  · rw [header, code]
  · rw [header, number]
  · rw [header, answer]
  · rw [header]
    exact payloadLengthOf_headerWord (Nat.le_trans (payload_short c) (by decide))
  · rw [trailer, body]
    have := (crc16 (headerWord c.code h.sequence h.answer c.payload.length :: c.payload)).isLt
    unfold field
    rw [BitVec.toNat_setWidth]
    omega

/-! ## A record that finds its engine BUSY (R28) -/

theorem parse_atTake {s : State} {h : CommandHead} {c : Command} (fits : c.fits = true) :
    parseCommand c.code (s.atTake h c).control.captured.get = some c :=
  parseCommand_payload fits fun _ hk => captured_payload hk (payload_short c)

/-- The BUSY answer to a heard record (R27, R28). -/
theorem record_busy {s : State} {h : CommandHead} {c : Command} (heard : s.hears h.host = true) (fits : c.fits = true)
    (busy : (s.atTake h c).control.busyFor c = true) : Host.Outcome.next (s.run fun s => s.writeRecord h c)
      = (.next ((s.atTake h c).afterTake h c .busy (some .busy)) : Answer) := by
  have checks := judgeTake_record (payloadLength_of_fits fits) (payload_short c) (parse_atTake (s := s) (h := h) fits)
  have taken := writeRecord_hears heard (payload_short c)
    (payloadLengthOf_headerWord (Nat.le_trans (payload_short c) (by decide)))
  rw [checks, busy] at taken
  exact congrArg Host.Outcome.next taken

/-! ## The checks (R27) -/

/-- A take by what its checks came to. -/
theorem take_of_judged {s : State} {j : Judgement}
    (judged : State.judgeTake { s with control := { s.control with freshHeader := false } } s.control.freshHeader = j) :
    s.take = { j.after with control := j.after.control.report s.control.header j.result j.error } := by
  rw [← judged]; rfl

theorem cells_take {n : Nat} [NeZero n] {α : Type} (b : Bank n α) {m : Nat} (hm : m ≤ n) :
    b.cells.take m = (List.range m).map b.get := by
  refine List.ext_getElem (by simp [b.size, hm]) fun i hi hi' => ?_
  rw [List.length_map, List.length_range] at hi'
  rw [List.getElem_take, List.getElem_map, List.getElem_range, Bank.get_eq_getElem _ _ (by omega)]

theorem crcGood_iff (c : ControlUnit) {length : Nat} (h : length ≤ 14) : c.crcGood length = true
    ↔ field (c.captured.get (length + 1)) 0 16 = (crc16 ((List.range (length + 1)).map c.captured.get)).toNat := by
  rw [ControlUnit.crcGood, beq_iff_eq, cells_take _ (by omega)]

theorem judgeTake_torn (s : State) : s.judgeTake false = { result := .rejected, error := some .tornSlot, after := s } := rfl

theorem judgeTake_long {s : State} (long : 14 < payloadLengthOf s.control.header) :
    s.judgeTake true = { result := .rejected, error := some .length, after := s } := if_pos long

theorem judgeTake_crc {s : State} (short : payloadLengthOf s.control.header ≤ 14)
    (bad : ¬ s.control.crcGood (payloadLengthOf s.control.header) = true) :
    s.judgeTake true = { result := .rejected, error := some .check, after := s } :=
  (if_neg (Nat.not_lt.mpr short)).trans (if_pos (by simpa using bad))

section passed

variable {s : State} (short : payloadLengthOf s.control.header ≤ 14)
  (good : s.control.crcGood (payloadLengthOf s.control.header) = true)
include short good

/-- A take that passes the first three checks (R27). -/
theorem judgeTake_unknown (unknown : parseCommand (field s.control.header 0 5) s.control.captured.get = none) :
    s.judgeTake true = { result := .rejected, error := some .code, after := s } := by
  refine (if_neg (Nat.not_lt.mpr short)).trans ((if_neg (by rw [good]; decide)).trans ?_)
  rw [unknown]

theorem judgeTake_known {c : Command} (known : parseCommand (field s.control.header 0 5) s.control.captured.get = some c) :
    s.judgeTake true = if s.control.busyFor c = true then { result := .busy, error := some .busy, after := s }
      else s.judgeCommand c (payloadLengthOf s.control.header) := by
  refine (if_neg (Nat.not_lt.mpr short)).trans ((if_neg (by rw [good]; decide)).trans ?_)
  rw [known]

end passed

theorem judgeCommand_length {s : State} {c : Command} {length : Nat} (other : c.payloadLength ≠ some length) :
    s.judgeCommand c length = { result := .refused .argument, error := some .refused, after := s } := if_neg other

theorem judgeCommand_refused {s : State} {c : Command} {length : Nat} {reason : Reason} (same : c.payloadLength = some length)
    (rule : s.ownRule c = .error reason) :
    s.judgeCommand c length = { result := .refused reason, error := some .refused, after := s } := by
  refine (if_pos same).trans ?_
  rw [rule]

theorem judgeCommand_accepted {s t : State} {c : Command} {length value : Nat} (same : c.payloadLength = some length)
    (rule : s.ownRule c = .ok (value, t)) :
    s.judgeCommand c length = { result := .accepted value, error := none, after := t } := by
  refine (if_pos same).trans ?_
  rw [rule]

theorem parseCommand_eq_none {code : Nat} {w : Nat → Word} (h : code = 0 ∨ 17 < code) : parseCommand code w = none := by
  unfold parseCommand
  split
  rotate_right
  · rfl
  all_goals omega

theorem busyFor_parseAns (u : ControlUnit) (w : Nat → Word) : u.busyFor (parseAns w) = u.busyStream := by
  unfold parseAns
  dsimp only
  split <;> rfl

theorem scopeBusy_iff (u : ControlUnit) (scope : Nat) : u.scopeBusy scope = true ↔ (scope = 1 ∧ u.busyStream = true)
    ∨ ((scope = 1 ∨ scope = 2) ∧ u.busyIntercom = true) ∨ ((scope = 1 ∨ scope = 3) ∧ u.busyShow = true) := by
  unfold ControlUnit.scopeBusy
  split
  · simp [or_assoc]
  · simp
  · simp
  · next one two three =>
    refine iff_of_false Bool.false_ne_true ?_
    rintro (⟨h, -⟩ | ⟨h | h, -⟩ | ⟨h | h, -⟩)
    exacts [one h, one h, two h, one h, three h]

/-- The engines of a command by its code, and of an RST by the scope in word 1 (R28, R43). -/
theorem busyFor_iff {u : ControlUnit} {code : Nat} {w : Nat → Word} {c : Command} (known : parseCommand code w = some c) :
    u.busyFor c = true ↔ ((code = 1 ∨ code = 2 ∨ code = 3) ∧ u.busyStream = true)
      ∨ ((code = 4 ∨ code = 5) ∧ u.busyIntercom = true)
      ∨ ((code = 10 ∨ code = 11 ∨ code = 12 ∨ code = 13) ∧ u.busyShow = true)
      ∨ (code = 16 ∧ (((w 1).toNat = 1 ∧ u.busyStream = true) ∨ (((w 1).toNat = 1 ∨ (w 1).toNat = 2) ∧ u.busyIntercom = true)
        ∨ (((w 1).toNat = 1 ∨ (w 1).toNat = 3) ∧ u.busyShow = true))) := by
  unfold parseCommand at known
  split at known
  all_goals cases known
  case h_1 => simp [busyFor_parseAns]
  case h_16 => simp [ControlUnit.busyFor, scopeBusy_iff]
  all_goals simp [ControlUnit.busyFor]

/-- Settles O27: each check by its lemma; the BUSY rows by the records read back. -/
theorem takeChecksInOrder : Obligations.TakeChecksInOrder := by
  refine ⟨fun s => ?_, fun s h heard => ?_⟩
  · intro header length u ends crcHolds code scope busy
    have judged {flag : Bool} {j : Judgement} (is : s.control.freshHeader = flag) (checks : u.judgeTake flag = j) :
        s.take = { j.after with control := j.after.control.report header j.result j.error } :=
      take_of_judged (by rw [is]; exact checks)
    have good (short : length ≤ 14) : u.control.crcGood length = true ↔ crcHolds := crcGood_iff _ short
    refine ⟨fun stale => ?_, fun fresh long => ?_, fun fresh short bad => ?_, fun fresh short crc => ⟨fun unknown => ?_,
      fun c known => ⟨fun taken => ?_, fun free other => ?_, fun free same => ⟨fun reason rule => ?_, fun value t rule => ?_⟩⟩⟩⟩
    · exact judged stale (judgeTake_torn u)
    · exact judged fresh (judgeTake_long (s := u) long)
    · exact judged fresh (judgeTake_crc (s := u) short (mt (good short).mp bad))
    · exact judged fresh (judgeTake_unknown (s := u) short ((good short).mpr crc) (parseCommand_eq_none unknown))
    all_goals
      have checks := judgeTake_known (s := u) short ((good short).mpr crc) known
      have engines : u.control.busyFor c = true ↔ busy := busyFor_iff known
    · exact judged fresh (checks.trans (if_pos (engines.mpr taken)))
    · exact judged fresh (checks.trans ((if_neg (mt engines.mp free)).trans (judgeCommand_length other)))
    · exact judged fresh (checks.trans ((if_neg (mt engines.mp free)).trans (judgeCommand_refused same rule)))
    · exact judged fresh (checks.trans ((if_neg (mt engines.mp free)).trans (judgeCommand_accepted same rule)))
  · intro found streamBusy intercomBusy showBusy
    refine ⟨fun busy => ⟨record_busy heard rfl busy, fun index word => record_busy heard word busy,
      fun priority zones source fits => ?_⟩, fun busy => ⟨fun station group hs hg => ?_, fun station groups hs => ?_⟩,
      fun busy => ⟨record_busy heard rfl busy, record_busy heard rfl busy, record_busy heard rfl busy, record_busy heard rfl busy⟩,
      fun busy => ?_, fun busy => record_busy heard rfl busy, fun busy => record_busy heard rfl busy⟩
    · cases source with
      | clip base periods repeats => exact record_busy heard fits busy
      | live => exact record_busy heard fits busy
      | group g => exact record_busy heard fits busy
    · exact record_busy heard (by simp [Command.fits, hs, hg]) busy
    · exact record_busy heard (decide_eq_true hs) busy
    · refine record_busy heard rfl ((scopeBusy_iff _ 1).mpr ?_)
      exact busy.imp (fun busy => ⟨rfl, busy⟩) (Or.imp (fun busy => ⟨.inl rfl, busy⟩) fun busy => ⟨.inl rfl, busy⟩)

end Sys2Proof.Machine
end

section
/-! SUPPORT. What the acts of the blocks leave of the control unit, and of the ranges of the clock unit and the counters. -/

namespace Sys2Proof.Machine

/-! ## The relation -/

/-- Two control units the same but for the busy flags and the pending notices, which the engines change (R39, R44). -/
def ControlUnit.SameButFlags (c d : ControlUnit) : Prop :=
  d = { c with busyStream := d.busyStream, busyIntercom := d.busyIntercom, busyShow := d.busyShow,
               pendingNotices := d.pendingNotices }

theorem ControlUnit.SameButFlags.trans {c d e : ControlUnit} (h : c.SameButFlags d) (k : d.SameButFlags e) :
    c.SameButFlags e := by
  unfold SameButFlags at *
  rw [k, h]

theorem ControlUnit.SameButFlags.errors {c d : ControlUnit} (h : c.SameButFlags d) : d.errors = c.errors := by
  rw [show d = _ from h]

theorem ControlUnit.SameButFlags.outcome {c d : ControlUnit} (h : c.SameButFlags d) : d.outcome = c.outcome := by
  rw [show d = _ from h]

theorem ControlUnit.SameButFlags.published {c d : ControlUnit} (h : c.SameButFlags d) : d.published = c.published := by
  rw [show d = _ from h]

/-- The counters of a zone are in their range (R37). -/
def ZoneEntry.CountsFit (e : ZoneEntry) : Prop := e.silentEvents ≤ 255 ∧ e.failingPeriods ≤ 255

theorem sameButFlags_of_notices {c d : ControlUnit} (h : d = { c with pendingNotices := d.pendingNotices }) :
    c.SameButFlags d := by
  obtain ⟨notices, rfl⟩ : ∃ notices, d = { c with pendingNotices := notices } := ⟨_, h⟩
  rfl

/-- An act that changes nothing of the control unit but flags, and takes no clock register and no counter out of its range. -/
structure Regular (s t : State) : Prop where
  control : s.control.SameButFlags t.control
  clock : ClockLaw s → ClockLaw t
  counters : CounterLaw s → CounterLaw t

theorem Regular.trans {s t u : State} (h : Regular s t) (k : Regular t u) : Regular s u :=
  ⟨h.control.trans k.control, k.clock ∘ h.clock, k.counters ∘ h.counters⟩

/-- An act of an engine that also makes no engine BUSY: only an RST does (R43). -/
structure Orderly (s t : State) : Prop extends Regular s t where
  unbusied : ∀ e, s.control.busy e = false → t.control.busy e = false

theorem Orderly.refl (s : State) : Orderly s s := ⟨⟨rfl, id, id⟩, fun _ => id⟩

theorem Orderly.trans {s t u : State} (h : Orderly s t) (k : Orderly t u) : Orderly s u :=
  ⟨h.toRegular.trans k.toRegular, fun e => k.unbusied e ∘ h.unbusied e⟩

/-- The clock registers are the clock unit's. -/
theorem clockLaw_of_clock {s t : State} (same : t.clock = s.clock) (h : ClockLaw s) : ClockLaw t := by
  obtain ⟨tickPhase, offRun, goodRun, tickCount, markCount, stepCount, run, synthesized, locked⟩ := h
  constructor <;> rw [same] <;> assumption

/-- The counters are the zones', the stations' and the page's. -/
theorem counterLaw_of_counters {s t : State} (zones : t.zones = s.zones) (stations : t.stations = s.stations)
    (dropped : t.page.dropped = s.page.dropped) (stray : t.page.strayCount = s.page.strayCount) (law : CounterLaw s) :
    CounterLaw t where
  silentEvents z hz := by rw [State.zone, zones]; exact law.silentEvents z hz
  failingPeriods z hz := by rw [State.zone, zones]; exact law.failingPeriods z hz
  torn n hn := by rw [State.station, stations]; exact law.torn n hn
  dropped := dropped ▸ law.dropped
  stray := stray ▸ law.stray

section acts

variable {s t : State} (h : Orderly s t)
include h

/-- An act that leaves the clock unit and every counter as they are. -/
theorem Orderly.quiet {u : State} (control : u.control = { t.control with pendingNotices := u.control.pendingNotices }) (clock : u.clock = t.clock)
    (zones : u.zones = t.zones) (stations : u.stations = t.stations) (dropped : u.page.dropped = t.page.dropped)
    (stray : u.page.strayCount = t.page.strayCount) : Orderly s u :=
  h.trans ⟨⟨sameButFlags_of_notices control, clockLaw_of_clock clock, counterLaw_of_counters zones stations dropped stray⟩,
    fun e idle => by rw [control]; cases e <;> exact idle⟩

theorem Orderly.zones {zones : Bank 64 ZoneEntry} (fit : ∀ z < 64, (t.zone z).CountsFit → (zones.get z).CountsFit) :
    Orderly s { t with zones := zones } :=
  h.trans ⟨⟨rfl, clockLaw_of_clock rfl, fun law =>
    { law with
      silentEvents := fun z hz => (fit z hz ⟨law.silentEvents z hz, law.failingPeriods z hz⟩).1
      failingPeriods := fun z hz => (fit z hz ⟨law.silentEvents z hz, law.failingPeriods z hz⟩).2 }⟩, fun _ => id⟩

theorem Orderly.mapZones {f : ZoneEntry → ZoneEntry} (fit : ∀ e, e.CountsFit → (f e).CountsFit) :
    Orderly s { t with zones := t.zones.map f } :=
  h.zones fun z hz ht => by rw [Bank.get_map f _ z hz]; exact fit _ ht

theorem Orderly.setZone {z : Nat} {e : ZoneEntry} (fit : (t.zone z).CountsFit → e.CountsFit) : Orderly s (t.setZone z e) :=
  h.zones fun y hy hv => by
    rw [Bank.get_set _ _ _ _ hy]
    split
    · next same => exact fit (same ▸ hv)
    · exact hv

theorem Orderly.stations {stations : Bank 32 StationRecord}
    (fit : ∀ n < 32, (t.station n).torn ≤ 255 → (stations.get n).torn ≤ 255) : Orderly s { t with stations := stations } :=
  h.trans ⟨⟨rfl, clockLaw_of_clock rfl, fun law => { law with torn := fun n hn => fit n hn (law.torn n hn) }⟩, fun _ => id⟩

theorem Orderly.mapStations {f : StationRecord → StationRecord} (same : ∀ r, (f r).torn = r.torn) :
    Orderly s { t with stations := t.stations.map f } :=
  h.stations fun n hn ht => by rw [Bank.get_map f _ n hn, same]; exact ht

theorem Orderly.setStation {n : Nat} {r : StationRecord} (fit : (t.station n).torn ≤ 255 → r.torn ≤ 255) :
    Orderly s (t.setStation n r) :=
  h.stations fun m hm hv => by
    rw [Bank.get_set _ _ _ _ hm]
    split
    · next same => exact fit (same ▸ hv)
    · exact hv

theorem Orderly.page {p : PageRingRecord} (dropped : t.page.dropped ≤ 255 → p.dropped ≤ 255)
    (stray : t.page.strayCount ≤ 255 → p.strayCount ≤ 255) : Orderly s { t with page := p } :=
  h.trans ⟨⟨rfl, clockLaw_of_clock rfl, fun law => { law with dropped := dropped law.dropped, stray := stray law.stray }⟩,
    fun _ => id⟩

theorem Orderly.setClock {c : ClockUnit} (fit : ClockLaw t → ClockLaw { t with clock := c }) :
    Orderly s { t with clock := c } :=
  h.trans ⟨⟨rfl, fit, fun law => { law with }⟩, fun _ => id⟩

/-! ## Acts every block uses -/

theorem Orderly.post (k : NoticeKind) : Orderly s (t.post k) := h.quiet rfl rfl rfl rfl rfl rfl

theorem Orderly.setShow (r : ShowRecord) : Orderly s (t.setShow r) := h.quiet rfl rfl rfl rfl rfl rfl

theorem Orderly.alarm (a : AlarmUnit) : Orderly s { t with alarm := a } := h.quiet rfl rfl rfl rfl rfl rfl

theorem Orderly.setStream (n : Nat) (r : StreamRecord) : Orderly s (t.setStream n r) := h.quiet rfl rfl rfl rfl rfl rfl

theorem Orderly.transit (u : TransitUnit) : Orderly s { t with transit := u } := h.quiet rfl rfl rfl rfl rfl rfl

theorem Orderly.setGroup (g : Nat) (r : GroupRecord) : Orderly s (t.setGroup g r) := h.quiet rfl rfl rfl rfl rfl rfl

theorem Orderly.releaseBusy : Orderly s t.releaseBusy := by
  refine h.trans ⟨⟨rfl, clockLaw_of_clock rfl, fun law => { law with }⟩, fun e idle => ?_⟩
  cases e with
  | stream => exact Bool.and_eq_false_iff.mpr (.inl idle)
  | intercom => exact idle
  | showEngine => exact Bool.and_eq_false_iff.mpr (.inl idle)

theorem Orderly.countedFrom (before : Nat) : Orderly s (t.countedFrom before) := by
  unfold State.countedFrom
  split
  · exact h.post _
  · exact h

/-- A loop of acts. -/
theorem Orderly.forEach {f : Nat → State → State} {ns : List Nat} (turns : ∀ n u, Orderly s u → Orderly s (f n u)) :
    Orderly s (t.forEach ns f) :=
  forEach_keeps (fun n _ u hu => turns n u hu) h

/-! ## The stream engine -/

theorem Orderly.noteEnded (n : Nat) (cause : EndCause) (owner : StreamOwner) : Orderly s (t.noteEnded n cause owner) := by
  unfold State.noteEnded
  split
  · exact h
  · exact h.quiet rfl rfl rfl rfl rfl rfl

theorem Orderly.endStream (cause : EndCause) (n : Nat) : Orderly s (t.endStream cause n) := by
  have withdrawn := fun r => (h.setStream n r).transit (t.transit.withdraw n)
  unfold State.endStream
  dsimp only
  split
  · refine Orderly.post (Orderly.noteEnded ?_ n cause _) .stream
    split
    · exact (withdrawn _).page id id
    · exact withdrawn _
  · exact h

theorem Orderly.endMany (cause : EndCause) (p : Nat → State → Prop) [∀ n s, Decidable (p n s)] :
    Orderly s (t.forEach (List.range 8) fun n s => if p n s then s.endStream cause n else s) :=
  h.forEach fun n u hu => by
    split
    · exact hu.endStream cause n
    · exact hu

theorem Orderly.endAll (cause : EndCause) : Orderly s (t.endAll cause) := h.forEach fun n _ hu => hu.endStream cause n

theorem Orderly.endShowStreams : Orderly s t.endShowStreams := h.endMany .stopped fun n u => (u.stream n).showOwned = true

theorem Orderly.endGroupStreams : Orderly s t.endGroupStreams :=
  h.endMany .restart fun n u => (u.stream n).source = .group ∧ (u.stream n).sounding = true

theorem Orderly.fetch (n : Nat) : Orderly s (t.fetch n) := by
  unfold State.fetch
  dsimp only
  split
  · exact h.quiet rfl rfl rfl rfl rfl rfl
  · exact h

theorem Orderly.bindZones (n : Nat) (zs : List Nat) : Orderly s (t.bindZones n zs) := by
  have bound : Orderly s (t.forEach zs (State.bindZone n)) := h.forEach fun z _ hu => hu.setZone id
  exact bound.endMany .preempted fun m u => m ≠ n ∧ u.zoneSetOf m = []

theorem Orderly.startStream (n : Nat) (owner : StreamOwner) (priority : Nat) (source : StartSource) (zs : List Nat) :
    Orderly s (t.startStream n owner priority source zs) := by
  have bound := (h.setStream n ((t.stream n).setUp owner priority source)).bindZones n zs
  cases source with
  | clip base periods repeats => exact bound.fetch n
  | live => exact bound.page id id
  | group g => exact bound

end acts

/-! ## The show engine -/

theorem countsFit_of_same {e f : ZoneEntry} (silent : f.silentEvents = e.silentEvents)
    (failing : f.failingPeriods = e.failingPeriods) (h : e.CountsFit) : f.CountsFit := by
  unfold ZoneEntry.CountsFit
  rwa [silent, failing]

theorem startRamp_counts (e : ZoneEntry) (target r : Nat) (h : e.CountsFit) : (e.startRamp target r).CountsFit := by
  unfold ZoneEntry.startRamp; split <;> exact h

theorem stepRamp_counts (e : ZoneEntry) (h : e.CountsFit) : e.stepRamp.CountsFit := by
  unfold ZoneEntry.stepRamp
  repeat' split
  all_goals exact h

theorem holdRamp_counts (e : ZoneEntry) (h : e.CountsFit) : e.holdRamp.CountsFit := by
  unfold ZoneEntry.holdRamp
  split
  · exact startRamp_counts e 0 24 h
  · exact h

theorem houseLevel_counts (e : ZoneEntry) (h : e.CountsFit) : e.houseLevel.CountsFit := by
  unfold ZoneEntry.houseLevel; split <;> exact h

section acts

variable {s t : State} (h : Orderly s t)
include h

theorem Orderly.houseLevels : Orderly s t.houseLevels := h.mapZones houseLevel_counts

theorem Orderly.rampZone (z target r : Nat) : Orderly s (t.setZone z ((t.zone z).startRamp target r)) :=
  h.setZone (startRamp_counts _ target r)

theorem Orderly.cueAction (n : Nat) (c : Cue) : Orderly s (t.cueAction n c).1 := by
  unfold State.cueAction
  cases c.action with
  | note => exact h
  | endShow => exact h
  | fade =>
    dsimp only [State.fade]
    split
    · exact h
    · exact h.forEach fun z _ hu => hu.rampZone z _ _
  | play =>
    dsimp only [State.play]
    repeat' split
    · exact h
    · exact h
    · exact h
    · next u started =>
      obtain ⟨m, -, -, rfl⟩ := startRequest_some started
      exact h.startStream m (.showCue n) 2 (.clip _ _ _) _
  | halt =>
    dsimp only [State.endCueStream]
    exact h.endMany .stopped fun m u => (u.stream m).owner = .showCue (field c.word3 0 8)

theorem Orderly.passCue (n : Nat) (notify : Bool) (st : CueState) : Orderly s (t.passCue n notify st) := by
  unfold State.passCue
  dsimp only
  split
  · exact ((h.setShow _).setShow _).post _
  · exact h.setShow _

theorem Orderly.endShow : Orderly s t.endShow := (h.endShowStreams.houseLevels.setShow _).post _

theorem Orderly.fireCue : Orderly s t.fireCue := by
  have passed := (h.cueAction t.theatre.pointer (t.theatre.cue t.theatre.pointer)).passCue t.theatre.pointer
    (t.theatre.cue t.theatre.pointer).notify (t.cueAction t.theatre.pointer (t.theatre.cue t.theatre.pointer)).2
  unfold State.fireCue
  dsimp only
  split
  · exact passed.endShow
  · exact passed

theorem Orderly.consider : Orderly s t.consider :=
  consider_keeps (fun _ hu => hu.fireCue) (fun _ hu => hu.passCue _ _ _) h

theorem Orderly.hold (cause : HoldCause) : Orderly s (t.hold cause) := ((h.mapZones holdRamp_counts).setShow _).post _

theorem Orderly.alarmHold : Orderly s t.alarmHold := by
  unfold State.alarmHold
  split
  · exact h.hold _
  · exact (h.setShow _).post _
  · exact h
  · exact h
  · exact h

theorem Orderly.clearShow : Orderly s t.clearShow := by
  unfold State.clearShow
  dsimp only
  split
  · exact (h.endShowStreams.houseLevels.setShow _).post _
  · exact h.endShowStreams.houseLevels.setShow _

theorem Orderly.streams (streams : Bank 8 StreamRecord) : Orderly s { t with streams := streams } :=
  h.quiet rfl rfl rfl rfl rfl rfl

theorem Orderly.resumeShow : Orderly s t.resumeShow := by
  have zones : ∀ snap, Orderly s (t.forEach (List.range 64) (State.resumeZone snap)) := fun snap =>
    h.forEach fun z u hu => by
      unfold State.resumeZone
      repeat' split
      · exact hu.rampZone z _ _
      · exact hu
      · exact hu
  unfold State.resumeShow
  dsimp only
  split
  · exact ((((zones _).setShow _).streams _).setShow _).post _
  · exact ((h.streams _).setShow _).post _

/-! ## The alarm unit and the intercom -/

theorem Orderly.evaluateFallback : Orderly s t.evaluateFallback := by
  unfold State.evaluateFallback
  split
  · exact h
  · exact h.alarm _

theorem Orderly.enterSounding (source : AlarmSource) : Orderly s (t.enterSounding source) := by
  unfold State.enterSounding
  exact (((h.alarm _).post .alarm).evaluateFallback.endAll .alarm).alarmHold

theorem Orderly.moveTalk (station : Nat) (new : Option Nat) : Orderly s (t.moveTalk station new) := by
  unfold State.moveTalk
  dsimp only
  repeat' split
  · exact h
  · exact h.setStation id
  · exact (h.setGroup _ _).setStation id

theorem Orderly.clearIntercom : Orderly s t.clearIntercom := by
  have stations := h.mapStations (f := StationRecord.restart) fun _ => rfl
  exact stations.quiet rfl rfl rfl rfl rfl rfl

end acts

/-! ## The command's own rule -/

/-- An RST makes the engines of its scope BUSY (R43). -/
theorem regular_setBusy (s : State) (stream intercom showEngine : Bool) : Regular s (s.setBusy stream intercom showEngine) :=
  ⟨rfl, clockLaw_of_clock rfl, fun law => { law with }⟩

theorem restartAll_regular (s : State) : Regular s s.restartAll :=
  (regular_setBusy s true true true).trans
    ((Orderly.refl _).endAll .restart).clearIntercom.clearShow.releaseBusy.toRegular

theorem restartIntercom_regular (s : State) : Regular s s.restartIntercom :=
  (regular_setBusy s false true false).trans (Orderly.refl _).endGroupStreams.clearIntercom.toRegular

theorem restartShow_regular (s : State) : Regular s s.restartShow :=
  (regular_setBusy s false false true).trans (Orderly.refl _).clearShow.releaseBusy.toRegular

/-- An accepted command (R27): its effects are in the blocks' state alone (R31). -/
theorem ownRule_regular {s t : State} {cmd : Command} {value : Nat} (rule : s.ownRule cmd = .ok (value, t)) :
    Regular s t := by
  have refl := Orderly.refl s
  have ans : ∀ {priority : Nat} {source : StartSource} {zones : ZoneSet},
      s.takeAns priority source zones = .ok (value, t) → Regular s t := fun started => by
    obtain ⟨n, -, -, -, rfl⟩ := takeAns_ok started
    exact Orderly.toRegular (refl.startStream _ _ _ _ _)
  cases cmd with
  | ansClip priority zones base periods repeats => exact ans rule
  | ansLive priority zones => exact ans rule
  | ansGroup priority zones group => exact ans rule
  | ansNone => cases rule
  | anx index =>
    simp only [State.ownRule, State.takeAnx] at rule
    repeat' split at rule
    all_goals cases rule
    exact Orderly.toRegular (refl.endStream _ _)
  | pgc =>
    simp only [State.ownRule, State.takePgc] at rule
    split at rule
    · cases rule
    · cases rule
      exact Orderly.toRegular (refl.quiet rfl rfl rfl rfl rfl rfl)
  | ict station group =>
    simp only [State.ownRule, State.takeIct] at rule
    split at rule
    · cases rule
    · cases rule
      exact Orderly.toRegular (refl.moveTalk station (talkOf group))
  | icl station groups =>
    simp only [State.ownRule, State.takeIcl] at rule
    split at rule
    · cases rule
    · cases rule
      exact Orderly.toRegular (refl.setStation id)
  | als =>
    simp only [State.ownRule, State.takeAls] at rule
    split at rule
    · cases rule
    · cases rule
      exact Orderly.toRegular (refl.enterSounding _)
  | asi =>
    simp only [State.ownRule, State.takeAsi] at rule
    split at rule
    · cases rule
      exact Orderly.toRegular (refl.alarm _)
    · cases rule
  | aen =>
    simp only [State.ownRule, State.takeAen] at rule
    split at rule
    · cases rule
    · cases rule
      exact Orderly.toRegular ((refl.alarm _).post _)
  | svr zones =>
    simp only [State.ownRule, State.takeSvr] at rule
    split at rule
    · cases rule
    · cases rule
      exact Orderly.toRegular (refl.forEach fun z u hu => hu.setZone (e := (u.zone z).unsupervised) id)
  | shg =>
    simp only [State.ownRule, State.takeShg] at rule
    repeat' split at rule
    all_goals cases rule
    · exact Orderly.toRegular ((refl.setShow _).post _).consider
    · exact refl.fireCue.consider.toRegular
  | shh =>
    simp only [State.ownRule, State.takeShh] at rule
    split at rule
    · cases rule
      exact Orderly.toRegular ((refl.hold _).streams _)
    · cases rule
  | shr =>
    simp only [State.ownRule, State.takeShr] at rule
    repeat' split at rule
    all_goals cases rule
    exact refl.resumeShow.consider.toRegular
  | shs =>
    simp only [State.ownRule, State.takeShs] at rule
    split at rule
    · cases rule
    · cases rule
      exact refl.clearShow.toRegular
  | pin base length =>
    simp only [State.ownRule, State.takePin] at rule
    repeat' split at rule
    all_goals cases rule
    exact Orderly.toRegular (refl.transit _)
  | unp entry =>
    simp only [State.ownRule, State.takeUnp] at rule
    repeat' split at rule
    all_goals cases rule
    exact Orderly.toRegular (refl.transit _)
  | rst scope =>
    simp only [State.ownRule, State.takeRst] at rule
    repeat' split at rule
    all_goals cases rule
    · exact restartAll_regular s
    · exact restartIntercom_regular s
    · exact restartShow_regular s
  | cnc zones stations page =>
    simp only [State.ownRule, State.takeCnc] at rule
    split at rule
    · cases rule
    · cases rule
      have zonesCleared := refl.zones (zones := clearMembers s.zones (zoneIn zones) ZoneEntry.clearCounters)
        fun z hz fit => by
          rw [clearMembers, Bank.get_ofFn _ z hz]
          split
          · exact ⟨Nat.zero_le _, Nat.zero_le _⟩
          · exact fit
      have stationsCleared := zonesCleared.stations
        (stations := clearMembers s.stations (flag stations) StationRecord.clearTorn) fun n hn fit => by
          rw [clearMembers, Bank.get_ofFn _ n hn]
          split
          · exact Nat.zero_le _
          · exact fit
      refine (stationsCleared.page ?_ ?_).toRegular
      · intro fit; split
        · exact Nat.zero_le _
        · exact fit
      · intro fit; split
        · exact Nat.zero_le _
        · exact fit

end Sys2Proof.Machine
end

section
/-! SUPPORT. What a take comes to (R27), and what its report leaves (R30, R31). -/

namespace Sys2Proof.Machine

/-- What the checks of a take on `s` come to: the command accepted, or an answer with a flag and the state as it was (R27). -/
inductive Judged (s : State) : Judgement → Prop
  | accepted {cmd : Command} {value : Nat} {t : State} (rule : s.ownRule cmd = .ok (value, t)) :
    Judged s { result := .accepted value, error := none, after := t }
  | other {result : TakeResult} {f : ErrorFlag} (other : ∀ value, result ≠ .accepted value) :
    Judged s { result := result, error := some f, after := s }

theorem judgeCommand_judged (s : State) (cmd : Command) (length : Nat) : Judged s (s.judgeCommand cmd length) := by
  unfold State.judgeCommand
  split
  · split
    · next rule => exact .accepted rule
    · exact .other nofun
  · exact .other nofun

theorem judgeTake_judged (s : State) (fresh : Bool) : Judged s (s.judgeTake fresh) := by
  unfold State.judgeTake
  dsimp only
  split
  · exact .other nofun
  split
  · exact .other nofun
  split
  · exact .other nofun
  split
  · exact .other nofun
  split
  · exact .other nofun
  · exact judgeCommand_judged _ _ _

/-! ## The report -/

theorem errorFlag_index_lt (f : ErrorFlag) : f.index < 10 := by cases f <;> decide

theorem errorFlag_index_inj {f g : ErrorFlag} : f.index = g.index ↔ f = g := by
  revert f g
  exact fun {f g} => by cases f <;> cases g <;> decide

theorem addError_errors (c : ControlUnit) (f g : ErrorFlag) :
    (c.addError f).errors.get g.index = true ↔ c.errors.get g.index = true ∨ f = g := by
  unfold ControlUnit.addError
  rw [Bank.get_set _ _ _ _ (errorFlag_index_lt g)]
  split
  · next same => exact iff_of_true rfl (.inr (errorFlag_index_inj.mp same))
  · next differ => exact (or_iff_left (mt errorFlag_index_inj.mpr differ)).symm

theorem addFlag_errors (c : ControlUnit) (e : Option ErrorFlag) (f : ErrorFlag) :
    (c.addFlag e).errors.get f.index = true ↔ c.errors.get f.index = true ∨ e = some f := by
  cases e with
  | none => exact (or_iff_left nofun).symm
  | some g => exact (addError_errors c g f).trans (or_congr_right (Option.some_inj.symm))

theorem addFlag_rest (c : ControlUnit) (e : Option ErrorFlag) : c.addFlag e = { c with errors := (c.addFlag e).errors } := by
  cases e <;> rfl

theorem report_answered {c : ControlUnit} {header : Word} (answered : header.getLsbD 16 = true) (result : TakeResult)
    (e : Option ErrorFlag) : c.report header result e = (c.addFlag e).publish header result := if_pos answered

theorem report_unanswered {c : ControlUnit} {header : Word} (unanswered : header.getLsbD 16 = false) (result : TakeResult)
    (e : Option ErrorFlag) : c.report header result e = c.addFlag e :=
  if_neg (by rw [flag, unanswered]; exact Bool.false_ne_true)

/-- Whatever a take comes to is the act of an engine, or nothing. -/
theorem Judged.regular {s : State} {j : Judgement} (h : Judged s j) : Regular s j.after := by
  cases h with
  | accepted rule => exact ownRule_regular rule
  | other => exact (Orderly.refl s).toRegular

theorem Judged.error_eq_none_iff {s : State} {j : Judgement} (h : Judged s j) :
    j.error = none ↔ ∃ value, j.result = .accepted value := by
  cases h with
  | accepted rule => exact iff_of_true rfl ⟨_, rfl⟩
  | other other => exact iff_of_false nofun fun ⟨value, same⟩ => other value same

theorem Judged.after_of_not_accepted {s : State} {j : Judgement} (h : Judged s j)
    (refused : ∀ value, j.result ≠ .accepted value) : j.after = s := by
  cases h with
  | accepted rule => exact absurd rfl (refused _)
  | other => rfl

/-- The state a take's checks see: the fresh-header flag is clear (R26). -/
def State.stale (s : State) : State := { s with control := { s.control with freshHeader := false } }

theorem take_eq (s : State) : s.take = { (s.stale.judgeTake s.control.freshHeader).after with
    control := (s.stale.judgeTake s.control.freshHeader).after.control.report s.control.header
      (s.stale.judgeTake s.control.freshHeader).result (s.stale.judgeTake s.control.freshHeader).error } := rfl

/-- An answered take (R30). -/
theorem take_answered {s : State} (answered : s.control.header.getLsbD 16 = true) :
    s.take.control = ((s.stale.judgeTake s.control.freshHeader).after.control.addFlag
      (s.stale.judgeTake s.control.freshHeader).error).publish s.control.header
      (s.stale.judgeTake s.control.freshHeader).result := report_answered answered _ _

/-- An unanswered take (R31). -/
theorem take_unanswered {s : State} (unanswered : s.control.header.getLsbD 16 = false) :
    s.take.control = (s.stale.judgeTake s.control.freshHeader).after.control.addFlag
      (s.stale.judgeTake s.control.freshHeader).error := report_unanswered unanswered _ _

/-- The accumulator with a take's flag: the command's effects leave the accumulator alone (R31). -/
theorem Judged.errors_iff {s : State} {j : Judgement} (h : Judged s j) (f : ErrorFlag) :
    (j.after.control.addFlag j.error).errors.get f.index = true ↔ s.control.errors.get f.index = true ∨ j.error = some f := by
  rw [addFlag_errors, h.regular.control.errors]

end Sys2Proof.Machine
end

section
/-! PROOFS. The publication of a take. -/

namespace Sys2Proof.Machine

/-- Settles O26: an engine's act changes only flags of the control unit (`Judged.regular`), so what a take adds to the accumulator,
publishes and posts is its report's. -/
theorem takePublishesOnlyWhenAnswered : Obligations.TakePublishesOnlyWhenAnswered := by
  unfold Obligations.TakePublishesOnlyWhenAnswered
  refine ⟨fun s answered => ?_, fun s unanswered => ?_⟩
  · have judged := judgeTake_judged s.stale s.control.freshHeader
    have control := take_answered answered
    refine ⟨?_, judged.error_eq_none_iff, fun f => ?_, fun f => ?_, ?_, rfl⟩
    · rw [control]; rfl
    · rw [control]; exact judged.errors_iff f
    · rw [control]; exact Bank.get_fill _ _ (errorFlag_index_lt f)
    · rw [control]; exact Bank.get_set_self _ _ _ (by decide)
  · have judged := judgeTake_judged s.stale s.control.freshHeader
    have control := (take_unanswered unanswered).trans (addFlag_rest _ _)
    have kept := judged.regular.control
    refine ⟨?_, ?_, fun f => ?_, ?_, fun refused => ?_, rfl⟩
    · rw [control]; exact kept.outcome
    · rw [control]; exact kept.published
    · rw [take_unanswered unanswered]; exact judged.errors_iff f
    · rw [control]; rfl
    · rw [control]
      exact congrArg (·.control.pendingNotices) (judged.after_of_not_accepted refused)

end Sys2Proof.Machine
end

section
/-! SUPPORT. What a tick, the clock unit, the offered words and the table writes leave of the ranges of the clock unit and the
counters. -/

namespace Sys2Proof.Machine

section acts

variable {s t : State} (h : Orderly s t)
include h

/-! ## The stream engine at a tick -/

theorem Orderly.pageWatch (n : Nat) : Orderly s (t.pageWatch n) := by
  unfold State.pageWatch
  dsimp only
  repeat' split
  · exact (h.setStream _ _).endStream _ _
  · exact h.setStream _ _
  · exact h

theorem Orderly.freeIfDrained (n : Nat) : Orderly s (t.freeIfDrained n) := by
  unfold State.freeIfDrained
  dsimp only
  split
  · exact h.setStream _ _
  · exact h

theorem Orderly.tickStarting (n : Nat) : Orderly s (t.tickStarting n) := by
  unfold State.tickStarting
  dsimp only
  split
  · exact (h.setStream _ _).endStream _ _
  · exact (h.setStream _ _).pageWatch _

theorem Orderly.tickPlaying (n : Nat) : Orderly s (t.tickPlaying n) := by
  unfold State.tickPlaying
  dsimp only
  split
  · exact (h.setStream _ _).endStream _ _
  · exact (((h.setStream _ _).setStream _ _).pageWatch _).fetch _

theorem Orderly.unbindAll (n : Nat) : Orderly s (t.unbindAll n) :=
  h.mapZones fun e fit => by
    split
    · exact fit
    · exact fit

theorem Orderly.tickRecord (before : State) (n : Nat) : Orderly s (State.tickRecord before n t) := by
  unfold State.tickRecord
  split
  · exact h
  · split
    · exact h.tickStarting n
    · exact h
  · exact h.tickPlaying n
  · exact h
  · split
    · exact ((h.setStream _ _).unbindAll n).freeIfDrained n
    · exact h

theorem Orderly.streamTick (before : State) : Orderly s (State.streamTick before t) :=
  (h.forEach fun n _ hu => hu.tickRecord before n).releaseBusy

/-! ## The intercom engine at a tick -/

theorem Orderly.offerPeriod (g : Nat) (samples : Bank 48 Word) (n : Nat) : Orderly s (State.offerPeriod g samples n t) := by
  unfold State.offerPeriod
  dsimp only
  split
  · split
    · exact h.quiet rfl rfl rfl rfl rfl rfl
    · exact h.setStream _ _
  · exact h

theorem Orderly.offerGroup (g : Nat) : Orderly s (State.offerGroup g t) := by
  unfold State.offerGroup
  split
  · exact h.forEach fun n _ hu => hu.offerPeriod g _ n
  · exact h

theorem Orderly.intercomFree : Orderly s { t with control := { t.control with busyIntercom := false } } := by
  refine h.trans ⟨⟨rfl, clockLaw_of_clock rfl, fun law => { law with }⟩, fun e idle => ?_⟩
  cases e with
  | stream => exact idle
  | intercom => rfl
  | showEngine => exact idle

theorem Orderly.intercomTick : Orderly s t.intercomTick := by
  have stations := h.mapStations (f := StationRecord.swap) fun r => by unfold StationRecord.swap; split <;> rfl
  have swapped : Orderly s t.swapIntercom := stations.quiet rfl rfl rfl rfl rfl rfl
  have offered := swapped.forEach (ns := List.range 16) fun g _ hu => hu.offerGroup g
  unfold State.intercomTick
  exact offered.intercomFree

/-! ## The alarm unit and the show engine at a tick -/

theorem Orderly.silenceRequest : Orderly s t.silenceRequest := by
  unfold State.silenceRequest
  split
  · exact h.alarm _
  · exact h

theorem Orderly.soundRequest : Orderly s t.soundRequest := by
  unfold State.soundRequest
  dsimp only
  split
  · exact h.alarm _
  · exact (h.alarm _).enterSounding _

theorem Orderly.seeLine : Orderly s t.seeLine := by
  unfold State.seeLine
  split
  · exact h.alarm _
  · exact h.silenceRequest
  · exact h
  · exact h
  · exact Orderly.soundRequest (h.alarm _)
  · exact (h.alarm _).alarm _
  · exact h.silenceRequest
  · exact h
  · exact h.alarm _
  · exact h.silenceRequest
  · exact h
  · exact h

theorem Orderly.decoderStep : Orderly s t.decoderStep := by
  have held : Orderly s t.countHold := by
    unfold State.countHold
    dsimp only
    repeat' split
    · exact (h.alarm _).seeLine
    · exact h.alarm _
    · exact h
  unfold State.decoderStep State.countWindow
  dsimp only
  repeat' split
  · exact (held.alarm _).alarm _
  · exact held.alarm _
  · exact held

omit h in
theorem stepWatch_counts (e : ZoneEntry) (h : e.CountsFit) : e.stepWatch.CountsFit := by
  unfold ZoneEntry.stepWatch
  repeat' split
  · exact ⟨bump_le _ h.1, h.2⟩
  · exact h
  · exact h

theorem Orderly.postSilents (es : List ZoneEntry) : Orderly s (es.foldl (fun t e => State.postSilent e t) t) := by
  induction es generalizing t with
  | nil => exact h
  | cons e es ih =>
    refine ih ?_
    dsimp only [State.postSilent]
    split
    · exact (h.post _).countedFrom _
    · exact h

theorem Orderly.watchStep : Orderly s t.watchStep := by
  have watched := (h.mapZones stepWatch_counts).postSilents t.zones.cells
  unfold State.watchStep
  dsimp only
  split
  · exact watched.evaluateFallback
  · exact watched

theorem Orderly.alarmTick : Orderly s t.alarmTick := by
  refine Orderly.decoderStep (Orderly.watchStep ?_)
  unfold State.patternStep
  split
  · exact h.alarm _
  · exact h

theorem Orderly.showTick : Orderly s t.showTick := ((h.mapZones stepRamp_counts).setShow _).consider

/-! ## The clock unit -/

theorem Orderly.blockTick (before : State) (b : TickBlock) : Orderly s (State.blockTick before t b) := by
  cases b with
  | stream => exact h.streamTick before
  | intercom => exact h.intercomTick
  | alarm => exact h.alarmTick
  | showEngine => exact h.showTick

theorem Orderly.makeTick (order : TickOrder) : Orderly s (t.makeTick order) :=
  makeTick_keeps (fun before _ b hu => hu.blockTick before b)
    (h.setClock fun law => { law with tickCount := Nat.mod_lt _ (by decide) })

theorem Orderly.setLock (lock : LockState) : Orderly s (t.setLock lock) := by
  unfold State.setLock
  refine Orderly.post ?_ _
  exact h.setClock fun law => { law with }

theorem Orderly.markEvent : Orderly s t.markEvent := by
  unfold State.markEvent
  exact Orderly.consider (h.setClock fun law => { law with markCount := Nat.mod_lt _ (by decide) })

theorem Orderly.takeReference : Orderly s t.takeReference := h.setClock fun law => { law with stepCount := Nat.zero_le _ }

theorem Orderly.unsynthesized : Orderly s { t with clock := { t.clock with synthesized := 0 } } :=
  h.setClock fun law => { law with synthesized := (by decide : 0 < 24) }

theorem Orderly.countStep : Orderly s { t with clock := t.clock.countStep } :=
  h.setClock fun law => { law with
    stepCount := by
      show (if t.clock.stepCount < 65535 then t.clock.stepCount + 1 else 65535) ≤ 65535
      split <;> omega }

theorem Orderly.expireLock : Orderly s t.expireLock := by
  unfold State.expireLock
  exact Orderly.markEvent ((h.setLock .holdover).setClock fun law => { law with
    synthesized := (by decide : 1 < 24), stepCount := (by decide : 16 ≤ 65535) })

theorem Orderly.closeWindow : Orderly s t.closeWindow := by
  unfold State.closeWindow
  dsimp only
  split
  · exact ((h.setLock .free).unsynthesized).markEvent
  · next more =>
    exact Orderly.markEvent (h.setClock fun law => { law with
      synthesized := Nat.lt_of_le_of_ne law.synthesized more, stepCount := (by decide : 16 ≤ 65535) })

theorem Orderly.measureStep : Orderly s t.measureStep := by
  have counted := h.countStep
  unfold State.measureStep
  dsimp only
  repeat' split
  · exact counted
  · exact counted
  · exact counted.expireLock
  · exact counted
  · exact counted.closeWindow
  · exact counted

omit h in
/-- An acquisition run grows by one at most, and by a mark whose interval is in the range of R76 only. -/
theorem acquire_run (c : ClockUnit) (interval : Nat) :
    (c.acquire interval).acquisitionRun = 0
      ∨ ((c.acquire interval).acquisitionRun ≤ c.acquisitionRun + 1 ∧ 800 ≤ interval ∧ interval ≤ 2000) := by
  unfold ClockUnit.acquire
  split
  · exact .inl rfl
  · next range =>
    refine .inr ⟨?_, by omega, by omega⟩
    split
    · exact Nat.le_refl _
    · exact Nat.le_add_left 1 _

omit h in
theorem acquire_rest (c : ClockUnit) (interval : Nat) :
    c.acquire interval = { c with acquisitionRun := (c.acquire interval).acquisitionRun,
                                  previousInterval := (c.acquire interval).previousInterval } := by
  unfold ClockUnit.acquire
  repeat' split
  all_goals rfl

theorem Orderly.acquireMark : Orderly s t.acquireMark := by
  have run := acquire_run t.clock t.clock.stepCount
  unfold State.acquireMark
  dsimp only
  rw [acquire_rest]
  split
  · next six =>
    have range : 800 ≤ t.clock.stepCount ∧ t.clock.stepCount ≤ 2000 := by
      have six : (t.clock.acquire t.clock.stepCount).acquisitionRun = 6 := six
      omega
    refine Orderly.setLock ?_ .locked
    exact h.setClock fun law => { law with acquisitionRun := (by decide : 0 < 6), lockedInterval := .inr range }
  · next other =>
    refine h.setClock fun law => { law with acquisitionRun := ?_ }
    have old := law.acquisitionRun
    have other : (t.clock.acquire t.clock.stepCount).acquisitionRun ≠ 6 := other
    show (t.clock.acquire t.clock.stepCount).acquisitionRun < 6
    omega

theorem Orderly.realMark : Orderly s t.realMark := by
  unfold State.realMark
  dsimp only
  repeat' split
  · exact Orderly.markEvent (Orderly.takeReference ((h.setLock .acquiring).setClock fun law => { law with
      acquisitionRun := (by decide : 0 < 6) }))
  · exact h.acquireMark.takeReference.markEvent
  · exact (h.setLock .holdover).unsynthesized.takeReference.markEvent
  · exact h.takeReference.markEvent
  · exact h
  · exact (h.setLock .locked).unsynthesized.takeReference.markEvent

theorem Orderly.creditSteps (n : Nat) (order : Interleave) : Orderly s (t.creditSteps n order) :=
  creditSteps_keeps (fun _ hu => hu.measureStep) (fun _ o hu => hu.makeTick o)
    (h.setClock fun law => { law with tickPhase := Nat.mod_lt _ (by decide) })

theorem Orderly.loseLine : Orderly s t.loseLine := by
  unfold State.loseLine
  refine Orderly.post ?_ _
  exact h.setClock fun law => { law with offRun := (by decide : 0 < 48), goodRun := (by decide : 0 < 480) }

theorem Orderly.monitorLine (gap : Nat) : Orderly s (t.monitorLine gap) := by
  unfold State.monitorLine
  repeat' split
  · exact h.setClock fun law => { law with offRun := (by decide : 0 < 48) }
  · exact h.loseLine
  · next more => exact h.setClock fun law => { law with offRun := Nat.lt_of_le_of_ne law.offRun more }

theorem Orderly.monitorReference (gap : Nat) : Orderly s (t.monitorReference gap) := by
  unfold State.monitorReference State.takeLine
  repeat' split
  · refine Orderly.post ?_ _
    exact h.setClock fun law => { law with offRun := (by decide : 0 < 48), goodRun := (by decide : 0 < 480) }
  · next more => exact h.setClock fun law => { law with goodRun := Nat.lt_of_le_of_ne law.goodRun more }
  · exact h.setClock fun law => { law with goodRun := (by decide : 0 < 480) }

theorem Orderly.clockEdge (gap : Nat) (order : Interleave) : Orderly s (t.clockEdge gap order) := by
  unfold State.clockEdge
  repeat' split
  · exact h
  · exact (h.creditSteps 1 order).monitorLine gap
  · exact h.monitorReference gap

theorem Orderly.referenceStep (order : Interleave) : Orderly s (t.referenceStep order) := by
  unfold State.referenceStep
  split
  · exact h
  · exact h.creditSteps 1 order

theorem Orderly.expireGap (order : Interleave) : Orderly s (t.expireGap order) := by
  unfold State.expireGap
  split
  · exact h
  · exact (h.creditSteps 3 order).loseLine

theorem Orderly.showPulse : Orderly s t.showPulse := by
  unfold State.showPulse
  split
  · exact h
  · exact h.realMark

theorem Orderly.changePanel (a b : Bool) : Orderly s (t.changePanel a b) := by
  unfold State.changePanel
  split
  · exact h
  · exact h.quiet rfl rfl rfl rfl rfl rfl

/-! ## Words offered to the engines -/

theorem Orderly.dropPeriod (n : Nat) : Orderly s (t.dropPeriod n) := by
  unfold State.dropPeriod
  refine Orderly.countedFrom ?_ _
  exact (h.setStream _ _).page (bump_le _) id

theorem Orderly.newPagePeriod (n p : Nat) (word : Word) : Orderly s (t.newPagePeriod n p word) := by
  unfold State.newPagePeriod
  dsimp only
  split
  · exact h.quiet rfl rfl rfl rfl rfl rfl
  · exact h.dropPeriod n

theorem Orderly.offerPage (offset : Nat) (word : Word) : Orderly s (t.offerPage offset word) := by
  unfold State.offerPage State.pageStray State.pageStart State.pageSample
  dsimp only
  repeat' split
  · refine Orderly.countedFrom ?_ _
    exact h.page id (bump_le _)
  · exact h
  · exact h.setStream _ _
  · exact h.newPagePeriod _ _ _
  · refine Orderly.newPagePeriod ?_ _ _ _
    exact ((h.setStream _ _).dropPeriod _).page id id
  · exact h.quiet rfl rfl rfl rfl rfl rfl
  · exact h.setStream _ _
  · exact h

omit h in
theorem score_counts (e : ZoneEntry) (i : Nat) (w : WriteWord) (h : e.CountsFit) : (e.score i w).CountsFit := by
  unfold ZoneEntry.score; split <;> exact h

omit h in
theorem runs_counts (e : ZoneEntry) (pass : Bool) (h : e.CountsFit) : (e.runs pass).CountsFit := by
  unfold ZoneEntry.runs; split <;> exact h

omit h in
theorem closePeriod_counts (e : ZoneEntry) (threshold : Nat) (h : e.CountsFit) : (e.closePeriod threshold).CountsFit := by
  have run := runs_counts e (e.passes threshold) h
  unfold ZoneEntry.closePeriod
  refine ⟨run.1, ?_⟩
  dsimp only
  split
  · exact bump_le _ h.2
  · exact h.2

theorem Orderly.closeSense (z : Nat) : Orderly s (t.closeSense z) := by
  have stored := h.setZone (closePeriod_counts (t.zone z) t.control.passThreshold)
  unfold State.closeSense
  dsimp only
  repeat' split
  · exact ((stored.countedFrom _).post _).evaluateFallback
  · exact (stored.post _).evaluateFallback
  · exact stored.countedFrom _
  · exact stored

theorem Orderly.offerSense (z offset : Nat) (w : WriteWord) : Orderly s (t.offerSense z offset w) := by
  have scored := h.setZone (score_counts (t.zone z) (offset % 48) w)
  unfold State.offerSense
  dsimp only
  repeat' split
  · exact h
  · exact scored.closeSense z
  · exact scored

theorem Orderly.offerMic (n offset : Nat) (w : WriteWord) : Orderly s (t.offerMic n offset w) := by
  unfold State.offerMic
  repeat' split
  · exact h
  · exact h
  · exact (h.setGroup _ _).setStation id
  · exact (h.setStation (bump_le _)).countedFrom _

/-! ## Responses -/

theorem Orderly.ownResponse (k : Nat) (r : OwnRequest) (status : MemStatus) (words : List Word) :
    Orderly s (t.ownResponse k r status words) := by
  have freed := h.transit { t.transit with ownTags := t.transit.ownTags.set k none }
  unfold State.ownResponse State.ownData
  dsimp only
  repeat' split
  · exact freed.endStream _ _
  · exact (freed.setStream _ _).fetch _
  · exact (freed.freeIfDrained _).releaseBusy

end acts

end Sys2Proof.Machine
end

section
/-! SUPPORT. The ranges of the clock unit and the counters through the table writes, the two ports and every work. -/

namespace Sys2Proof.Machine

/-! ## Table writes -/

theorem writeZoneShape_orderly {s t : State} {z : Nat} {data : Word} (written : s.writeZoneShape z data = some t) :
    Orderly s t := by
  have refl := Orderly.refl s
  unfold State.writeZoneShape State.mapZone State.unmapZone at written
  dsimp only at written
  split at written
  · split at written
    · cases written; exact refl.setZone id
    · cases written
  · split at written
    · cases written
      refine Orderly.setShow ?_ _
      exact refl.setZone id
    · cases written
  · cases written
  · split at written
    · cases written
      refine Orderly.setShow ?_ _
      exact refl.setZone id
    · cases written

theorem followProgram_counts (e : ZoneEntry) (settled : Bool) (h : e.CountsFit) : (e.followProgram settled).CountsFit := by
  unfold ZoneEntry.followProgram
  split <;> exact h

theorem writeZone_orderly {s t : State} {z w : Nat} {data : Word} (written : s.writeZone z w data = some t) :
    Orderly s t := by
  have refl := Orderly.refl s
  unfold State.writeZone State.writeProgram State.writeOverlay State.writePriority State.writePilot at written
  split at written
  · exact writeZoneShape_orderly written
  · split at written
    · cases written; exact refl.setZone id
    · cases written
  · split at written
    · cases written; exact refl.setZone id
    · cases written
  · split at written
    · cases written
      exact refl.setZone fun fit => followProgram_counts _ _ fit
    · cases written
  · split at written
    · cases written; exact refl.setZone id
    · cases written
  · split at written
    · cases written
      refine Orderly.evaluateFallback ?_
      exact refl.setZone id
    · cases written
  · cases written; exact refl.setZone id
  · cases written

theorem writeStation_orderly {s t : State} {n w : Nat} {data : Word} (written : s.writeStation n w data = some t) :
    Orderly s t := by
  have refl := Orderly.refl s
  unfold State.writeStation State.writeStationShape State.activateStation State.deactivateStation at written
  dsimp only at written
  repeat' split at written
  all_goals cases written
  all_goals exact refl.setStation id

theorem writeGroup_orderly {s t : State} {g w : Nat} {data : Word} (written : s.writeGroup g w data = some t) :
    Orderly s t := by
  have refl := Orderly.refl s
  unfold State.writeGroup State.writeGroupFlags State.undefineGroup at written
  dsimp only at written
  repeat' split at written
  all_goals cases written
  · exact refl.setGroup _ _
  · exact refl.setGroup _ _
  · exact refl.setGroup _ _
  · exact (refl.setGroup _ _).mapStations fun r => by unfold StationRecord.forgetGroup; split <;> rfl
  · exact refl.setGroup _ _

theorem writeLength_orderly {s t : State} {data : Word} (written : s.writeLength data = some t) : Orderly s t := by
  have refl := Orderly.refl s
  unfold State.writeLength at written
  dsimp only at written
  repeat' split at written
  all_goals cases written
  · exact refl.setShow _
  · exact (refl.setShow _).post _
  · exact (refl.setShow _).post _
  · exact refl.setShow _

theorem writeCue_orderly {s t : State} {n w : Nat} {data : Word} (written : s.writeCue n w data = some t) : Orderly s t := by
  unfold State.writeCue at written
  split at written
  · obtain ⟨c, -, rfl⟩ := Option.map_eq_some_iff.mp written
    exact (Orderly.refl s).setShow _
  · cases written

theorem writePattern_orderly {s t : State} {i : Nat} {data : Word} (written : s.writePattern i data = some t) :
    Orderly s t := by
  unfold State.writePattern at written
  repeat' split at written
  all_goals cases written
  all_goals exact (Orderly.refl s).alarm _

/-! ## Acts that may also change the control unit -/

/-- An act that takes no clock register and no counter out of its range. -/
structure Ranged (s t : State) : Prop where
  clock : ClockLaw s → ClockLaw t
  counters : CounterLaw s → CounterLaw t

theorem Ranged.refl (s : State) : Ranged s s := ⟨id, id⟩

theorem Ranged.trans {s t u : State} (h : Ranged s t) (k : Ranged t u) : Ranged s u :=
  ⟨k.clock ∘ h.clock, k.counters ∘ h.counters⟩

theorem Regular.ranged {s t : State} (h : Regular s t) : Ranged s t := ⟨h.clock, h.counters⟩

section acts

variable {s t : State} (h : Ranged s t)
include h

theorem Ranged.then {u : State} (k : Orderly t u) : Ranged s u := h.trans k.ranged

theorem Ranged.quiet {u : State} (clock : u.clock = t.clock) (zones : u.zones = t.zones) (stations : u.stations = t.stations)
    (page : u.page = t.page) : Ranged s u :=
  ⟨clockLaw_of_clock clock ∘ h.clock, counterLaw_of_counters zones stations (by rw [page]) (by rw [page]) ∘ h.counters⟩

theorem Ranged.control (c : ControlUnit) : Ranged s { t with control := c } := h.quiet rfl rfl rfl rfl

theorem Ranged.transit (u : TransitUnit) : Ranged s { t with transit := u } := h.quiet rfl rfl rfl rfl

theorem Ranged.answer (a : HostAnswer) : Ranged s (t.answer a) := h.quiet rfl rfl rfl rfl

theorem Ranged.writeTable {u : State} {table : PortTable} {i : Nat} {data : Word}
    (written : t.writeTable table i data = some u) : Ranged s u := by
  cases table with
  | config =>
    simp only [State.writeTable, State.writeConfig] at written
    repeat' split at written
    all_goals cases written
    all_goals exact h.control _
  | zone => exact h.then (writeZone_orderly written)
  | station => exact h.then (writeStation_orderly written)
  | group => exact h.then (writeGroup_orderly written)
  | cue =>
    simp only [State.writeTable] at written
    split at written
    · exact h.then (writeLength_orderly written)
    · exact h.then (writeCue_orderly written)
  | pattern => exact h.then (writePattern_orderly written)
  | pin => cases written
  | stream => cases written
  | counter => cases written

/-! ## The control window -/

theorem Ranged.take : Ranged s t.take := by
  have judged := (h.control { t.control with freshHeader := false }).trans
    (judgeTake_judged t.stale t.control.freshHeader).regular.ranged
  rw [take_eq]
  exact judged.control _

theorem Ranged.writePort (w : WriteWord) : Ranged s (t.writePort w) := by
  unfold State.writePort State.advancePort
  refine Ranged.control ?_ _
  cases offered : t.offerTable w with
  | none => exact h.control _
  | some u =>
    unfold State.offerTable at offered
    split at offered
    · cases offered
    · exact h.writeTable offered

theorem Ranged.writeSlot (k : Nat) (w : WriteWord) : Ranged s (t.writeSlot k w) := by
  unfold State.writeSlot
  dsimp only
  split
  · exact Ranged.take (h.control _)
  · exact h.control _

theorem Ranged.writeWindow (k : Nat) (w : WriteWord) : Ranged s (t.writeWindow k w) := by
  unfold State.writeWindow
  repeat' split
  · exact h.control _
  · exact h.control _
  · exact h.writePort w
  · exact h.writeSlot _ w
  · exact h

/-! ## The two ports -/

theorem Ranged.offerWord (p : Region × WriteWord) : Ranged s (t.offerWord p) := by
  obtain ⟨r, w⟩ := p
  cases r with
  | window k => exact h.writeWindow k w
  | sense z offset => exact h.then ((Orderly.refl t).offerSense z offset w)
  | microphone n offset => exact h.then ((Orderly.refl t).offerMic n offset w)
  | pageRing offset => exact h.then ((Orderly.refl t).offerPage offset w.data)
  | anchorBlock _ => exact h
  | playout _ _ => exact h
  | earpiece _ _ => exact h
  | pinned _ => exact h
  | plain => exact h

theorem Ranged.offerBurst (addr : Nat) (words : List WriteWord) : Ranged s (t.offerBurst addr words) := by
  unfold State.offerBurst State.examineAnchor
  split
  · split
    · exact h.transit _
    · exact h.control _
  · exact foldl_offerWord_keeps (fun p _ _ hu => hu.offerWord p) h

theorem Ranged.passWrite (tag addr : Nat) (words : List WriteWord) : Ranged s (t.passWrite tag addr words) := by
  unfold State.passWrite
  repeat' split
  · exact h
  · exact h.answer _
  · exact h.answer _
  · exact (h.offerBurst addr words).transit _

theorem Ranged.passRead (tag addr count : Nat) : Ranged s (t.passRead tag addr count) := by
  unfold State.passRead
  repeat' split
  · exact h
  · exact h.answer _
  · exact h.transit _

theorem Ranged.arbitrate : Ranged s t.arbitrate := by
  rcases arbitrate_cases t with ⟨-, -, idle⟩ | ⟨f, rest, -, forwards⟩ | ⟨o, rest, -, owns⟩
  · rw [idle]; exact h
  · rw [forwards]; exact h.quiet rfl rfl rfl rfl
  · rw [owns]
    unfold State.issueOwn
    split
    · exact h
    · exact h.quiet rfl rfl rfl rfl

theorem Ranged.readEffects (rs : List Region) : Ranged s (t.readEffects rs) := by
  have reloaded := h.then ((Orderly.refl t).forEach (f := State.reloadWatch)
    (ns := (List.range 64).filter (holdsPlayout rs)) fun z u hu => hu.setZone id)
  unfold State.readEffects
  dsimp only
  split
  · exact reloaded.control _
  · exact reloaded

theorem Ranged.hostResponse (tag : Nat) (e : TagEntry) (a : MemAnswer) : Ranged s (t.hostResponse tag e a) := by
  have cleared := h.transit (t.transit.clearTag tag)
  unfold State.hostResponse State.hostData
  dsimp only
  repeat' split
  · exact cleared.answer _
  · exact cleared.answer _
  · exact (cleared.readEffects _).answer _
  · exact cleared.answer _

theorem Ranged.memoryReturns (tag : Nat) (a : MemAnswer) : Ranged s (t.memoryReturns tag a) := by
  unfold State.memoryReturns State.ownAnswer
  repeat' split
  · exact h.transit _
  · exact h.then ((Orderly.refl t).ownResponse _ _ _ _)
  · exact h
  · exact h.hostResponse tag _ a
  · exact h

end acts

/-! ## Every step -/

/-- Full reset takes every register and counter to its reset value (R21, R68). -/
theorem ranged_fullReset (s : State) (cause : ResetCause) : Ranged s (s.fullReset cause) :=
  ⟨fun _ => clockLaw_of_clock (s := State.reset) rfl clockLaw_reset,
    fun _ => counterLaw_of_counters (s := State.reset) rfl rfl rfl rfl counterLaw_reset⟩

theorem ranged_work (w : Laws.Work) (s : State) : Ranged s (w.act s) := by
  have still := Ranged.refl s
  have refl := Orderly.refl s
  cases w with
  | passRead tag addr count => exact still.passRead tag addr count
  | passWrite tag addr words => exact still.passWrite tag addr words
  | arbitrate => exact still.arbitrate
  | memoryReturns tag answer => exact still.memoryReturns tag answer
  | fullReset cause => exact ranged_fullReset s cause
  | releaseReset => exact still.quiet rfl rfl rfl rfl
  | clockEdge gap order => exact (refl.clockEdge gap order).ranged
  | referenceStep order => exact (refl.referenceStep order).ranged
  | expireGap order => exact (refl.expireGap order).ranged
  | changePanel a b => exact (refl.changePanel a b).ranged
  | showPulse => exact refl.showPulse.ranged

theorem ranged_step {s t : State} (stepped : step s = .next t) : Ranged s t :=
  Laws.step_keeps (P := Ranged s) (fun _ _ h => h.quiet rfl rfl rfl rfl) (fun _ h => h.quiet rfl rfl rfl rfl)
    (fun _ h => h.quiet rfl rfl rfl rfl) (fun w u h => h.trans (ranged_work w u)) (Ranged.refl s) stepped

end Sys2Proof.Machine
end

section
/-! PROOFS. The ranges at every step. -/

namespace Sys2Proof.Machine

/-- Settles O56: every work of the part keeps both laws (`ranged_work`), and a step is a work or none. -/
theorem clockAndCountersStayInRange : Obligations.ClockAndCountersStayInRange :=
  ⟨fun _ _ law stepped => (ranged_step stepped).clock law, fun _ _ law stepped => (ranged_step stepped).counters law⟩

end Sys2Proof.Machine
end

section
/-! SUPPORT. A loop that ends streams, whole: the streams, the own queue, the page window, the notices and the last ended stream word
(R18, R92, R95). -/

namespace Sys2Proof.Machine

/-- The record of a stream that ends now (R92). -/
def StreamRecord.ended (r : StreamRecord) (cause : EndCause) : StreamRecord :=
  { r with state := .ending, endCause := cause, drained := false }

/-- A state with the parts of another that the ending of streams changes. -/
def State.withEnding (s t : State) : State :=
  { s with
    streams := t.streams, transit := { s.transit with ownQueue := t.transit.ownQueue },
    page := { s.page with capture := t.page.capture }, lastEnded := t.lastEnded, event := t.event,
    control := { s.control with pendingNotices := t.control.pendingNotices } }

theorem withEnding_trans {s t u : State} (h : t = s.withEnding t) (k : u = t.withEnding u) : u = s.withEnding u :=
  k.trans (by rw [h]; rfl)

theorem endStream_withEnding (cause : EndCause) (n : Nat) (s : State) :
    s.endStream cause n = s.withEnding (s.endStream cause n) := by
  unfold State.endStream State.noteEnded
  dsimp only
  repeat' split
  all_goals rfl

/-- What the ending of the streams of a set comes to. -/
structure EndedBy (cause : EndCause) (ends : Nat → Prop) (s t : State) : Prop where
  ended : ∀ n < 8, ends n → t.stream n = (s.stream n).ended cause
  kept : ∀ n < 8, ¬ ends n → t.stream n = s.stream n
  queue : t.transit.ownQueue.Sublist s.transit.ownQueue
  withdrawn : ∀ n, ends n → t.waits n = []
  waiting : ∀ n, ¬ ends n → t.waits n = s.waits n
  closed : ∀ n, ends n → (s.stream n).source = .live → t.page.capture = none
  window : (∀ n, ends n → (s.stream n).source ≠ .live) → t.page.capture = s.page.capture
  notices : ∀ k < 9, t.control.pendingNotices.get k = true ↔ s.control.pendingNotices.get k = true ∨ (k = 4 ∧ ∃ n, ends n)
  unnoted : (∀ n, ¬ ends n) → t.lastEnded = s.lastEnded
  noted : s.event.ended = none → ∀ n, ends n → (∀ m, ends m → m ≤ n) →
    t.lastEnded = some { index := n, cause := cause, owner := (s.stream n).owner }
  highest : s.event.ended = none → ∀ n, (∀ m, ends m → m ≤ n) → t.event.ended.getD 0 ≤ n
  frame : t = s.withEnding t

theorem EndedBy.nothing (cause : EndCause) (s : State) : EndedBy cause (fun _ => False) s s where
  ended _ _ h := h.elim
  kept _ _ _ := rfl
  queue := List.Sublist.refl _
  withdrawn _ h := h.elim
  waiting _ _ := rfl
  closed _ h := h.elim
  window _ := rfl
  notices k _ := (or_iff_left fun h => h.2.elim fun _ no => no).symm
  unnoted _ := rfl
  noted _ _ h := h.elim
  highest empty n _ := by rw [empty]; exact Nat.zero_le n
  frame := rfl

/-- The same set, said another way. -/
theorem EndedBy.congr {cause : EndCause} {ends others : Nat → Prop} {s t : State} (h : EndedBy cause ends s t)
    (same : ∀ n, ends n ↔ others n) : EndedBy cause others s t :=
  (funext fun n => propext (same n) : ends = others) ▸ h

/-- One more stream, above those ended before it. -/
theorem EndedBy.endStream {cause : EndCause} {ends : Nat → Prop} {s t : State} {n : Nat} (h : EndedBy cause ends s t)
    (hn : n < 8) (above : ∀ m, ends m → m < n) (live : (s.stream n).live = true) :
    EndedBy cause (fun m => ends m ∨ m = n) s (t.endStream cause n) := by
  have fresh : ¬ ends n := fun e => Nat.lt_irrefl n (above n e)
  have same : t.stream n = s.stream n := h.kept n hn fresh
  have shape := endStream_of_live cause (s := t) (n := n) (same ▸ live)
  have streams := fun m hm => endStream_stream cause n m t hm
  have waits : ∀ m, (t.endStream cause n).waits m = (t.transit.ownQueue.filter fun q => q.stream != n).filter
      fun q => q.stream == m := fun m => by rw [State.waits, shape]; rfl
  have capture : (t.endStream cause n).page.capture
      = if (s.stream n).source = .live then none else t.page.capture := by
    rw [shape, same]
    exact apply_ite PageRingRecord.capture _ _ _
  have noted : s.event.ended = none → t.event.ended.getD 0 ≤ n := fun empty =>
    h.highest empty n fun m hm => Nat.le_of_lt (above m hm)
  constructor
  case ended =>
    intro m hm e
    rw [streams m hm]
    by_cases eq : n = m
    · subst eq
      rw [if_pos ⟨rfl, same ▸ live⟩, same]; rfl
    · rw [if_neg fun both => eq both.1]
      exact h.ended m hm (e.resolve_right fun same => eq same.symm)
  case kept =>
    intro m hm e
    rw [streams m hm, if_neg fun both => e (.inr both.1.symm)]
    exact h.kept m hm fun old => e (.inl old)
  case queue =>
    rw [shape]
    exact List.Sublist.trans List.filter_sublist h.queue
  case withdrawn =>
    intro m e
    rw [waits m]
    by_cases eq : m = n
    · rw [eq]; exact filter_withdrawn _ n
    · rw [filter_withdrawn_other _ eq]
      exact h.withdrawn m (e.resolve_right eq)
  case waiting =>
    intro m e
    rw [waits m, filter_withdrawn_other _ fun eq => e (.inr eq)]
    exact h.waiting m fun old => e (.inl old)
  case closed =>
    intro m e source
    rw [capture]
    split
    · rfl
    · next other =>
      exact h.closed m (e.resolve_right fun eq => other (eq ▸ source)) source
  case window =>
    intro others
    rw [capture, if_neg (others n (.inr rfl))]
    exact h.window fun m e => others m (.inl e)
  case notices =>
    intro k hk
    have posted : (t.endStream cause n).control.pendingNotices = t.control.pendingNotices.set 4 true := by rw [shape]; rfl
    rw [posted, Bank.get_set _ _ _ _ hk]
    split
    · next four => exact iff_of_true rfl (.inr ⟨four.symm, n, .inr rfl⟩)
    · next four =>
      rw [h.notices k hk]
      exact or_congr_right (iff_of_false (fun x => four x.1.symm) fun x => four x.1.symm)
  case unnoted => exact fun no => absurd (.inr rfl) (no n)
  case noted =>
    intro empty m e top
    have eq : m = n := by
      rcases e with old | eq
      · exact absurd (above m old) (Nat.not_lt.mpr (top n (.inr rfl)))
      · exact eq
    rw [shape, eq, ← same]
    exact if_pos (noted empty)
  case highest =>
    intro empty m top
    rw [shape]
    show Option.getD (EventRecord.ended (if t.event.ended.getD 0 ≤ n then { t.event with ended := some n } else t.event)) 0 ≤ m
    rw [if_pos (noted empty)]
    exact top n (.inr rfl)
  case frame => exact withEnding_trans h.frame (endStream_withEnding cause n t)

/-! ## The loops -/

theorem forEach_range_succ (s : State) (k : Nat) (f : Nat → State → State) :
    s.forEach (List.range (k + 1)) f = f k (s.forEach (List.range k) f) := by
  unfold State.forEach
  rw [List.range_succ, List.foldl_append]
  rfl

/-- A loop whose turn ends a live stream of the set and leaves every other, told from the stream as the loop found it. -/
theorem forEach_endedBy {cause : EndCause} {ends : Nat → Prop} {s : State} {f : Nat → State → State}
    (live : ∀ n < 8, ends n → (s.stream n).live = true)
    (acts : ∀ n < 8, ends n → ∀ u : State, u.stream n = s.stream n → f n u = u.endStream cause n)
    (skips : ∀ n < 8, ¬ ends n → ∀ u : State, u.stream n = s.stream n → f n u = u) :
    EndedBy cause (fun n => n < 8 ∧ ends n) s (s.forEach (List.range 8) f) := by
  have turns : ∀ k ≤ 8, EndedBy cause (fun n => n < k ∧ ends n) s (s.forEach (List.range k) f) := by
    intro k
    induction k with
    | zero => exact fun _ => (EndedBy.nothing cause s).congr fun n => (iff_of_false not_false fun h => absurd h.1 (Nat.not_lt_zero n))
    | succ k ih =>
      intro hk
      have before := ih (Nat.le_of_lt hk)
      have found : (s.forEach (List.range k) f).stream k = s.stream k := before.kept k hk fun h => Nat.lt_irrefl k h.1
      rw [forEach_range_succ]
      by_cases e : ends k
      · rw [acts k hk e _ found]
        refine (before.endStream hk (fun m h => h.1) (live k hk e)).congr fun m => ⟨fun h => ?_, fun h => ?_⟩
        · obtain ⟨below, old⟩ | rfl := h
          · exact ⟨Nat.lt_succ_of_lt below, old⟩
          · exact ⟨Nat.lt_succ_self m, e⟩
        · exact (Nat.lt_succ_iff_lt_or_eq.mp h.1).imp_left fun below => ⟨below, h.2⟩
      · rw [skips k hk e _ found]
        refine before.congr fun m => ⟨fun h => ⟨Nat.lt_succ_of_lt h.1, h.2⟩, fun h => ⟨?_, h.2⟩⟩
        exact (Nat.lt_succ_iff_lt_or_eq.mp h.1).resolve_right fun eq => e (eq ▸ h.2)
  exact turns 8 (Nat.le_refl 8)

theorem endAll_endedBy (cause : EndCause) (s : State) :
    EndedBy cause (fun n => n < 8 ∧ (s.stream n).live = true) s (s.endAll cause) :=
  forEach_endedBy (fun _ _ live => live) (fun _ _ _ _ _ => rfl)
    fun n _ rests u same => endStream_of_not_live cause (by rw [same]; simpa using rests)

theorem sounding_live {r : StreamRecord} (h : r.sounding = true) : r.live = true := by
  unfold StreamRecord.sounding at h
  split at h
  · next starting => exact (live_iff r).mpr (.inl starting)
  · next playing => exact (live_iff r).mpr (.inr (.inl playing))
  · cases h
  · cases h
  · cases h

theorem endGroupStreams_endedBy (s : State) :
    EndedBy .restart (fun n => n < 8 ∧ (s.stream n).source = .group ∧ (s.stream n).sounding = true) s s.endGroupStreams :=
  forEach_endedBy (fun _ _ h => sounding_live h.2) (fun _ _ h _ same => if_pos (same ▸ h))
    fun _ _ h _ same => if_neg (same ▸ h)

theorem endShowStreams_endedBy (s : State) :
    EndedBy .stopped (fun n => n < 8 ∧ (s.stream n).live = true ∧ (s.stream n).owner ≠ .announce) s s.endShowStreams := by
  have owned : ∀ r : StreamRecord, r.showOwned = true ↔ r.owner ≠ .announce := fun r => by
    rw [← Bool.not_eq_false, showOwned_eq_false]
  refine forEach_endedBy (fun _ _ h => h.1) (fun n _ h u same => ?_) fun n _ h u same => ?_
  · exact if_pos (by rw [same]; exact (owned _).mpr h.2)
  · split
    · next shows =>
      rw [same, owned] at shows
      exact endStream_of_not_live .stopped (by rw [same]; simpa using fun live => h ⟨live, shows⟩)
    · rfl

/-- With no stream live the show's ending of its streams does nothing. -/
theorem endShowStreams_of_none_live {s : State} (rests : ∀ n < 8, (s.stream n).live = false) : s.endShowStreams = s := by
  refine forEach_keeps (P := fun t => t = s) (fun n hn t same => ?_) rfl
  subst same
  split
  · exact endStream_of_not_live .stopped (rests n (List.mem_range.mp hn))
  · rfl

end Sys2Proof.Machine
end

section
/-! SUPPORT. The clearing of the show engine (R173, R191), and what an RST leaves of everything but its engines (R43, R105). -/

namespace Sys2Proof.Machine

/-! ## The show cleared -/

/-- The show record as the clearing leaves it (R173). -/
def ShowRecord.cleared (r : ShowRecord) : ShowRecord :=
  { r.allWaiting with
    pointer := 0, follow := 0, snapshot := none, holdCause := none, state := if r.state = .idle then .idle else .stopped }

/-- The clearing past the ending of the show's streams: levels, record and notice (R173). -/
def State.showCleared (s : State) : State :=
  { s with
    zones := s.zones.map ZoneEntry.houseLevel, theatre := s.theatre.cleared,
    control := if s.theatre.state = .running ∨ s.theatre.state = .held then s.control.post .showNotice else s.control }

theorem clearShow_eq (s : State) : s.clearShow = s.endShowStreams.showCleared := by
  have same := (endShowStreams_same s).theatre
  unfold State.clearShow State.showCleared
  generalize s.endShowStreams = u at same ⊢
  rw [← same]
  dsimp only
  split <;> rfl

theorem showCleared_theatre (s : State) : s.showCleared.theatre = s.theatre.cleared := rfl

theorem showCleared_zones (s : State) : s.showCleared.zones = s.zones.map ZoneEntry.houseLevel := rfl

theorem clearShow_theatre (s : State) : s.clearShow.theatre = s.theatre.cleared := by
  rw [clearShow_eq, showCleared_theatre, (endShowStreams_same s).theatre]

theorem clearShow_zones (s : State) : s.clearShow.zones = s.zones.map ZoneEntry.houseLevel := by
  rw [clearShow_eq, showCleared_zones, (endShowStreams_same s).zones]

theorem showCleared_streams (s : State) : s.showCleared.streams = s.streams := rfl

theorem clearShow_streams (s : State) : s.clearShow.streams = s.endShowStreams.streams := by
  rw [clearShow_eq, showCleared_streams]

/-- The clearing posts SHOW where the show was RUNNING or HELD (R173). -/
theorem showCleared_notices (s : State) {k : Nat} (hk : k < 9) : s.showCleared.control.pendingNotices.get k = true
    ↔ s.control.pendingNotices.get k = true ∨ (k = 5 ∧ (s.theatre.state = .running ∨ s.theatre.state = .held)) := by
  unfold State.showCleared
  dsimp only
  split
  · next stops =>
    show (s.control.pendingNotices.set 5 true).get k = true ↔ _
    rw [Bank.get_set _ _ _ _ hk]
    split
    · next five => exact iff_of_true rfl (.inr ⟨five.symm, stops⟩)
    · next five => exact (or_iff_left fun x => five x.1.symm).symm
  · next still => exact (or_iff_left fun x => still x.2).symm

/-! ## The busy set -/

theorem allFree_iff (s : State) : s.allFree = true ↔ ∀ n < 8, (s.stream n).state = .free := by
  unfold State.allFree
  rw [List.all_eq_true, Bank.all_cells (fun r : StreamRecord => (r.state == .free) = true)]
  exact forall₂_congr fun n _ => beq_iff_eq

theorem showDrained_eq_false_iff (s : State) :
    s.showDrained = false ↔ ∃ n < 8, (s.stream n).state = .ending ∧ (s.stream n).owner ≠ .announce := by
  have drained : s.showDrained = true ↔ ∀ n < 8, ¬ ((s.stream n).state = .ending ∧ (s.stream n).owner ≠ .announce) := by
    unfold State.showDrained
    rw [List.all_eq_true, Bank.all_cells (fun r : StreamRecord => (!(r.state == .ending && r.showOwned)) = true)]
    refine forall₂_congr fun n _ => ?_
    rw [Bool.not_eq_true', Bool.and_eq_false_iff, showOwned_eq_false, beq_eq_false_iff_ne, not_and_or, not_not]
    rfl
  rw [← Bool.not_eq_true, drained]
  push Not
  rfl

theorem releaseBusy_busyStream (s : State) :
    s.releaseBusy.control.busyStream = false ↔ s.control.busyStream = false ∨ ∀ n < 8, (s.stream n).state = .free := by
  rw [← allFree_iff]
  show (s.control.busyStream && !s.allFree) = false ↔ _
  rw [Bool.and_eq_false_iff, Bool.not_eq_false']

theorem releaseBusy_busyShow (s : State) : s.releaseBusy.control.busyShow = true
    ↔ s.control.busyShow = true ∧ ∃ n < 8, (s.stream n).state = .ending ∧ (s.stream n).owner ≠ .announce := by
  rw [← showDrained_eq_false_iff]
  show (s.control.busyShow && !s.showDrained) = true ↔ _
  rw [Bool.and_eq_true, Bool.not_eq_true']

/-! ## What an RST leaves -/

/-- What an RST that ends the streams of a set leaves of the state outside its engines (R18, R43, R105): `c` is the control unit its
take began with. -/
def RestartLeaves (s : State) (c : ControlUnit) (t : State) (ends : Nat → Prop) (shows : Prop) : Prop :=
  t.transit = { s.transit with ownQueue := t.transit.ownQueue } ∧ t.transit.ownQueue.Sublist s.transit.ownQueue
    ∧ (∀ n < 8, (ends n → t.waits n = []) ∧ (¬ ends n → t.waits n = s.waits n))
    ∧ t.page = { s.page with capture := t.page.capture }
    ∧ ((∃ n < 8, ends n ∧ (s.stream n).source = .live) → t.page.capture = none)
    ∧ ((∀ n < 8, ¬ (ends n ∧ (s.stream n).source = .live)) → t.page.capture = s.page.capture)
    ∧ t.control = { c with
        busyStream := t.control.busyStream, busyIntercom := t.control.busyIntercom, busyShow := t.control.busyShow,
        pendingNotices := t.control.pendingNotices }
    ∧ (∀ k < 9, t.control.pendingNotices.get k = true
        ↔ s.control.pendingNotices.get k = true ∨ (k = 4 ∧ ∃ n < 8, ends n) ∨ (k = 5 ∧ shows))
    ∧ ((∀ n < 8, ¬ ends n) → t.lastEnded = s.lastEnded)
    ∧ (∀ n < 8, ends n → (∀ m < 8, n < m → ¬ ends m) →
        t.lastEnded = some { index := n, cause := (t.stream n).endCause, owner := (s.stream n).owner })
    ∧ t.lines = s.lines ∧ t.freeDraws = s.freeDraws ∧ t.pending = s.pending

/-- The parts of a state that are not an engine's own, and the streams. -/
structure SameOutside (s t : State) : Prop where
  transit : t.transit = s.transit
  page : t.page = s.page
  lastEnded : t.lastEnded = s.lastEnded
  streams : t.streams = s.streams
  lines : t.lines = s.lines
  freeDraws : t.freeDraws = s.freeDraws
  pending : t.pending = s.pending

theorem SameOutside.trans {s t u : State} (h : SameOutside s t) (k : SameOutside t u) : SameOutside s u :=
  ⟨k.transit.trans h.transit, k.page.trans h.page, k.lastEnded.trans h.lastEnded, k.streams.trans h.streams,
    k.lines.trans h.lines, k.freeDraws.trans h.freeDraws, k.pending.trans h.pending⟩

theorem sameOutside_clearIntercom (s : State) : SameOutside s s.clearIntercom := ⟨rfl, rfl, rfl, rfl, rfl, rfl, rfl⟩

theorem sameOutside_releaseBusy (s : State) : SameOutside s s.releaseBusy := ⟨rfl, rfl, rfl, rfl, rfl, rfl, rfl⟩

theorem sameOutside_showCleared (s : State) : SameOutside s s.showCleared := ⟨rfl, rfl, rfl, rfl, rfl, rfl, rfl⟩

/-- A take on `b`, of the state `s`, that ends the streams of a set and then changes its engines alone. -/
theorem restartLeaves_of_endedBy {s b u t : State} {c : ControlUnit} {cause : EndCause} {ends : Nat → Prop} {shows : Prop}
    (begun : SameOutside s b) (empty : b.event.ended = none) (notices : b.control.pendingNotices = s.control.pendingNotices)
    (ended : EndedBy cause (fun n => n < 8 ∧ ends n) b u) (after : SameOutside u t) (control : c.SameButFlags t.control)
    (posted : ∀ k < 9, t.control.pendingNotices.get k = true
      ↔ u.control.pendingNotices.get k = true ∨ (k = 5 ∧ shows)) :
    RestartLeaves s c t ends shows := by
  have stream : ∀ n, b.stream n = s.stream n := fun n => congrArg (fun x => Bank.get x n) begun.streams
  have waits : ∀ n, t.waits n = u.waits n := fun n => by unfold State.waits; rw [after.transit]
  have began : ∀ n, b.waits n = s.waits n := fun n => by unfold State.waits; rw [begun.transit]
  have transit := congrArg State.transit ended.frame
  have page := congrArg State.page ended.frame
  refine ⟨?_, ?_, fun n hn => ⟨fun e => ?_, fun e => ?_⟩, ?_, fun some => ?_, fun none => ?_, control, fun k hk => ?_, fun none => ?_,
    fun n hn e top => ?_, ?_, ?_, ?_⟩
  · rw [after.transit, ← begun.transit]; exact transit
  · rw [after.transit, ← begun.transit]; exact ended.queue
  · rw [waits]; exact ended.withdrawn n ⟨hn, e⟩
  · rw [waits, ended.waiting n fun x => e x.2, began]
  · rw [after.page, ← begun.page]; exact page
  · obtain ⟨n, hn, e, source⟩ := some
    rw [after.page]
    exact ended.closed n ⟨hn, e⟩ (by rw [stream]; exact source)
  · rw [after.page, ← begun.page]
    exact ended.window fun n e source => none n e.1 ⟨e.2, by rw [← stream]; exact source⟩
  · rw [posted k hk, ended.notices k hk, notices, or_assoc]
  · rw [after.lastEnded, ← begun.lastEnded]
    exact ended.unnoted fun n e => none n e.1 e.2
  · have cause' : (t.stream n).endCause = cause := by
      rw [State.stream, after.streams]
      exact congrArg StreamRecord.endCause (ended.ended n hn ⟨hn, e⟩)
    rw [after.lastEnded, cause', ← stream]
    exact ended.noted empty n ⟨hn, e⟩ fun m h => Nat.le_of_not_lt fun above => top m h.1 above h.2
  · rw [after.lines, ← begun.lines]; exact (congrArg State.lines ended.frame :)
  · rw [after.freeDraws, ← begun.freeDraws]; exact (congrArg State.freeDraws ended.frame :)
  · rw [after.pending, ← begun.pending]; exact (congrArg State.pending ended.frame :)

end Sys2Proof.Machine
end

section
/-! SUPPORT. The three restarts (R43, R105, R128, R191). -/

namespace Sys2Proof.Machine

theorem taken_rst {s : State} {h : CommandHead} {scope : Nat} (heard : s.hears h.host = true)
    (fits : (Command.rst scope).fits = true) (idle : s.control.scopeBusy scope = false) : Taken s h (.rst scope) where
  heard := heard
  short := payload_short _
  length := payloadLength_of_fits fits
  read := parse_atTake fits
  idle := idle

/-- A take's state with engines BUSY is the state found, outside the control unit and the event record. -/
theorem sameOutside_setBusy (s : State) (h : CommandHead) (c : Command) (stream intercom showEngine : Bool) :
    SameOutside s ((s.atTake h c).setBusy stream intercom showEngine) := ⟨rfl, rfl, rfl, rfl, rfl, rfl, rfl⟩

/-! ## RST ALL -/

/-- Every stream ended, the intercom cleared: what the show's own clearing finds (R105). -/
def State.allEnded (s : State) : State := ((s.setBusy true true true).endAll .restart).clearIntercom

theorem endAll_rests (cause : EndCause) (s : State) {n : Nat} (hn : n < 8) : ((s.endAll cause).stream n).live = false := by
  have ended := endAll_endedBy cause s
  by_cases live : (s.stream n).live = true
  · rw [ended.ended n hn ⟨hn, live⟩]; rfl
  · rw [ended.kept n hn fun h => live h.2]; simpa using live

theorem stream_clearIntercom (s : State) (n : Nat) : s.clearIntercom.stream n = s.stream n := rfl

theorem restartAll_eq (s : State) : s.restartAll = s.allEnded.showCleared.releaseBusy := by
  have rests : s.allEnded.endShowStreams = s.allEnded := endShowStreams_of_none_live fun n hn => by
    rw [State.allEnded, stream_clearIntercom]
    exact endAll_rests _ _ hn
  rw [← rests, ← clearShow_eq]
  rfl

theorem restartAll_leaves (s : State) (h : CommandHead) (c : Command) :
    RestartLeaves s (s.atTake h c).control (s.atTake h c).restartAll (fun n => (s.stream n).live = true)
      (s.theatre.state = .running ∨ s.theatre.state = .held) := by
  have ended := endAll_endedBy .restart ((s.atTake h c).setBusy true true true)
  have same := endAll_same .restart ((s.atTake h c).setBusy true true true)
  have control : (s.atTake h c).control.SameButFlags (s.atTake h c).restartAll.control :=
    (restartAll_regular _).control
  rw [restartAll_eq] at control ⊢
  unfold State.allEnded at control ⊢
  generalize ((s.atTake h c).setBusy true true true).endAll .restart = u at *
  refine restartLeaves_of_endedBy (sameOutside_setBusy s h c true true true) rfl rfl ended
    (((sameOutside_clearIntercom u).trans (sameOutside_showCleared _)).trans (sameOutside_releaseBusy _)) control
    fun k hk => ?_
  have posted := showCleared_notices u.clearIntercom hk
  rw [show u.clearIntercom.theatre = s.theatre from same.theatre] at posted
  exact posted

/-- The streams and the busy set after an RST ALL (R44, R105). -/
theorem restartAll_streams (s : State) (n : Nat) (hn : n < 8) : s.restartAll.stream n
    = if (s.stream n).live = true then (s.stream n).ended .restart else s.stream n := by
  have ended := endAll_endedBy .restart (s.setBusy true true true)
  rw [restartAll_eq]
  unfold State.allEnded
  generalize (s.setBusy true true true).endAll .restart = u at ended
  show u.stream n = _
  split
  · next live => exact ended.ended n hn ⟨hn, live⟩
  · next rests => exact ended.kept n hn fun h => rests h.2

theorem restartAll_free (s : State) {n : Nat} (hn : n < 8) :
    (s.restartAll.stream n).state = .free ↔ (s.stream n).state = .free := by
  rw [restartAll_streams s n hn]
  split
  · next live =>
    refine iff_of_false nofun fun free => ?_
    rw [(live_eq_false _).mpr (.inl free)] at live
    cases live
  · rfl

theorem allEnded_control (s : State) :
    s.allEnded.control.busyStream = true ∧ s.allEnded.control.busyIntercom = true ∧ s.allEnded.control.busyShow = true := by
  have control := congrArg State.control (endAll_endedBy .restart (s.setBusy true true true)).frame
  unfold State.allEnded
  generalize (s.setBusy true true true).endAll .restart = u at control
  refine ⟨?_, ?_, ?_⟩
  · exact (congrArg ControlUnit.busyStream control).trans (Bool.or_true _)
  · exact (congrArg ControlUnit.busyIntercom control).trans (Bool.or_true _)
  · exact (congrArg ControlUnit.busyShow control).trans (Bool.or_true _)

theorem showCleared_busy (s : State) : s.showCleared.control.busyStream = s.control.busyStream
    ∧ s.showCleared.control.busyIntercom = s.control.busyIntercom ∧ s.showCleared.control.busyShow = s.control.busyShow := by
  unfold State.showCleared
  dsimp only
  split
  · exact ⟨rfl, rfl, rfl⟩
  · exact ⟨rfl, rfl, rfl⟩

theorem releaseBusy_busyIntercom (s : State) : s.releaseBusy.control.busyIntercom = s.control.busyIntercom := rfl

theorem restartAll_busy (s : State) : s.restartAll.control.busyIntercom = true
    ∧ (s.restartAll.control.busyStream = false ↔ ∀ n < 8, (s.stream n).state = .free)
    ∧ (s.restartAll.control.busyShow = true ↔ ∃ n < 8, (s.restartAll.stream n).state = .ending
        ∧ (s.restartAll.stream n).owner ≠ .announce) := by
  have free := fun n (hn : n < 8) => restartAll_free s hn
  obtain ⟨stream, intercom, showEngine⟩ := allEnded_control s
  obtain ⟨keptStream, keptIntercom, keptShow⟩ := showCleared_busy s.allEnded
  rw [restartAll_eq] at free ⊢
  generalize s.allEnded.showCleared = u at *
  refine ⟨(releaseBusy_busyIntercom _).trans (keptIntercom.trans intercom), ?_, ?_⟩
  · rw [releaseBusy_busyStream, keptStream, stream]
    refine (or_iff_right (by decide)).trans (forall₂_congr fun n hn => free n hn)
  · rw [releaseBusy_busyShow, keptShow, showEngine]
    exact and_iff_right rfl

/-- The engines an RST ALL clears (R128, R191), and what it leaves. -/
theorem restartAll_engines (s : State) : s.restartAll.stations = s.stations.map StationRecord.restart
    ∧ s.restartAll.groups = s.groups.map GroupRecord.clearSums ∧ s.restartAll.theatre = s.theatre.cleared
    ∧ s.restartAll.zones = s.zones.map ZoneEntry.houseLevel ∧ s.restartAll.alarm = s.alarm
    ∧ s.restartAll.clock = s.clock := by
  have same := endAll_same .restart (s.setBusy true true true)
  rw [restartAll_eq]
  unfold State.allEnded
  generalize (s.setBusy true true true).endAll .restart = u at same
  exact ⟨congrArg (Bank.map StationRecord.restart) same.stations, congrArg (Bank.map GroupRecord.clearSums) same.groups,
    congrArg ShowRecord.cleared same.theatre, congrArg (Bank.map ZoneEntry.houseLevel) same.zones, same.alarm, same.clock⟩

/-! ## RST INTERCOM -/

theorem restartIntercom_leaves (s : State) (h : CommandHead) (c : Command) :
    RestartLeaves s (s.atTake h c).control (s.atTake h c).restartIntercom
      (fun n => (s.stream n).source = .group ∧ (s.stream n).sounding = true) False := by
  have ended := endGroupStreams_endedBy ((s.atTake h c).setBusy false true false)
  have control : (s.atTake h c).control.SameButFlags (s.atTake h c).restartIntercom.control :=
    (restartIntercom_regular _).control
  unfold State.restartIntercom at control ⊢
  generalize ((s.atTake h c).setBusy false true false).endGroupStreams = u at *
  exact restartLeaves_of_endedBy (sameOutside_setBusy s h c false true false) rfl rfl ended (sameOutside_clearIntercom u) control
    fun _ _ => (or_iff_left And.right).symm

theorem restartIntercom_streams (s : State) (n : Nat) (hn : n < 8) : s.restartIntercom.stream n
    = if (s.stream n).source = .group ∧ (s.stream n).sounding = true then (s.stream n).ended .restart else s.stream n := by
  have ended := endGroupStreams_endedBy (s.setBusy false true false)
  unfold State.restartIntercom
  generalize (s.setBusy false true false).endGroupStreams = u at ended
  rw [stream_clearIntercom]
  split
  · next group => exact ended.ended n hn ⟨hn, group⟩
  · next other => exact ended.kept n hn fun h => other h.2

theorem restartIntercom_busy (s : State) : s.restartIntercom.control.busyIntercom = true
    ∧ s.restartIntercom.control.busyStream = s.control.busyStream ∧ s.restartIntercom.control.busyShow = s.control.busyShow := by
  have control := congrArg State.control (endGroupStreams_endedBy (s.setBusy false true false)).frame
  unfold State.restartIntercom
  generalize (s.setBusy false true false).endGroupStreams = u at control
  refine ⟨?_, ?_, ?_⟩
  · exact (congrArg ControlUnit.busyIntercom control).trans (Bool.or_true _)
  · exact (congrArg ControlUnit.busyStream control).trans (Bool.or_false _)
  · exact (congrArg ControlUnit.busyShow control).trans (Bool.or_false _)

/-- The engine an RST INTERCOM clears (R128), and what it leaves. -/
theorem restartIntercom_engines (s : State) : s.restartIntercom.stations = s.stations.map StationRecord.restart
    ∧ s.restartIntercom.groups = s.groups.map GroupRecord.clearSums ∧ s.restartIntercom.theatre = s.theatre
    ∧ s.restartIntercom.zones = s.zones ∧ s.restartIntercom.alarm = s.alarm ∧ s.restartIntercom.clock = s.clock := by
  have same := endGroupStreams_same (s.setBusy false true false)
  unfold State.restartIntercom
  generalize (s.setBusy false true false).endGroupStreams = u at same
  exact ⟨congrArg (Bank.map StationRecord.restart) same.stations, congrArg (Bank.map GroupRecord.clearSums) same.groups,
    same.theatre, same.zones, same.alarm, same.clock⟩

/-! ## RST SHOW -/

theorem restartShow_eq (s : State) :
    s.restartShow = (s.setBusy false false true).endShowStreams.showCleared.releaseBusy := by
  unfold State.restartShow
  rw [clearShow_eq]

theorem restartShow_leaves (s : State) (h : CommandHead) (c : Command) :
    RestartLeaves s (s.atTake h c).control (s.atTake h c).restartShow
      (fun n => (s.stream n).live = true ∧ (s.stream n).owner ≠ .announce)
      (s.theatre.state = .running ∨ s.theatre.state = .held) := by
  have ended := endShowStreams_endedBy ((s.atTake h c).setBusy false false true)
  have same := endShowStreams_same ((s.atTake h c).setBusy false false true)
  have control : (s.atTake h c).control.SameButFlags (s.atTake h c).restartShow.control :=
    (restartShow_regular _).control
  rw [restartShow_eq] at control ⊢
  generalize ((s.atTake h c).setBusy false false true).endShowStreams = u at *
  refine restartLeaves_of_endedBy (sameOutside_setBusy s h c false false true) rfl rfl ended
    ((sameOutside_showCleared _).trans (sameOutside_releaseBusy _)) control fun k hk => ?_
  have posted := showCleared_notices u hk
  rw [show u.theatre = s.theatre from same.theatre] at posted
  exact posted

/-- The show's ending of its streams reads the streams alone. -/
theorem endShowStreams_streams {s t : State} (same : t.streams = s.streams) :
    t.endShowStreams.streams = s.endShowStreams.streams := by
  have one := endShowStreams_endedBy s
  have other := endShowStreams_endedBy t
  have stream : ∀ n, t.stream n = s.stream n := fun n => congrArg (fun b => Bank.get b n) same
  refine Bank.ext_get fun n hn => ?_
  show t.endShowStreams.stream n = s.endShowStreams.stream n
  by_cases shows : (s.stream n).live = true ∧ (s.stream n).owner ≠ .announce
  · rw [other.ended n hn ⟨hn, (stream n).symm ▸ shows⟩, one.ended n hn ⟨hn, shows⟩, stream]
  · rw [other.kept n hn fun h => shows (stream n ▸ h.2), one.kept n hn fun h => shows h.2, stream]

theorem restartShow_engines (s : State) : s.restartShow.streams = s.clearShow.streams
    ∧ s.restartShow.theatre = s.theatre.cleared ∧ s.restartShow.zones = s.zones.map ZoneEntry.houseLevel
    ∧ s.restartShow.stations = s.stations ∧ s.restartShow.groups = s.groups
    ∧ s.restartShow.alarm = s.alarm ∧ s.restartShow.clock = s.clock := by
  have same := endShowStreams_same (s.setBusy false false true)
  have streams := endShowStreams_streams (s := s) (t := s.setBusy false false true) rfl
  rw [restartShow_eq, clearShow_eq]
  generalize (s.setBusy false false true).endShowStreams = u at same streams
  generalize s.endShowStreams = v at streams
  exact ⟨streams, congrArg ShowRecord.cleared same.theatre, congrArg (Bank.map ZoneEntry.houseLevel) same.zones,
    same.stations, same.groups, same.alarm, same.clock⟩

theorem restartShow_busy (s : State) : s.restartShow.control.busyIntercom = s.control.busyIntercom
    ∧ (s.control.busyStream = false → s.restartShow.control.busyStream = false)
    ∧ (s.restartShow.control.busyShow = true ↔ ∃ n < 8, (s.restartShow.stream n).state = .ending
        ∧ (s.restartShow.stream n).owner ≠ .announce) := by
  have control := congrArg State.control (endShowStreams_endedBy (s.setBusy false false true)).frame
  have busy := showCleared_busy (s.setBusy false false true).endShowStreams
  rw [restartShow_eq]
  generalize (s.setBusy false false true).endShowStreams = u at *
  obtain ⟨keptStream, keptIntercom, keptShow⟩ := busy
  have stream : u.control.busyStream = s.control.busyStream := (congrArg ControlUnit.busyStream control).trans (Bool.or_false _)
  have intercom : u.control.busyIntercom = s.control.busyIntercom :=
    (congrArg ControlUnit.busyIntercom control).trans (Bool.or_false _)
  have showEngine : u.control.busyShow = true := (congrArg ControlUnit.busyShow control).trans (Bool.or_true _)
  generalize u.showCleared = v at *
  refine ⟨keptIntercom.trans intercom, fun idle => ?_, ?_⟩
  · exact (releaseBusy_busyStream v).mpr (.inl (keptStream.trans (stream.trans idle)))
  · rw [releaseBusy_busyShow, keptShow, showEngine]
    exact and_iff_right rfl

end Sys2Proof.Machine
end

section
/-! PROOFS. RST by its scope. -/

namespace Sys2Proof.Machine

/-- The ARGUMENT and ALARM checks of an RST ALL or INTERCOM (R43). -/
theorem ownRule_rst_all {s : State} (quiet : s.alarm.state = .quiet) : s.ownRule (.rst 1) = .ok (0, s.restartAll) :=
  if_pos quiet

theorem ownRule_rst_intercom {s : State} (quiet : s.alarm.state = .quiet) :
    s.ownRule (.rst 2) = .ok (0, s.restartIntercom) := if_pos quiet

theorem ownRule_rst_all_alarm {s : State} (alarm : s.alarm.state ≠ .quiet) : s.ownRule (.rst 1) = .error .alarm :=
  if_neg alarm

theorem ownRule_rst_intercom_alarm {s : State} (alarm : s.alarm.state ≠ .quiet) : s.ownRule (.rst 2) = .error .alarm :=
  if_neg alarm

/-- Settles O40: each scope by its own rule; the loops that end streams give the streams, the queue, the page window and the notices
(`EndedBy`), and the engines clear themselves past them. -/
theorem restartByScope : Obligations.RestartByScope := by
  unfold Obligations.RestartByScope
  intro s h heard
  have idleAll : s.control.busyStream = false → s.control.busyIntercom = false → s.control.busyShow = false →
      s.control.scopeBusy 1 = false := fun stream intercom showEngine => by
    show (s.control.busyStream || s.control.busyIntercom || s.control.busyShow) = false
    rw [stream, intercom, showEngine]; rfl
  have all := fun idle => taken_rst (scope := 1) heard rfl idle
  have intercom := fun idle : s.control.busyIntercom = false => taken_rst (scope := 2) heard rfl idle
  have shows := fun idle : s.control.busyShow = false => taken_rst (scope := 3) heard rfl idle
  refine ⟨fun alarm idle => ⟨?_, fun stream showEngine => ?_⟩, fun quiet stream idle showEngine => ?_, fun quiet idle => ?_,
    fun idle => ?_⟩
  · exact (intercom idle).refused (ownRule_rst_intercom_alarm alarm)
  · exact (all (idleAll stream idle showEngine)).refused (ownRule_rst_all_alarm alarm)
  · obtain ⟨stations, groups, theatre, zones, alarm, clock⟩ := restartAll_engines (s.atTake h (.rst 1))
    obtain ⟨busyIntercom, busyStream, busyShow⟩ := restartAll_busy (s.atTake h (.rst 1))
    exact ⟨_, (all (idleAll stream idle showEngine)).accepted (ownRule_rst_all quiet), restartAll_leaves s h _,
      restartAll_streams _, stations, groups, theatre.trans (clearShow_theatre s).symm, zones.trans (clearShow_zones s).symm,
      alarm, clock, busyIntercom, busyStream, busyShow⟩
  · obtain ⟨stations, groups, theatre, zones, alarm, clock⟩ := restartIntercom_engines (s.atTake h (.rst 2))
    exact ⟨_, (intercom idle).accepted (ownRule_rst_intercom quiet), restartIntercom_leaves s h _, restartIntercom_streams _,
      stations, groups, theatre, zones, alarm, clock, restartIntercom_busy _⟩
  · obtain ⟨streams, theatre, zones, stations, groups, alarm, clock⟩ := restartShow_engines (s.atTake h (.rst 3))
    have same : (s.atTake h (.rst 3)).clearShow.streams = s.clearShow.streams := by
      rw [clearShow_streams, clearShow_streams]
      exact endShowStreams_streams rfl
    exact ⟨_, (shows idle).accepted rfl, restartShow_leaves s h _, streams.trans same,
      theatre.trans (clearShow_theatre s).symm, zones.trans (clearShow_zones s).symm, stations, groups, alarm, clock,
      restartShow_busy _⟩

end Sys2Proof.Machine
end

section
/-! SUPPORT. A tick at which the show rests, as a record that is FREE or ENDING sees it: the panel may act, and the works but the stream
engine's own leave the record alone (R71, R92, R93, R102, R131). -/

namespace Sys2Proof.Machine

/-! ## What the works leave -/

/-- What a work leaves of stream `n` where no stream starts: the record once it is not live, its owner, its zones. -/
structure Left (n : Nat) (s t : State) : Prop where
  stream : (s.stream n).live = false → t.stream n = s.stream n
  owner : (t.stream n).owner = (s.stream n).owner
  ownTags : t.transit.ownTags = s.transit.ownTags
  bound : ∀ z < 64, (t.zone z).bound = some n ↔ (s.zone z).bound = some n
  unbound : ∀ z < 64, (s.zone z).bound = none → (t.zone z).bound = none
  rests : s.showRests = true → t.showRests = true

theorem Left.refl (n : Nat) (s : State) : Left n s s := ⟨fun _ => rfl, rfl, rfl, fun _ _ => Iff.rfl, fun _ _ => id, id⟩

theorem Left.trans {n : Nat} {s t u : State} (a : Left n s t) (b : Left n t u) : Left n s u where
  stream rests := (b.stream (by rw [a.stream rests]; exact rests)).trans (a.stream rests)
  owner := b.owner.trans a.owner
  ownTags := b.ownTags.trans a.ownTags
  bound z hz := (b.bound z hz).trans (a.bound z hz)
  unbound z hz := b.unbound z hz ∘ a.unbound z hz
  rests := b.rests ∘ a.rests

theorem sounding_of_not_live {r : StreamRecord} (rests : r.live = false) : r.sounding = false := by
  cases sounds : r.sounding with
  | false => rfl
  | true => rw [sounding_live sounds] at rests; cases rests

theorem Offered.owner {r r' : StreamRecord} (h : Offered r r') : r'.owner = r.owner := by
  obtain rfl | ⟨-, -, same⟩ := h
  · rfl
  · rw [← same]

theorem Passed.left {n : Nat} {s t : State} (h : Passed n s t) : Left n s t where
  stream rests := h.offered.eq_of_stopped (sounding_of_not_live rests)
  owner := h.offered.owner
  ownTags := h.ownTags
  bound := h.bound
  unbound := h.unbound
  rests := h.toAside.rests

theorem Spared.left {n : Nat} {s t : State} (h : Spared n s t) : Left n s t := h.passed.left

/-- A work that touches no stream, no own request and no binding. -/
theorem Left.quiet {n : Nat} {s t : State} (streams : t.streams = s.streams) (transit : t.transit = s.transit)
    (bound : ∀ z < 64, (t.zone z).bound = (s.zone z).bound) (rests : s.showRests = true → t.showRests = true) : Left n s t where
  stream _ := by unfold State.stream; rw [streams]
  owner := by unfold State.stream; rw [streams]
  ownTags := by rw [transit]
  bound z hz := by rw [bound z hz]
  unbound z hz := by rw [bound z hz]; exact id
  rests := rests

/-! ## The alarm unit, acting (R131, R137 to R142) -/

theorem endStream_owner (cause : EndCause) (m : Nat) (s : State) {n : Nat} (hn : n < 8) :
    ((s.endStream cause m).stream n).owner = (s.stream n).owner := by
  rw [endStream_stream cause m n s hn]
  split
  · next own => rw [own.1]
  · rfl

theorem endStream_left {n : Nat} (hn : n < 8) (cause : EndCause) (m : Nat) (s : State) : Left n s (s.endStream cause m) := by
  have same := endStream_same cause m s
  have zone : ∀ z, (s.endStream cause m).zone z = s.zone z := fun z => congrArg (fun b => Bank.get b z) same.zones
  exact {
    stream := fun rests => by
      rw [endStream_stream cause m n s hn]
      exact if_neg fun own => by rw [own.1, rests] at own; cases own.2
    owner := endStream_owner cause m s hn
    ownTags := same.ownTags
    bound := fun z _ => by rw [zone]
    unbound := fun z _ => by rw [zone]; exact id
    rests := fun rests => by
      unfold State.showRests
      rw [same.theatre]
      exact rests }

theorem endAll_left {n : Nat} (hn : n < 8) (cause : EndCause) (s : State) : Left n s (s.endAll cause) :=
  forEach_keeps (P := Left n s) (fun m _ t ht => ht.trans (endStream_left hn cause m t)) (.refl n s)

theorem setShow_left (n : Nat) {s : State} {r : ShowRecord} (rests : s.showRests = true → (s.setShow r).showRests = true) :
    Left n s (s.setShow r) := .quiet rfl rfl (fun _ _ => rfl) rests

theorem hold_left (n : Nat) (s : State) (cause : HoldCause) : Left n s (s.hold cause) := by
  have ramped := (mapZones_spared n s fun e => (holdRamp_same e).2).left
  have held : Left n _ _ := ramped.trans (setShow_left n (r := { s.theatre with
    state := .held, holdCause := some cause, snapshot := some s.holdSnapshot }) fun _ => rfl)
  exact held.trans (post_spared n _ _).left

theorem alarmHold_left (n : Nat) (s : State) : Left n s s.alarmHold := by
  unfold State.alarmHold
  split
  · exact hold_left n s _
  · refine Left.trans (setShow_left n ?_) (post_spared n _ _).left
    exact id
  · exact .refl n s
  · exact .refl n s
  · exact .refl n s

theorem enterSounding_left {n : Nat} (hn : n < 8) (s : State) (source : AlarmSource) : Left n s (s.enterSounding source) := by
  unfold State.enterSounding
  dsimp only
  have alarm := (alarmUnit_spared n s { s.alarm.restartPattern with
    state := .sounding, source := some source, entryTick := s.clock.tickCount }).left
  have posted := (alarm.trans (post_spared n _ .alarm).left).trans (evaluateFallback_spared n _).left
  exact (posted.trans (endAll_left hn .alarm _)).trans (alarmHold_left n _)

theorem soundRequest_left {n : Nat} (hn : n < 8) (s : State) : Left n s s.soundRequest := by
  have cleared := (alarmUnit_spared n s { s.alarm with panelAbort := false }).left
  unfold State.soundRequest
  dsimp only
  split
  · exact cleared
  · exact cleared.trans (enterSounding_left hn _ _)

theorem silenceRequest_left (n : Nat) (s : State) : Left n s s.silenceRequest := by
  unfold State.silenceRequest
  split
  · exact (alarmUnit_spared n s _).left
  · exact .refl n s

theorem seeLine_left {n : Nat} (hn : n < 8) (s : State) : Left n s s.seeLine := by
  have alarm : ∀ a, Left n s { s with alarm := a } := fun a => (alarmUnit_spared n s a).left
  have silence := silenceRequest_left n s
  unfold State.seeLine
  split
  · exact alarm _
  · exact silence
  · exact .refl n s
  · exact .refl n s
  · refine Left.trans ?_ (soundRequest_left hn _)
    exact alarm _
  · exact alarm _
  · exact silence
  · exact .refl n s
  · exact alarm _
  · exact silence
  · exact .refl n s
  · exact .refl n s

theorem alarmTick_left {n : Nat} (hn : n < 8) (s : State) : Left n s s.alarmTick := by
  have alarm : ∀ (u : State) a, Left n u { u with alarm := a } := fun u a => (alarmUnit_spared n u a).left
  have pattern : Left n s s.patternStep := by
    unfold State.patternStep
    split
    · exact alarm s _
    · exact .refl n s
  have held : ∀ u : State, Left n u u.countHold := fun u => by
    unfold State.countHold
    dsimp only
    split
    · split
      · exact (alarm u _).trans (seeLine_left hn _)
      · exact alarm u _
    · exact .refl n u
  have decoded : ∀ u : State, Left n u u.decoderStep := fun u => by
    unfold State.decoderStep State.countWindow
    dsimp only
    split
    · split
      · exact (held u).trans (alarm _ _)
      · exact (held u).trans (alarm _ _)
    · exact held u
  exact (pattern.trans (watchStep_spared n _).1.left).trans (decoded _)

/-! ## The blocks but the stream engine -/

theorem blockTick_left {n : Nat} (hn : n < 8) (before : State) {s : State} {b : TickBlock} (other : b ≠ .stream)
    (rests : s.showRests = true) : Left n s (State.blockTick before s b) := by
  cases b with
  | stream => exact absurd rfl other
  | intercom => exact (intercomTick_passed hn s).left
  | alarm => exact alarmTick_left hn s
  | showEngine => exact (showTick_spared n rests).1.left

theorem foldl_blockTick_left {n : Nat} (hn : n < 8) (before : State) {bs : List TickBlock} (others : .stream ∉ bs) {s : State}
    (rests : s.showRests = true) : Left n s (bs.foldl (State.blockTick before) s) := by
  induction bs generalizing s with
  | nil => exact .refl n s
  | cons b bs ih =>
    rw [List.mem_cons, not_or] at others
    have first := blockTick_left hn before (Ne.symm others.1) rests
    exact first.trans (ih others.2 (first.rests rests))

end Sys2Proof.Machine
end

section
/-! SUPPORT. The stream engine's own tick of every record, and the event of a tick at which the show rests (R44, R92, R93). -/

namespace Sys2Proof.Machine

/-! ## The stream engine's tick -/

theorem setStream_owner {s : State} {n : Nat} {r : StreamRecord} (hn : n < 8) (same : r.owner = (s.stream n).owner) :
    ((s.setStream n r).stream n).owner = (s.stream n).owner := by
  rw [stream_setStream_self s n r hn, same]

theorem fetch_owner (s : State) {n : Nat} (hn : n < 8) : ((s.fetch n).stream n).owner = (s.stream n).owner := by
  by_cases may : (s.stream n).mayFetch = true
  · obtain ⟨b, -, -, fetched⟩ := fetch_stream hn may
    rw [fetched]; rfl
  · rw [fetch_of_not_mayFetch may]

theorem pageWatch_owner (s : State) {n : Nat} (hn : n < 8) : ((s.pageWatch n).stream n).owner = (s.stream n).owner := by
  have counted := setStream_owner (s := s) (r := (s.stream n).countStarved) hn rfl
  unfold State.pageWatch
  dsimp only
  split
  · split
    · exact (endStream_owner _ _ _ hn).trans counted
    · exact counted
  · rfl

theorem freeIfDrained_owner (s : State) {n : Nat} (hn : n < 8) :
    ((s.freeIfDrained n).stream n).owner = (s.stream n).owner := by
  unfold State.freeIfDrained
  dsimp only
  split
  · exact setStream_owner hn rfl
  · rfl

theorem begin_owner (r : StreamRecord) : r.begin.owner = r.owner := by unfold StreamRecord.begin; split <;> rfl

theorem retire_owner (r : StreamRecord) : r.retire.owner = r.owner := by unfold StreamRecord.retire; split <;> rfl

theorem promote_owner (r : StreamRecord) : r.promote.owner = r.owner := by unfold StreamRecord.promote; split <;> rfl

/-- No tick changes whose a stream is (R82). -/
theorem tickRecord_owner (before s : State) {n : Nat} (hn : n < 8) :
    ((State.tickRecord before n s).stream n).owner = (s.stream n).owner := by
  unfold State.tickRecord
  split
  · rfl
  · split
    · have begun := setStream_owner hn (begin_owner (s.stream n))
      unfold State.tickStarting
      dsimp only
      split
      · exact (endStream_owner _ _ _ hn).trans begun
      · exact (pageWatch_owner _ hn).trans begun
    · rfl
  · have retired := setStream_owner hn (retire_owner (s.stream n))
    unfold State.tickPlaying
    dsimp only
    split
    · exact (endStream_owner _ _ _ hn).trans retired
    · have promoted := setStream_owner hn (promote_owner ((s.setStream n (s.stream n).retire).stream n))
      exact (fetch_owner _ hn).trans ((pageWatch_owner _ hn).trans (promoted.trans retired))
  · rfl
  · split
    · exact (freeIfDrained_owner _ hn).trans (setStream_owner hn rfl)
    · rfl

theorem streamTick_owner (before s : State) {n : Nat} (hn : n < 8) :
    ((State.streamTick before s).stream n).owner = (s.stream n).owner := by
  obtain ⟨u, first, last⟩ := streamTick_around hn before s
  rw [last.stream, tickRecord_owner before u hn, first.stream]

/-- A record FREE before the tick stands. -/
theorem streamTick_free {before s : State} {n : Nat} (hn : n < 8) (free : (s.stream n).state = .free) :
    (State.streamTick before s).stream n = s.stream n := by
  obtain ⟨u, first, last⟩ := streamTick_around hn before s
  rw [last.stream, tickRecord_rests before (.inl (by rw [first.stream]; exact free)), first.stream]

/-- A record ENDING before the tick with nothing in flight is FREE, and its zones are unbound (R93). -/
theorem streamTick_ending {before s : State} {n : Nat} (hn : n < 8) (found : before.stream n = s.stream n)
    (ending : (s.stream n).state = .ending) (empty : s.inFlight n = 0) :
    (State.streamTick before s).stream n
        = { s.stream n with queue := [], current := false, drained := true, state := .free }
      ∧ ∀ z < 64, (s.zone z).bound = some n → ((State.streamTick before s).zone z).bound = none := by
  obtain ⟨u, first, last⟩ := streamTick_around hn before s
  obtain ⟨record, unbound⟩ := tickRecord_ending (before := before) hn (found.trans first.stream.symm)
    (by rw [first.stream]; exact ending)
  have inFlight : u.inFlight n = 0 := by
    unfold State.inFlight
    rw [first.ownTags]
    exact empty
  refine ⟨?_, fun z hz bound => last.unbound z hz (unbound z hz ((first.bound z hz).mpr bound))⟩
  rw [last.stream, record, if_pos inFlight, first.stream]

/-- The engines leave the busy set as the stream engine's tick ends (R44, R105, R191). -/
theorem streamTick_busy (before s : State) :
    ((∀ n < 8, ((State.streamTick before s).stream n).state = .free) →
      (State.streamTick before s).control.busyStream = false)
    ∧ ((∀ n < 8, ¬ (((State.streamTick before s).stream n).state = .ending
        ∧ ((State.streamTick before s).stream n).owner ≠ .announce)) →
      (State.streamTick before s).control.busyShow = false) := by
  unfold State.streamTick
  generalize s.forEach (List.range 8) (State.tickRecord before) = u
  refine ⟨fun free => (releaseBusy_busyStream u).mpr (.inr free), fun drained => ?_⟩
  rw [← Bool.not_eq_true, releaseBusy_busyShow u]
  rintro ⟨-, n, hn, ending⟩
  exact drained n hn ending

/-! ## The event -/

/-- The event of a tick at which the show rests: `c` is the state the tick found, `a` the one the stream engine's turn finds. -/
structure TickAround (s c a t : State) : Prop where
  found : ∀ n < 8, c.stream n = s.stream n
  earlier : ∀ n < 8, Left n s a
  later : ∀ n < 8, Left n (State.streamTick c a) t
  unbusied : ∀ e, (State.streamTick c a).control.busy e = false → t.control.busy e = false

theorem foldl_blockTick_orderly {s t : State} (h : Orderly s t) (before : State) (bs : List TickBlock) :
    Orderly s (bs.foldl (State.blockTick before) t) :=
  foldl_blockTick_keeps (fun _ b hu => hu.blockTick before b) bs h

theorem makeTick_tickAround {s : State} (order : TickOrder) (rests : s.showRests = true) :
    ∃ c a, TickAround s c a (s.makeTick order) := by
  obtain ⟨earlier, later, blocks, few, noStream, -⟩ := tickBlocks_split order
  have none : .stream ∉ earlier := fun mem => by obtain e | e := few _ mem <;> cases e
  have counted : ∀ n, Left n s s.tickCounted := fun n => .quiet rfl rfl (fun _ _ => rfl) id
  have arrived := fun n (hn : n < 8) => (counted n).trans (foldl_blockTick_left hn s.tickCounted none rests)
  have whole : s.makeTick order = later.foldl (State.blockTick s.tickCounted)
      (State.streamTick s.tickCounted (earlier.foldl (State.blockTick s.tickCounted) s.tickCounted)) := by
    have taken : ∀ u, State.blockTick s.tickCounted u .stream = State.streamTick s.tickCounted u := fun _ => rfl
    rw [← taken, ← List.foldl_cons, ← List.foldl_append, ← blocks]
    rfl
  generalize earlier.foldl (State.blockTick s.tickCounted) s.tickCounted = a at arrived whole
  have still : (State.streamTick s.tickCounted a).showRests = true := by
    unfold State.showRests
    rw [(streamTick_apart s.tickCounted a).theatre]
    exact (arrived 0 (by decide)).rests rests
  rw [whole]
  exact ⟨s.tickCounted, a, fun _ _ => rfl, arrived, fun n hn => foldl_blockTick_left hn _ noStream still,
    (foldl_blockTick_orderly (Orderly.refl _) _ later).unbusied⟩

/-- Works that spare every record, before the tick's event and after it. -/
theorem TickAround.widen {s s' c a t t' : State} (h : TickAround s c a t) (first : ∀ n, Spared n s' s)
    (last : ∀ n < 8, Left n t t') (unbusied : ∀ e, t.control.busy e = false → t'.control.busy e = false) :
    TickAround s' c a t' where
  found n hn := (h.found n hn).trans (first n).stream
  earlier n hn := (first n).left.trans (h.earlier n hn)
  later n hn := (h.later n hn).trans (last n hn)
  unbusied e := unbusied e ∘ h.unbusied e

theorem measure_orderly (k : Nat) (s : State) : Orderly s (s.forEach (List.range k) fun _ s => s.measureStep) :=
  (Orderly.refl s).forEach fun _ _ hu => hu.measureStep

theorem creditSteps_tickAround {k : Nat} {s : State} (order : Interleave) (rests : s.showRests = true)
    (due : s.clock.tickDue k = true) : ∃ c a, TickAround s c a (s.creditSteps k order) := by
  let p : State := { s with clock := s.clock.advancePhase k }
  have phased : ∀ n, Spared n s p := fun n => clock_spared n s _ rfl
  have restsP : p.showRests = true := rests
  have measured := fun (u : State) n (rests : u.showRests = true) => (measure_spared n k rests).1
  have notYet : ¬ (!s.clock.tickDue k) = true := by simp [due]
  by_cases markFirst : order.markFirst = true
  · have credited : s.creditSteps k order = (p.forEach (List.range k) fun _ s => s.measureStep).makeTick order.blocks :=
      (if_neg notYet).trans (if_pos markFirst)
    obtain ⟨c, a, h⟩ := makeTick_tickAround order.blocks ((measured p 0 restsP).rests restsP)
    rw [credited]
    exact ⟨c, a, h.widen (fun n => (phased n).trans (measured p n restsP)) (fun n _ => .refl n _) fun _ => id⟩
  · have credited : s.creditSteps k order = (p.makeTick order.blocks).forEach (List.range k) fun _ s => s.measureStep :=
      (if_neg notYet).trans (if_neg markFirst)
    obtain ⟨c, a, h⟩ := makeTick_tickAround (s := p) order.blocks restsP
    have restsT : (p.makeTick order.blocks).showRests = true := by
      have theatre := (streamTick_apart c a).theatre
      refine (h.later 0 (by decide)).rests ?_
      unfold State.showRests
      rw [theatre]
      exact (h.earlier 0 (by decide)).rests restsP
    rw [credited]
    exact ⟨c, a, h.widen phased (fun n _ => (measured _ n restsT).left) (measure_orderly k _).unbusied⟩

/-- An event at which the tick phase comes to 48 credits the steps of a tick, and then has the monitor's part (R69, R70, R72). -/
theorem passTime_orderly {s : State} {e : TimeEvent} (ticks : s.ticksAt e = true) :
    ∃ k order, s.clock.tickDue k = true ∧ (∀ n, Spared n (s.creditSteps k order) (s.passTime e))
      ∧ Orderly (s.creditSteps k order) (s.passTime e) := by
  cases e with
  | nextStep gap order =>
    unfold State.ticksAt at ticks
    rw [Bool.and_eq_true, Bool.not_eq_true', beq_iff_eq] at ticks
    obtain ⟨released, phase⟩ := ticks
    refine ⟨1, order, by simp [ClockUnit.tickDue, phase], ?_⟩
    cases source : s.clock.source with
    | line =>
      have passed : s.passTime (.nextStep gap order) = (s.creditSteps 1 order).monitorLine gap := by
        simp [State.passTime, State.clockEdge, source, released]
      rw [passed]
      exact ⟨fun n => monitorLine_spared n _ gap, (Orderly.refl _).monitorLine gap⟩
    | reference =>
      have passed : s.passTime (.nextStep gap order) = s.creditSteps 1 order := by
        simp [State.passTime, State.referenceStep, source, released]
      rw [passed]
      exact ⟨fun n => .refl n _, Orderly.refl _⟩
  | gapExpiry order =>
    unfold State.ticksAt at ticks
    rw [Bool.and_eq_true, Bool.and_eq_true, Bool.not_eq_true', beq_iff_eq] at ticks
    obtain ⟨⟨released, source⟩, due⟩ := ticks
    have passed : s.passTime (.gapExpiry order) = (s.creditSteps 3 order).loseLine := if_neg (by simp [released, source])
    rw [passed]
    exact ⟨3, order, due, fun n => loseLine_spared n _, (Orderly.refl _).loseLine⟩

theorem latch_spared (n : Nat) (s : State) : Spared n s s.latch := by
  refine .quiet rfl rfl (fun _ _ => rfl) (fun posted => ?_) ?_ rfl rfl rfl
  · rw [latch_control]
    unfold ControlUnit.latch
    split <;> exact posted
  · rw [latch_control]
    unfold ControlUnit.latch
    split <;> rfl

theorem latch_busy (s : State) (e : Engine) : s.latch.control.busy e = s.control.busy e := by
  rw [latch_control]
  unfold ControlUnit.latch
  cases e <;> split <;> rfl

theorem run_tickAround {s : State} {e : TimeEvent} (ticks : s.ticksAt e = true) (rests : s.showRests = true) :
    ∃ c a, TickAround s c a (s.run fun s => s.passTime e) := by
  have begun : ∀ n, Spared n s s.begun := fun n => .quiet rfl rfl (fun _ _ => rfl) id rfl rfl rfl rfl
  obtain ⟨k, order, due, spared, orderly⟩ := passTime_orderly (s := s.begun) ticks
  obtain ⟨c, a, h⟩ := creditSteps_tickAround (s := s.begun) order rests due
  exact ⟨c, a, h.widen begun (fun n _ => ((spared n).trans (latch_spared n _)).left) fun e idle =>
    (latch_busy _ e).trans (orderly.unbusied e idle)⟩

/-- A record at rest as the event found it, through the event. -/
theorem TickAround.freed {s c a t : State} (h : TickAround s c a t) {n : Nat} (hn : n < 8)
    (rests : (s.stream n).state = .free ∨ ((s.stream n).state = .ending ∧ s.inFlight n = 0)) :
    ((State.streamTick c a).stream n).state = .free := by
  have notLive : (s.stream n).live = false := (live_eq_false _).mpr (rests.imp_right And.left)
  have stream := (h.earlier n hn).stream notLive
  obtain free | ⟨ending, empty⟩ := rests
  · rw [streamTick_free hn (by rw [stream]; exact free), stream]
    exact free
  · have inFlight : a.inFlight n = 0 := by
      unfold State.inFlight
      rw [(h.earlier n hn).ownTags]
      exact empty
    rw [(streamTick_ending hn ((h.found n hn).trans stream.symm) (by rw [stream]; exact ending) inFlight).1]

end Sys2Proof.Machine
end

section
/-! SUPPORT. The intercom engine's leaving of the busy set at a tick, and the last response of an ENDING record (R44, R93, R128). -/

namespace Sys2Proof.Machine

/-! ## The intercom engine (R128) -/

theorem intercomTick_idle (s : State) : s.intercomTick.control.busyIntercom = false := by
  unfold State.intercomTick
  rfl

theorem intercom_mem_tickBlocks (o : TickOrder) : .intercom ∈ tickBlocks o := by cases o <;> decide

theorem makeTick_intercom (s : State) (order : TickOrder) : (s.makeTick order).control.busyIntercom = false := by
  obtain ⟨earlier, later, blocks⟩ := List.append_of_mem (intercom_mem_tickBlocks order)
  unfold State.makeTick
  dsimp only
  rw [blocks, List.foldl_append, List.foldl_cons]
  refine (foldl_blockTick_orderly (Orderly.refl _) _ later).unbusied .intercom ?_
  exact intercomTick_idle _

theorem creditSteps_intercom {k : Nat} {s : State} (order : Interleave) (due : s.clock.tickDue k = true) :
    (s.creditSteps k order).control.busyIntercom = false := by
  have notYet : ¬ (!s.clock.tickDue k) = true := by simp [due]
  let p : State := { s with clock := s.clock.advancePhase k }
  by_cases markFirst : order.markFirst = true
  · have credited : s.creditSteps k order = (p.forEach (List.range k) fun _ s => s.measureStep).makeTick order.blocks :=
      (if_neg notYet).trans (if_pos markFirst)
    rw [credited]
    exact makeTick_intercom _ _
  · have credited : s.creditSteps k order = (p.makeTick order.blocks).forEach (List.range k) fun _ s => s.measureStep :=
      (if_neg notYet).trans (if_neg markFirst)
    rw [credited]
    exact (measure_orderly k _).unbusied .intercom (makeTick_intercom p order.blocks)

theorem run_intercom {s : State} {e : TimeEvent} (ticks : s.ticksAt e = true) :
    (s.run fun s => s.passTime e).control.busy .intercom = false := by
  obtain ⟨k, order, due, -, orderly⟩ := passTime_orderly (s := s.begun) ticks
  exact (latch_busy _ .intercom).trans (orderly.unbusied .intercom (creditSteps_intercom order due))

/-! ## The last response of an ENDING record (R93) -/

/-- The event of a response to an own READ of a record that is at rest. -/
theorem run_ownResponse {s : State} {k n : Nat} {r : OwnRequest} (status : MemStatus) (words : List Word)
    (port : s.portOpen = true) (hk : k < 32) (own : s.transit.ownTags.get k = some r) (stream : r.stream = n)
    (stopped : (s.stream n).live = false) :
    s.run (fun s => s.passDrain (.response (32 + k) status words)) = ((s.freedOwn k).freeIfDrained n).releaseBusy.latch := by
  have event := Host.Outcome.next.inj (exec_ownResponse status words port hk own)
  rw [← stream] at stopped ⊢
  rw [ownData_dropped status words (s := s.freedOwn k) stopped] at event
  exact event

/-- Its last one leaves nothing in flight. -/
theorem inFlight_freedOwn {s : State} {k n : Nat} {r : OwnRequest} (hk : k < 32) (own : s.transit.ownTags.get k = some r)
    (stream : r.stream = n) (one : s.inFlight n = 1) : (s.freedOwn k).inFlight n = 0 := by
  have fewer : (s.freedOwn k).inFlight n + 1 = s.inFlight n :=
    count_set_none s.transit.ownTags hk (by rw [own]; simp [stream]) rfl
  omega

theorem freeIfDrained_last {s : State} {n : Nat} (hn : n < 8) (ending : (s.stream n).state = .ending)
    (drained : (s.stream n).drained = true) (empty : s.inFlight n = 0) :
    (s.freeIfDrained n).stream n = { s.stream n with state := .free } :=
  (freeIfDrained_stream hn ending).trans (if_pos ⟨drained, empty⟩)

/-! ## The rows -/

theorem exec_streamFree {s : State} {n : Nat} {e : DrainEvent} (ending : (s.stream n).state = .ending)
    (free : ((s.run fun s => s.passDrain e).stream n).state = .free) :
    exec (.streamFree n e) s = .next (s.run fun s => s.passDrain e) := by
  have due : leftEnding n s (s.run fun s => s.passDrain e) = true := by
    unfold leftEnding
    rw [ending, free]
    rfl
  exact congrArg Host.Outcome.next (runIf_of_due due)

theorem exec_busyEnd {s : State} {engine : Engine} {e : DrainEvent} (busy : s.control.busy engine = true)
    (idle : (s.run fun s => s.passDrain e).control.busy engine = false) :
    exec (.busyEnd engine e) s = .next (s.run fun s => s.passDrain e) := by
  have due : leftBusy engine s (s.run fun s => s.passDrain e) = true := by
    unfold leftBusy
    rw [busy, idle]
    rfl
  exact congrArg Host.Outcome.next (runIf_of_due due)

/-! ## What the tick's event comes to -/

theorem TickAround.record {s c a t : State} (h : TickAround s c a t) {n : Nat} (hn : n < 8)
    (ending : (s.stream n).state = .ending) (empty : s.inFlight n = 0) :
    t.stream n = { s.stream n with queue := [], current := false, drained := true, state := .free }
      ∧ ∀ z < 64, (s.zone z).bound = some n → (t.zone z).bound = none := by
  have stream := (h.earlier n hn).stream ((live_eq_false _).mpr (.inr ending))
  have inFlight : a.inFlight n = 0 := by
    unfold State.inFlight
    rw [(h.earlier n hn).ownTags]
    exact empty
  obtain ⟨record, unbound⟩ := streamTick_ending hn ((h.found n hn).trans stream.symm) (by rw [stream]; exact ending) inFlight
  refine ⟨?_, fun z hz bound => (h.later n hn).unbound z hz (unbound z hz (((h.earlier n hn).bound z hz).mpr bound))⟩
  rw [(h.later n hn).stream (by rw [record]; rfl), record, stream]

theorem TickAround.streamLeaves {s c a t : State} (h : TickAround s c a t)
    (rests : ∀ n < 8, (s.stream n).state = .free ∨ ((s.stream n).state = .ending ∧ s.inFlight n = 0)) :
    t.control.busy .stream = false :=
  h.unbusied .stream ((streamTick_busy c a).1 fun n hn => h.freed hn (rests n hn))

theorem TickAround.showLeaves {s c a t : State} (h : TickAround s c a t)
    (rests : ∀ n < 8, (s.stream n).owner ≠ .announce →
      (s.stream n).state = .free ∨ ((s.stream n).state = .ending ∧ s.inFlight n = 0)) :
    t.control.busy .showEngine = false := by
  refine h.unbusied .showEngine ((streamTick_busy c a).2 fun n hn => ?_)
  rintro ⟨ending, owner⟩
  rw [streamTick_owner c a hn, (h.earlier n hn).owner] at owner
  rw [h.freed hn (rests n hn owner)] at ending
  cases ending

end Sys2Proof.Machine
end

section
/-! PROOFS. The records at rest and the busy set. -/

namespace Sys2Proof.Machine

/-- Settles O47: at a tick the stream engine's turn frees the record among works that leave it alone (`TickAround`), and the busy set
is judged at that turn's end; at a response the record is freed where it was the last. -/
theorem recordsComeToRestAndEnginesLeaveBusy : Obligations.RecordsComeToRestAndEnginesLeaveBusy := by
  unfold Obligations.RecordsComeToRestAndEnginesLeaveBusy
  refine ⟨fun s e n ticks rests hn ending empty => ?_, fun s n k r status words port hn hk own stream ending drained one => ?_,
    fun s e ticks => ⟨fun busy => ?_, fun busy rests still => ?_, fun busy rests still => ?_⟩⟩
  · obtain ⟨c, a, h⟩ := run_tickAround ticks rests
    obtain ⟨record, unbound⟩ := h.record hn ending empty
    exact ⟨_, exec_streamFree (e := .time e) ending (congrArg StreamRecord.state record), congrArg StreamRecord.state record,
      congrArg StreamRecord.queue record, (congrArg StreamRecord.endCause record :), unbound⟩
  · let u : State := (s.freedOwn k).freeIfDrained n
    have event := run_ownResponse status words port hk own stream ((live_eq_false _).mpr (.inr ending))
    have record : u.stream n = { s.stream n with state := .free } :=
      freeIfDrained_last (s := s.freedOwn k) hn ending drained (inFlight_freedOwn hk own stream one)
    have others : ∀ m < 8, m ≠ n → u.stream m = s.stream m := fun m hm other =>
      freeIfDrained_other (s := s.freedOwn k) hm other
    have row := exec_streamFree (s := s) (n := n) (e := .response (32 + k) status words) ending
      (by rw [event]; exact congrArg StreamRecord.state record)
    refine ⟨_, row, by rw [event]; exact record, fun busy free => ?_, fun busy rest => ?_⟩
    · have idle : (s.run fun s => s.passDrain (.response (32 + k) status words)).control.busy .stream = false := by
        rw [event, latch_busy]
        refine (releaseBusy_busyStream u).mpr (.inr fun m hm => ?_)
        by_cases own : m = n
        · rw [own, record]
        · rw [others m hm own]; exact free m hm own
      exact ⟨exec_busyEnd busy idle, idle⟩
    · have idle : (s.run fun s => s.passDrain (.response (32 + k) status words)).control.busy .showEngine = false := by
        rw [event, latch_busy, ← Bool.not_eq_true]
        refine mt (releaseBusy_busyShow u).mp ?_
        rintro ⟨-, m, hm, shows⟩
        by_cases own : m = n
        · rw [own, record] at shows; exact absurd shows.1 nofun
        · rw [others m hm own] at shows; exact rest m hm own shows
      exact ⟨exec_busyEnd busy idle, idle⟩
  · exact ⟨_, exec_busyEnd (e := .time e) busy (run_intercom ticks), run_intercom ticks⟩
  · obtain ⟨c, a, h⟩ := run_tickAround ticks rests
    exact ⟨_, exec_busyEnd (e := .time e) busy (h.streamLeaves still), h.streamLeaves still⟩
  · obtain ⟨c, a, h⟩ := run_tickAround ticks rests
    exact ⟨_, exec_busyEnd (e := .time e) busy (h.showLeaves still), h.showLeaves still⟩

end Sys2Proof.Machine
end

section
/-! SUPPORT. The words of the ZONE table (R50 to R56, R151), row by row, as the owner takes them. -/

namespace Sys2Proof.Machine

/-! ## A row of the table -/

theorem writeTable_zone (s : State) (z : Nat) {w : Nat} (hw : w < 8) (data : Word) :
    s.writeTable .zone (8 * z + w) data = s.writeZone z w data := by
  rw [State.writeTable, show (8 * z + w) / 8 = z by omega, show (8 * z + w) % 8 = w by omega]

theorem zoneIndex_le {z w : Nat} (hz : z < 64) (hw : w < 8) : 8 * z + w ≤ lastIndex .zone := by
  show 8 * z + w ≤ 511
  omega

/-- Word `w` of zone `z`, taken by the table's owner: the control unit never closes the ZONE table (R35). -/
theorem zoneRow_written {s t : State} {p : PortAccess} {z w : Nat} {data : Word} (heard : s.hears p.host = true) (hz : z < 64)
    (hw : w < 8) (owner : (s.atPort p .zone (8 * z + w)).writeZone z w data = some t) :
    Host.Outcome.next (s.run fun s => s.writeTableWord p .zone (8 * z + w) data) = t.tableWritten p .zone (8 * z + w) data :=
  tableRow_written heard (zoneIndex_le hz hw) rfl ((writeTable_zone _ z hw data).trans owner)

/-- Word `w` of zone `z`, refused by the table's owner (R35). -/
theorem zoneRow_refused {s : State} {p : PortAccess} {z w : Nat} {data : Word} (heard : s.hears p.host = true) (hz : z < 64)
    (hw : w < 8) (owner : (s.atPort p .zone (8 * z + w)).writeZone z w data = none) :
    Host.Outcome.next (s.run fun s => s.writeTableWord p .zone (8 * z + w) data) = s.tableRefused p .zone (8 * z + w) data :=
  tableRow_refused heard (zoneIndex_le hz hw) fun _ => (writeTable_zone _ z hw data).trans owner

/-- Word 0 of zone `z`, by the shape request it makes. -/
theorem shapeRow_written {s t : State} {p : PortAccess} {z : Nat} {data : Word} (heard : s.hears p.host = true) (hz : z < 64)
    (owner : (s.atPort p .zone (8 * z)).writeZoneShape z data = some t) :
    Host.Outcome.next (s.run fun s => s.writeTableWord p .zone (8 * z) data) = t.tableWritten p .zone (8 * z) data :=
  zoneRow_written (w := 0) heard hz (by decide) owner

theorem shapeRow_refused {s : State} {p : PortAccess} {z : Nat} {data : Word} (heard : s.hears p.host = true) (hz : z < 64)
    (owner : (s.atPort p .zone (8 * z)).writeZoneShape z data = none) :
    Host.Outcome.next (s.run fun s => s.writeTableWord p .zone (8 * z) data) = s.tableRefused p .zone (8 * z) data :=
  zoneRow_refused (w := 0) heard hz (by decide) owner

/-! ## Word 0 (R50, R51, R53, R55) -/

theorem zoneKindOf_zoneKindNumber (k : ZoneKind) : zoneKindOf (zoneKindNumber k) = k := by cases k <;> rfl

/-- Word 0 is read back as the request and the shape it was made of (11.5). -/
theorem zoneWord0_readBack {mapped : Bool} {shape : ZoneShape} (periods : shape.ringPeriods < 64) (lag : shape.senseLag < 64) :
    flag (zoneWord0 mapped shape) 0 = mapped ∧ zoneShapeOf (zoneWord0 mapped shape) = shape := by
  have := bit_le_one mapped
  have := bit_le_one shape.sensePresent
  have := zoneKindNumber_lt shape.kind
  have flagOf {w : Word} {i : Nat} {b : Bool} (h : field w i 1 = bit b) : flag w i = b := by
    rw [flag_eq_field, h]
    cases b <;> rfl
  have request : field (zoneWord0 mapped shape) 0 1 = bit mapped :=
    field_pack (by simp only [sum_field_cons, sum_field_nil]; omega)
  have kind : field (zoneWord0 mapped shape) 1 2 = zoneKindNumber shape.kind :=
    field_pack (by simp only [sum_field_cons, sum_field_nil]; omega)
  have ring : field (zoneWord0 mapped shape) 8 6 = shape.ringPeriods :=
    field_pack (by simp only [sum_field_cons, sum_field_nil]; omega)
  have sense : field (zoneWord0 mapped shape) 16 1 = bit shape.sensePresent :=
    field_pack (by simp only [sum_field_cons, sum_field_nil]; omega)
  have delay : field (zoneWord0 mapped shape) 24 6 = shape.senseLag :=
    field_pack (by simp only [sum_field_cons, sum_field_nil]; omega)
  refine ⟨flagOf request, ?_⟩
  rw [zoneShapeOf, kind, ring, flagOf sense, delay, zoneKindOf_zoneKindNumber]

/-- Word 0 as the mapping and unmapping rows write it, by whether the zone is mapped. -/
theorem writeZoneShape_word0 (s : State) (z : Nat) (mapped : Bool) {shape : ZoneShape} (periods : shape.ringPeriods < 64)
    (lag : shape.senseLag < 64) : s.writeZoneShape z (zoneWord0 mapped shape)
      = if (s.zone z).mapped = mapped then
          if mapped = false ∧ shapeInRange shape = true then some (s.setZone z ((s.zone z).withShape shape)) else none
        else if mapped = true then s.mapZone z shape else s.unmapZone z shape := by
  obtain ⟨flag, fields⟩ := zoneWord0_readBack (mapped := mapped) periods lag
  unfold State.writeZoneShape
  rw [flag, fields]
  dsimp only
  cases was : (s.zone z).mapped <;> cases mapped <;> simp

theorem shapeInRange_iff (shape : ZoneShape) : shapeInRange shape = true
    ↔ 2 ≤ shape.ringPeriods ∧ shape.ringPeriods ≤ 32 ∧ shape.senseLag ≤ 47 := by
  simp only [shapeInRange, Bool.and_eq_true, decide_eq_true_eq, and_assoc]

theorem clearOf_iff (s : State) (p : Span) : s.clearOf p = true ↔ ∀ q ∈ s.regions, p.overlaps q = false := by
  simp only [State.clearOf, List.all_eq_true, Bool.not_eq_true']

theorem inMemory_iff (p : Span) : p.inMemory = true ↔ p.base + p.length ≤ 268435456 := decide_eq_true_iff

/-- Orders 2 to 5 of R51: the rings inside memory and clear of every region, the sense ring only where there is one. -/
theorem zonePlaceable_iff (s : State) (e : ZoneEntry) : s.zonePlaceable e = true
    ↔ e.playoutBase + e.ringPeriods * 48 ≤ 268435456 ∧ (∀ q ∈ s.regions, e.playoutSpan.overlaps q = false)
      ∧ (e.sensePresent = true → e.senseBase + e.ringPeriods * 48 ≤ 268435456
        ∧ e.playoutSpan.overlaps e.senseSpan = false ∧ ∀ q ∈ s.regions, e.senseSpan.overlaps q = false) := by
  simp only [State.zonePlaceable, Bool.and_eq_true, Bool.or_eq_true, Bool.not_eq_true', clearOf_iff, inMemory_iff, and_assoc,
    ← Bool.not_eq_true, ← imp_iff_not_or]
  rfl

theorem mapZone_eq (s : State) (z : Nat) (shape : ZoneShape) : s.mapZone z shape
    = if shapeInRange shape = true ∧ s.zonePlaceable ((s.zone z).withShape shape) = true then
        some ((s.setZone z (s.mapped ((s.zone z).withShape shape))).setShow
          (s.theatre.setSnapshot z (s.snapshotAtMapping ((s.zone z).withShape shape))))
      else none := if_congr (by rw [Bool.and_eq_true]) rfl rfl

/-- The level and the snapshot entry a mapping starts with (R52). -/
theorem mappingLevels {s : State} {e : ZoneEntry} {level : Nat} {entry : Option Nat}
    (running : e.kind = .theatreZone → s.theatre.state ≠ .held → level = e.programGain ∧ entry = none)
    (held : e.kind = .theatreZone → s.theatre.state = .held → level = 0 ∧ entry = some e.programGain)
    (other : e.kind ≠ .theatreZone → level = 0 ∧ entry = none) :
    s.startLevel e = level ∧ s.snapshotAtMapping e = entry := by
  unfold State.startLevel State.snapshotAtMapping
  by_cases theatre : e.kind = .theatreZone
  · by_cases stands : s.theatre.state = .held
    · obtain ⟨rfl, rfl⟩ := held theatre stands
      simp [theatre, stands]
    · obtain ⟨rfl, rfl⟩ := running theatre stands
      simp [theatre, stands]
  · obtain ⟨rfl, rfl⟩ := other theatre
    simp [theatre]

/-! ## Words 3 to 5 (R54) -/

theorem gainsOk_iff (data : Word) : gainsOk data = true ↔ field data 0 13 ≤ 4096 ∧ field data 16 13 ≤ 4096 := by
  simp only [gainsOk, Bool.and_eq_true, decide_eq_true_eq]

theorem priorityWordOk_iff (data : Word) : priorityWordOk data = true
    ↔ 1 ≤ field data 0 3 ∧ 2 ≤ field data 8 8 ∧ (field data 16 4 ≤ 7 ∨ field data 16 4 = 15) := by
  simp only [priorityWordOk, Bool.and_eq_true, Bool.or_eq_true, decide_eq_true_eq, beq_iff_eq, and_assoc]

theorem settled_iff (st : ShowState) : st.settled = true ↔ st = .idle ∨ st = .stopped := by
  cases st <;> simp [ShowState.settled]

/-- Whose level follows its program gain: a mapped THEATRE zone, while the show is IDLE or STOPPED (R54). -/
theorem followsProgram_iff (e : ZoneEntry) (st : ShowState) : (st.settled && e.theatre) = true
    ↔ e.mapped = true ∧ e.kind = .theatreZone ∧ (st = .idle ∨ st = .stopped) := by
  rw [Bool.and_eq_true, settled_iff, ZoneEntry.theatre, Bool.and_eq_true, beq_iff_eq, and_comm, and_assoc]

/-! ## The fallback evaluation (R151) -/

theorem groupUnheard_iff (s : State) (g : Nat) : s.groupUnheard g = true
    ↔ ∃ z < 64, (s.zone z).mapped = true ∧ ((s.zone z).silent = true ∨ (s.zone z).verdict = .failing)
      ∧ (s.zone z).fallbackGroup = some g := by
  rw [State.groupUnheard, any_cells]
  simp only [ZoneEntry.unheard, Bool.and_eq_true, Bool.or_eq_true, beq_iff_eq, and_assoc]
  rfl

theorem evaluateFallback_quiet {s : State} (quiet : s.alarm.state = .quiet) : s.evaluateFallback = s := if_pos quiet

theorem evaluateFallback_alarm {s : State} (alarm : s.alarm.state ≠ .quiet) : s.evaluateFallback
    = { s with alarm := { s.alarm with fallback := Bank.ofFn 8 fun g => s.alarm.fallback.get g || s.groupUnheard g } } :=
  if_neg alarm

end Sys2Proof.Machine
end

section
/-! PROOFS. The rows of the ZONE table. -/

namespace Sys2Proof.Machine

/-- Settles O19: each row through word 0 of the zone, on the state the word is offered to. -/
theorem zonesMapAndUnmap : Obligations.ZonesMapAndUnmap := by
  unfold Obligations.ZonesMapAndUnmap
  refine ⟨fun s p z shape heard hz periods lag => ?_, fun s p z shape heard hz periods lag => ?_⟩
  · intro e at' data held placeable
    have word := writeZoneShape_word0 at' z true periods lag
    have placed : placeable ↔ shapeInRange shape = true ∧ at'.zonePlaceable e = true := by
      rw [shapeInRange_iff, zonePlaceable_iff, and_assoc, and_assoc]
      rfl
    refine ⟨fun unmapped fits level entry running held other => ?_, fun bad => ?_⟩
    · obtain ⟨hl, he⟩ := mappingLevels (s := at') (e := e) running held other
      subst hl he
      refine shapeRow_written heard hz (word.trans ((if_neg (by
        rw [show (at'.zone z).mapped = false from unmapped]; decide)).trans ?_))
      exact (if_pos rfl).trans ((mapZone_eq at' z shape).trans (if_pos (placed.mp fits)))
    · refine shapeRow_refused heard hz (word.trans ?_)
      by_cases mapped : (at'.zone z).mapped = true
      · exact (if_pos mapped).trans (if_neg fun h => nomatch h.1)
      · exact (if_neg mapped).trans ((if_pos rfl).trans ((mapZone_eq at' z shape).trans
          (if_neg (mt placed.mpr (bad.resolve_left mapped)))))
  · intro e at' data inRange
    have word := writeZoneShape_word0 at' z false periods lag
    have fitting : inRange ↔ shapeInRange shape = true := (shapeInRange_iff shape).symm
    refine ⟨fun mapped fits quiet unbound => ?_, fun unmapped fits => ?_, fun bad => ?_⟩
    · refine shapeRow_written heard hz (word.trans ((if_neg (by
        rw [show (at'.zone z).mapped = true from mapped]; decide)).trans ?_))
      exact (if_neg (by decide)).trans (if_pos ⟨fitting.mp fits, quiet, unbound⟩)
    · exact shapeRow_written heard hz
        (word.trans ((if_pos unmapped).trans (if_pos ⟨rfl, fitting.mp fits⟩)))
    · refine shapeRow_refused heard hz (word.trans ?_)
      by_cases unmapped : (at'.zone z).mapped = false
      · refine (if_pos unmapped).trans (if_neg fun h => ?_)
        obtain out | ⟨mapped, -⟩ := bad
        · exact out (fitting.mpr h.2)
        · exact Bool.false_ne_true (unmapped.symm.trans mapped)
      · refine (if_neg unmapped).trans ((if_neg (by decide)).trans (if_neg ?_))
        rintro ⟨fits, quiet, unbound⟩
        obtain out | ⟨-, loud | bound⟩ := bad
        · exact out (fitting.mpr fits)
        · exact loud quiet
        · rw [show (s.zone z).bound = none from unbound] at bound
          cases bound

/-- Settles O21: each word through its own branch of the owner; a line is asserted after the evaluation as it was before, or by an
unheard zone of its group (`groupUnheard_iff`). -/
theorem zoneFieldsAndFallback : Obligations.ZoneFieldsAndFallback := by
  unfold Obligations.ZoneFieldsAndFallback
  refine ⟨fun s p z data heard hz => ?_, fun s => ⟨evaluateFallback_quiet, fun alarm => ⟨fun g hg => ?_, ?_⟩⟩⟩
  · intro e at' wrote refused gains follows fits
    have written {w : Nat} (hw : w < 8) {t : State} (owner : (at' w).writeZone z w data = some t) :
        exec (.zoneFieldWrite p z w data) s = t.tableWritten p .zone (8 * z + w) data := zoneRow_written heard hz hw owner
    have rejected {w : Nat} (hw : w < 8) (owner : (at' w).writeZone z w data = none) :
        exec (.zoneFieldWrite p z w data) s = refused w := zoneRow_refused heard hz hw owner
    have base : baseOk (!e.mapped) data = true ↔ e.mapped = false ∧ data.toNat ≤ 268435455 := by
      rw [baseOk_iff, Bool.not_eq_true']
    have gained : gainsOk data = true ↔ gains := gainsOk_iff data
    have followed : (s.theatre.state.settled && e.theatre) = true ↔ follows := followsProgram_iff e s.theatre.state
    have fitting : priorityWordOk data = true ↔ fits := priorityWordOk_iff data
    refine ⟨?_, fun unmapped low => ?_, fun bad => ?_, fun ok follow => ?_, fun ok still => ?_, fun ok => ?_, fun bad => ?_,
      fun ok => ?_, fun bad => ?_, ?_, ?_⟩
    · cases owner : (at' 0).writeZoneShape z data with
      | some t => exact shapeRow_written heard hz owner
      | none => exact shapeRow_refused heard hz owner
    · have inside := base.mpr ⟨unmapped, low⟩
      exact ⟨written (w := 1) (by decide) (if_pos inside), written (w := 2) (by decide) (if_pos inside)⟩
    · have outside : ¬ baseOk (!e.mapped) data = true := by
        rw [base]
        rintro ⟨unmapped, low⟩
        exact bad.elim (fun mapped => Bool.false_ne_true (unmapped.symm.trans mapped)) (Nat.not_lt.mpr low)
      exact ⟨rejected (w := 1) (by decide) (if_neg outside), rejected (w := 2) (by decide) (if_neg outside)⟩
    · exact written (w := 3) (by decide) ((if_pos (gained.mpr ok)).trans
        (congrArg (fun e' => some ((at' 3).setZone z e')) (if_pos (followed.mpr follow))))
    · exact written (w := 3) (by decide) ((if_pos (gained.mpr ok)).trans
        (congrArg (fun e' => some ((at' 3).setZone z e')) (if_neg (mt followed.mp still))))
    · exact written (w := 4) (by decide) (if_pos (gained.mpr ok))
    · have bad := mt gained.mp bad
      exact ⟨rejected (w := 3) (by decide) (if_neg bad), rejected (w := 4) (by decide) (if_neg bad)⟩
    · exact written (w := 5) (by decide) (if_pos (fitting.mpr ok))
    · exact rejected (w := 5) (by decide) (if_neg (mt fitting.mp bad))
    · exact written (w := 6) (by decide) rfl
    · exact rejected (w := 7) (by decide) rfl
  · rw [evaluateFallback_alarm alarm, Bank.get_ofFn _ _ hg, Bool.or_eq_true, groupUnheard_iff]
  · exact ⟨_, evaluateFallback_alarm alarm⟩

end Sys2Proof.Machine
end

section
/-! SUPPORT. The terms of a playout word (R58 to R62). -/

namespace Sys2Proof.Machine

/-- The clamp as the nearest value of the sample range (R62). -/
theorem clamp_eq (v : Int) : clamp v = max (-8388608) (min 8388607 v) := by
  unfold clamp
  omega

theorem pilotTerm_eq (e : ZoneEntry) (i : Nat) : e.pilotTerm i
    = if e.sensePresent = true ∧ pilotPositive e.pilotPattern i = true then (e.pilotLevel : Int)
      else if e.sensePresent = true then -e.pilotLevel else 0 := by
  unfold ZoneEntry.pilotTerm pilotSign
  by_cases present : e.sensePresent = true
  · by_cases positive : pilotPositive e.pilotPattern i = true <;> simp [present, positive]
  · simp [present]

theorem currentSamples_eq_some {r : StreamRecord} {x : Bank 48 Word} : r.currentSamples = some x
    ↔ r.state = .playing ∧ r.current = true ∧ ∃ slot rest, r.queue = slot :: rest ∧ x = r.buffers.get slot.buffer := by
  unfold StreamRecord.currentSamples
  split
  · next plays =>
    obtain ⟨playing, current⟩ := plays
    cases r.queue <;> simp [playing, current, eq_comm]
  · next rests =>
    refine ⟨nofun, ?_⟩
    rintro ⟨playing, current, -⟩
    exact absurd ⟨playing, current⟩ rests

/-- What contributes to a zone: the current slot of the PLAYING stream bound to it, with the stream engine not BUSY (R58). -/
theorem contributing_eq_some {s : State} {z : Nat} {x : Bank 48 Word} : s.contributing z = some x
    ↔ ∃ n slot rest, (s.zone z).bound = some n ∧ s.control.busyStream = false ∧ (s.stream n).state = .playing
      ∧ (s.stream n).current = true ∧ (s.stream n).queue = slot :: rest ∧ x = (s.stream n).buffers.get slot.buffer := by
  unfold State.contributing
  cases (s.zone z).bound with
  | none => simp
  | some n =>
    cases s.control.busyStream with
    | true => simp
    | false => simp [currentSamples_eq_some]

/-- The rows of R59 with program: QUIET, and a CREW zone in MUSTER. -/
theorem sum_program {e : ZoneEntry} {alarm : AlarmState} (h : alarm = .quiet ∨ (alarm = .muster ∧ e.kind = .crewZone))
    (tone m : Int) (sample : Option Int) : e.sum alarm tone m sample = e.programSum m sample := by
  obtain rfl | ⟨rfl, crew⟩ := h
  · rfl
  · exact if_pos crew

/-- The row of R59 without program: a zone of another kind in MUSTER. -/
theorem sum_muster {e : ZoneEntry} (passengers : e.kind ≠ .crewZone) (tone m : Int) (sample : Option Int) :
    e.sum .muster tone m sample = e.streamSum sample := if_neg passengers

end Sys2Proof.Machine
end

section
/-! PROOFS. The playout word. -/

namespace Sys2Proof.Machine

/-- Settles O52: the sum of R59 is chosen by the alarm state and the zone's kind, its terms by what contributes to the zone; the
clamp and the pilot are the same in every row. -/
theorem playoutWordIsComposed : Obligations.PlayoutWordIsComposed := by
  intro s z i word e times m g q out from' alone
  have composed {alarm : AlarmState} {sample : Option (Bank 48 Word)} {v : Int} (state : s.alarm.state = alarm)
      (contributes : s.contributing z = sample)
      (sum : e.sum alarm (s.alarm.tone i) m (sample.map fun b => sampleOf (b.get i)) = v) : out v := by
    show s.playoutWord z i word = _
    rw [State.playoutWord, sampleWord, clamp_eq, state, contributes, pilotTerm_eq]
    exact congrArg (fun v => BitVec.ofInt 32 (max (-8388608) (min 8388607 (v + q)))) sum
  have contributed {x : Bank 48 Word} (h : from' x) : s.contributing z = some x := contributing_eq_some.mpr h
  have silent (h : alone) : s.contributing z = none :=
    Option.eq_none_iff_forall_ne_some.mpr fun x contributes => h x (contributing_eq_some.mp contributes)
  refine ⟨fun sounding => composed sounding rfl rfl, fun x h => ⟨fun program => ?_, fun muster passengers => ?_⟩,
    fun h => ⟨fun program => ?_, fun muster passengers => ?_⟩⟩
  · exact composed rfl (contributed h) (sum_program program _ _ _)
  · exact composed muster (contributed h) (sum_muster passengers _ _ _)
  · exact composed rfl (silent h) (sum_program program _ _ _)
  · exact composed muster (silent h) (sum_muster passengers _ _ _)

end Sys2Proof.Machine
end

section
/-! SUPPORT. What the works of a tick leave alone: the tags and the forwarded requests, the lines, the groups and the stations,
the watches, the posted notices; and, but for the stream engine's leaving of the busy set, the clock unit and that set (R71). -/

namespace Sys2Proof.Machine

/-! ## The relations -/

/-- An act that leaves the requests but its own, the lines, the intercom and the watches, and withdraws no notice. -/
structure Beside (s t : State) : Prop where
  transit : t.transit = { s.transit with ownQueue := t.transit.ownQueue }
  lines : t.lines = s.lines
  groups : t.groups = s.groups
  stations : t.stations = s.stations
  watched : ∀ z < 64, (t.zone z).mapped = (s.zone z).mapped ∧ (t.zone z).watch = (s.zone z).watch
  posted : ∀ k < 9, s.control.pendingNotices.get k = true → t.control.pendingNotices.get k = true

/-- An act that also leaves the clock unit and the stream engine's place in the busy set. -/
structure Still (s t : State) : Prop extends Beside s t where
  clock : t.clock = s.clock
  busyStream : t.control.busyStream = s.control.busyStream

theorem Beside.refl (s : State) : Beside s s := ⟨rfl, rfl, rfl, rfl, fun _ _ => ⟨rfl, rfl⟩, fun _ _ => id⟩

theorem Beside.trans {s t u : State} (h : Beside s t) (k : Beside t u) : Beside s u where
  transit := by rw [k.transit, h.transit]
  lines := k.lines.trans h.lines
  groups := k.groups.trans h.groups
  stations := k.stations.trans h.stations
  watched z hz := ⟨(k.watched z hz).1.trans (h.watched z hz).1, (k.watched z hz).2.trans (h.watched z hz).2⟩
  posted n hn := k.posted n hn ∘ h.posted n hn

theorem Still.refl (s : State) : Still s s := ⟨.refl s, rfl, rfl⟩

theorem Still.trans {s t u : State} (h : Still s t) (k : Still t u) : Still s u :=
  ⟨h.toBeside.trans k.toBeside, k.clock.trans h.clock, k.busyStream.trans h.busyStream⟩

theorem post_posted (c : ControlUnit) (k : NoticeKind) {n : Nat} (hn : n < 9) (posted : c.pendingNotices.get n = true) :
    (c.post k).pendingNotices.get n = true := by
  refine (Bank.get_set _ _ _ _ hn).trans ?_
  split
  · rfl
  · exact posted

theorem post_posts (s : State) (k : NoticeKind) : (s.post k).control.pendingNotices.get k.index = true :=
  Bank.get_set_self _ _ _ (by cases k <;> decide)

section acts

variable {s t : State} (h : Still s t)
include h

/-- An act on the parts that no field of the relation reads. -/
theorem Still.quiet {u : State} (transit : u.transit = { t.transit with ownQueue := u.transit.ownQueue } := by rfl)
    (lines : u.lines = t.lines := by rfl) (groups : u.groups = t.groups := by rfl)
    (stations : u.stations = t.stations := by rfl) (zones : u.zones = t.zones := by rfl) (clock : u.clock = t.clock := by rfl)
    (control : u.control = t.control := by rfl) : Still s u :=
  h.trans ⟨⟨transit, lines, groups, stations, fun z _ => by rw [State.zone, zones]; exact ⟨rfl, rfl⟩,
    fun _ _ => by rw [control]; exact id⟩, clock, by rw [control]⟩

theorem Still.zones {zones : Bank 64 ZoneEntry}
    (same : ∀ z < 64, (zones.get z).mapped = (t.zone z).mapped ∧ (zones.get z).watch = (t.zone z).watch) :
    Still s { t with zones := zones } :=
  h.trans ⟨⟨rfl, rfl, rfl, rfl, same, fun _ _ => id⟩, rfl, rfl⟩

theorem Still.mapZones {f : ZoneEntry → ZoneEntry} (same : ∀ e, (f e).mapped = e.mapped ∧ (f e).watch = e.watch) :
    Still s { t with zones := t.zones.map f } :=
  h.zones fun z hz => by rw [Bank.get_map f _ z hz]; exact same _

theorem Still.setZone {z : Nat} {e : ZoneEntry} (same : e.mapped = (t.zone z).mapped ∧ e.watch = (t.zone z).watch) :
    Still s (t.setZone z e) :=
  h.zones fun y hy => by
    rw [Bank.get_set _ _ _ _ hy]
    split
    · next here => rw [← here]; exact same
    · exact ⟨rfl, rfl⟩

theorem Still.post (k : NoticeKind) : Still s (t.post k) :=
  h.trans ⟨⟨rfl, rfl, rfl, rfl, fun _ _ => ⟨rfl, rfl⟩, fun _ hn => post_posted t.control k hn⟩, rfl, rfl⟩

theorem Still.countedFrom (before : Nat) : Still s (t.countedFrom before) := by
  unfold State.countedFrom
  split
  · exact h.post _
  · exact h

theorem Still.setShow (r : ShowRecord) : Still s (t.setShow r) := h.quiet

theorem Still.setStream (n : Nat) (r : StreamRecord) : Still s (t.setStream n r) := h.quiet

theorem Still.alarm (a : AlarmUnit) : Still s { t with alarm := a } := h.quiet

/-- A loop of acts. -/
theorem Still.forEach {f : Nat → State → State} {ns : List Nat} (turns : ∀ n u, Still s u → Still s (f n u)) :
    Still s (t.forEach ns f) :=
  forEach_keeps (fun n _ u hu => turns n u hu) h

/-! ## The stream engine -/

theorem Still.endStream (cause : EndCause) (n : Nat) : Still s (t.endStream cause n) := by
  by_cases live : (t.stream n).live = true
  · rw [endStream_of_live cause live]
    refine Still.post ?_ .stream
    exact h.quiet
  · rw [endStream_of_not_live cause (Bool.eq_false_iff.mpr live)]
    exact h

theorem Still.endMany (cause : EndCause) (p : Nat → State → Prop) [∀ n s, Decidable (p n s)] :
    Still s (t.forEach (List.range 8) fun n s => if p n s then s.endStream cause n else s) :=
  h.forEach fun n u hu => by
    split
    · exact hu.endStream cause n
    · exact hu

theorem Still.endAll (cause : EndCause) : Still s (t.endAll cause) := h.forEach fun n _ hu => hu.endStream cause n

theorem Still.endShowStreams : Still s t.endShowStreams := h.endMany .stopped fun n u => (u.stream n).showOwned = true

theorem Still.fetch (n : Nat) : Still s (t.fetch n) := by
  rw [fetch_frame]
  exact h.quiet

theorem Still.startClip (n : Nat) (owner : StreamOwner) (priority base periods repeats : Nat) (zs : List Nat) :
    Still s (t.startStream n owner priority (.clip base periods repeats) zs) := by
  have bound := (h.setStream n ((t.stream n).setUp owner priority (.clip base periods repeats))).forEach (ns := zs)
    (f := State.bindZone n) fun z _ hu => hu.setZone ⟨rfl, rfl⟩
  exact (bound.endMany .preempted fun m u => m ≠ n ∧ u.zoneSetOf m = []).fetch n

theorem Still.pageWatch (n : Nat) : Still s (t.pageWatch n) := by
  unfold State.pageWatch
  dsimp only
  repeat' split
  · exact (h.setStream _ _).endStream _ _
  · exact h.setStream _ _
  · exact h

theorem Still.freeIfDrained (n : Nat) : Still s (t.freeIfDrained n) := by
  rw [freeIfDrained_frame]
  exact h.quiet

theorem Still.unbindAll (n : Nat) : Still s (t.unbindAll n) := h.mapZones fun e => by split <;> exact ⟨rfl, rfl⟩

theorem Still.tickRecord (before : State) (n : Nat) : Still s (State.tickRecord before n t) := by
  unfold State.tickRecord
  split
  · exact h
  · split
    · unfold State.tickStarting
      dsimp only
      split
      · exact (h.setStream _ _).endStream _ _
      · exact (h.setStream _ _).pageWatch _
    · exact h
  · unfold State.tickPlaying
    dsimp only
    split
    · exact (h.setStream _ _).endStream _ _
    · exact (((h.setStream _ _).setStream _ _).pageWatch _).fetch _
  · exact h
  · split
    · exact ((h.setStream _ _).unbindAll n).freeIfDrained n
    · exact h

/-! ## The show engine -/

omit h in
theorem startRamp_watch (e : ZoneEntry) (target r : Nat) :
    (e.startRamp target r).mapped = e.mapped ∧ (e.startRamp target r).watch = e.watch := by
  unfold ZoneEntry.startRamp
  split <;> exact ⟨rfl, rfl⟩

theorem Still.houseLevels : Still s t.houseLevels := h.mapZones fun e => by
  unfold ZoneEntry.houseLevel
  split <;> exact ⟨rfl, rfl⟩

theorem Still.cueAction (n : Nat) (c : Cue) : Still s (t.cueAction n c).1 := by
  unfold State.cueAction
  cases c.action with
  | note => exact h
  | endShow => exact h
  | fade =>
    dsimp only [State.fade]
    split
    · exact h
    · exact h.forEach fun z u hu => hu.setZone (startRamp_watch (u.zone z) _ _)
  | play =>
    dsimp only [State.play]
    repeat' split
    · exact h
    · exact h
    · exact h
    · next u started =>
      obtain ⟨m, -, -, rfl⟩ := startRequest_some started
      exact h.startClip m (.showCue n) 2 _ _ _ _
  | halt =>
    dsimp only [State.endCueStream]
    exact h.endMany .stopped fun m u => (u.stream m).owner = .showCue (field c.word3 0 8)

theorem Still.passCue (n : Nat) (notify : Bool) (st : CueState) : Still s (t.passCue n notify st) := by
  unfold State.passCue
  dsimp only
  split
  · exact ((h.setShow _).setShow _).post _
  · exact h.setShow _

theorem Still.endShow : Still s t.endShow := (h.endShowStreams.houseLevels.setShow _).post _

theorem Still.fireCue : Still s t.fireCue := by
  have passed := (h.cueAction t.theatre.pointer (t.theatre.cue t.theatre.pointer)).passCue t.theatre.pointer
    (t.theatre.cue t.theatre.pointer).notify (t.cueAction t.theatre.pointer (t.theatre.cue t.theatre.pointer)).2
  unfold State.fireCue
  dsimp only
  split
  · exact passed.endShow
  · exact passed

theorem Still.consider : Still s t.consider := consider_keeps (fun _ hu => hu.fireCue) (fun _ hu => hu.passCue _ _ _) h

theorem Still.showTick : Still s t.showTick := by
  have stepped := h.mapZones (f := ZoneEntry.stepRamp) fun e => by
    unfold ZoneEntry.stepRamp
    repeat' split
    all_goals exact ⟨rfl, rfl⟩
  exact (stepped.setShow _).consider

theorem Still.alarmHold : Still s t.alarmHold := by
  have ramped := h.mapZones (f := ZoneEntry.holdRamp) fun e => by
    unfold ZoneEntry.holdRamp
    split
    · exact startRamp_watch e 0 24
    · exact ⟨rfl, rfl⟩
  unfold State.alarmHold
  split
  · exact (ramped.setShow _).post _
  · exact (h.setShow _).post _
  · exact h
  · exact h
  · exact h

/-! ## The alarm unit -/

theorem Still.evaluateFallback : Still s t.evaluateFallback := by
  unfold State.evaluateFallback
  split
  · exact h
  · exact h.alarm _

theorem Still.enterSounding (source : AlarmSource) : Still s (t.enterSounding source) := by
  unfold State.enterSounding
  exact (((h.alarm _).post .alarm).evaluateFallback.endAll .alarm).alarmHold

theorem Still.soundRequest : Still s t.soundRequest := by
  unfold State.soundRequest
  dsimp only
  split
  · exact h.alarm _
  · exact (h.alarm _).enterSounding _

theorem Still.silenceRequest : Still s t.silenceRequest := by
  unfold State.silenceRequest
  split
  · exact h.alarm _
  · exact h

theorem Still.seeLine : Still s t.seeLine := by
  unfold State.seeLine
  split
  · exact h.alarm _
  · exact h.silenceRequest
  · exact h
  · exact h
  · exact Still.soundRequest (h.alarm _)
  · exact (h.alarm _).alarm _
  · exact h.silenceRequest
  · exact h
  · exact h.alarm _
  · exact h.silenceRequest
  · exact h
  · exact h

theorem Still.decoderStep : Still s t.decoderStep := by
  have held : Still s t.countHold := by
    unfold State.countHold
    dsimp only
    repeat' split
    · exact (h.alarm _).seeLine
    · exact h.alarm _
    · exact h
  unfold State.decoderStep State.countWindow
  dsimp only
  repeat' split
  · exact (held.alarm _).alarm _
  · exact held.alarm _
  · exact held

theorem Still.postSilents (es : List ZoneEntry) : Still s (es.foldl (fun t e => State.postSilent e t) t) := by
  induction es generalizing t with
  | nil => exact h
  | cons e es ih =>
    refine ih ?_
    dsimp only [State.postSilent]
    split
    · exact (h.post _).countedFrom _
    · exact h

/-! ## The intercom engine -/

theorem Still.offerGroup (g : Nat) : Still s (State.offerGroup g t) := by
  unfold State.offerGroup
  split
  · refine h.forEach fun n u hu => ?_
    unfold State.offerPeriod
    dsimp only
    split
    · split
      · exact hu.quiet
      · exact hu.setStream _ _
    · exact hu
  · exact h

end acts

/-! ## The blocks -/

/-- Every watch has fallen (R149). -/
def State.watchFallen (s : State) : State := { s with zones := s.zones.map ZoneEntry.stepWatch }

/-- The alarm unit's work, but for the falling of the watches. -/
theorem alarmTick_still (s : State) : Still s.watchFallen s.alarmTick := by
  have watched : ∀ t : State, Still t.watchFallen t.watchStep := fun t => by
    have posted := (Still.refl t.watchFallen).postSilents t.zones.cells
    unfold State.watchStep
    dsimp only
    split
    · exact posted.evaluateFallback
    · exact posted
  have pattern : Still s.watchFallen s.patternStep.watchFallen := by
    unfold State.patternStep
    split
    · exact (Still.refl _).alarm _
    · exact .refl _
  exact (pattern.trans (watched _)).decoderStep

/-- The intercom engine's work, but for the swaps. -/
theorem intercomTick_still (s : State) : Still s.swapIntercom s.intercomTick := by
  have offered := (Still.refl s.swapIntercom).forEach (ns := List.range 16) fun g _ hu => hu.offerGroup g
  have freed : ∀ t : State, Still t { t with control := { t.control with busyIntercom := false } } := fun _ =>
    ⟨⟨rfl, rfl, rfl, rfl, fun _ _ => ⟨rfl, rfl⟩, fun _ _ => id⟩, rfl, rfl⟩
  unfold State.intercomTick
  exact offered.trans (freed _)

/-- The stream engine's work, but for its leaving of the busy set. -/
theorem streamTick_beside (before s : State) : Beside s (State.streamTick before s) := by
  have ticked := (Still.refl s).forEach (ns := List.range 8) fun n _ hu => hu.tickRecord before n
  have released : ∀ t : State, Beside t t.releaseBusy := fun _ =>
    ⟨rfl, rfl, rfl, rfl, fun _ _ => ⟨rfl, rfl⟩, fun _ _ => id⟩
  unfold State.streamTick
  exact ticked.toBeside.trans (released _)

/-- What a block changes of what the relation reads: the intercom engine swaps, the alarm unit lets the watches fall. -/
def State.blockSwept (s : State) : TickBlock → State
  | .stream => s
  | .intercom => s.swapIntercom
  | .alarm => s.watchFallen
  | .showEngine => s

theorem blockTick_beside (before s : State) (b : TickBlock) : Beside (s.blockSwept b) (State.blockTick before s b) := by
  cases b with
  | stream => exact streamTick_beside before s
  | intercom => exact (intercomTick_still s).toBeside
  | alarm => exact (alarmTick_still s).toBeside
  | showEngine => exact (Still.refl s).showTick.toBeside

theorem stepWatch_watch (e : ZoneEntry) : e.stepWatch.mapped = e.mapped
    ∧ e.stepWatch.watch = if e.mapped = true then e.watch - 1 else e.watch := by
  unfold ZoneEntry.stepWatch ZoneEntry.fallsSilent
  cases mapped : e.mapped
  · simp [mapped]
  · by_cases one : e.watch = 1
    · simp [one]
    · simp [one]

/-- What a block changes, it changes alike after acts that leave it. -/
theorem Beside.blockSwept {s t : State} (h : Beside s t) (b : TickBlock) : Beside (s.blockSwept b) (t.blockSwept b) := by
  cases b with
  | stream => exact h
  | intercom =>
    exact ⟨h.transit, h.lines, congrArg (Bank.map GroupRecord.swap) h.groups, congrArg (Bank.map StationRecord.swap) h.stations,
      h.watched, h.posted⟩
  | alarm =>
    refine ⟨h.transit, h.lines, h.groups, h.stations, fun z hz => ?_, h.posted⟩
    have fallen : ∀ u : State, u.watchFallen.zone z = (u.zone z).stepWatch := fun u => Bank.get_map _ u.zones z hz
    obtain ⟨mapped, watch⟩ := h.watched z hz
    show (t.watchFallen.zone z).mapped = (s.watchFallen.zone z).mapped
      ∧ (t.watchFallen.zone z).watch = (s.watchFallen.zone z).watch
    rw [fallen, fallen, (stepWatch_watch _).1, (stepWatch_watch _).1, (stepWatch_watch _).2, (stepWatch_watch _).2, mapped, watch]
    exact ⟨rfl, rfl⟩
  | showEngine => exact h

theorem foldl_blockTick_beside (before : State) (bs : List TickBlock) {s t : State} (h : Beside s t) :
    Beside (bs.foldl State.blockSwept s) (bs.foldl (State.blockTick before) t) := by
  induction bs generalizing s t with
  | nil => exact h
  | cons b bs ih => exact ih ((h.blockSwept b).trans (blockTick_beside before t b))

/-- What a tick changes of what the relation reads, whatever the order of the blocks (R118, R119, R149, R194). -/
def State.swept (s : State) : State := s.swapIntercom.watchFallen

theorem foldl_blockSwept (s : State) (o : TickOrder) : (tickBlocks o).foldl State.blockSwept s = s.swept := by
  cases o <;> rfl

theorem makeTick_beside (s : State) (order : TickOrder) : Beside s.swept (s.makeTick order) := by
  rw [← foldl_blockSwept s order]
  exact foldl_blockTick_beside s.tickCounted (tickBlocks order) (s := s) (t := s.tickCounted)
    ⟨rfl, rfl, rfl, rfl, fun _ _ => ⟨rfl, rfl⟩, fun _ _ => id⟩

theorem Beside.swept {s t : State} (h : Beside s t) : Beside s.swept t.swept := (h.blockSwept .intercom).blockSwept .alarm

/-- A tick counts itself and leaves the rest of the clock unit alone (R71). -/
theorem makeTick_clock (s : State) (order : TickOrder) : (s.makeTick order).clock = s.tickCounted.clock := by
  refine makeTick_keeps (P := fun t => t.clock = s.tickCounted.clock) (fun before t b ht => ?_) rfl
  refine Eq.trans ?_ ht
  cases b with
  | stream => exact (streamTick_apart before t).clock
  | intercom => exact (intercomTick_still t).clock
  | alarm => exact (alarmTick_still t).clock
  | showEngine => exact (Still.refl t).showTick.clock

end Sys2Proof.Machine
end

section
/-! SUPPORT. The clock unit's registers: what a measured step makes of them, alone and as one of the steps credited at an event,
with the tick they make (R69, R70, R72, R75, R77, R78). -/

namespace Sys2Proof.Machine

/-! ## One measured step -/

/-- The mark is counted (R79). -/
def ClockUnit.markMade (c : ClockUnit) : ClockUnit := { c with markCount := (c.markCount + 1) % 16777216 }

/-- A window of LOCKED or HOLDOVER closes: a synthesized mark is made (R77, R78). -/
def ClockUnit.expired (c : ClockUnit) : ClockUnit :=
  match c.lock with
  | .free => c
  | .acquiring => c
  | .locked => { c with lock := .holdover, synthesized := 1, stepCount := 16 }.markMade
  | .holdover =>
    if c.synthesized + 1 = 24 then { c with lock := .free, synthesized := 0 }.markMade
    else { c with synthesized := c.synthesized + 1, stepCount := 16 }.markMade

/-- The registers after a measured step (R75, R77, R78). -/
def ClockUnit.measured (c : ClockUnit) : ClockUnit := if c.countStep.windowClosed then c.countStep.expired else c.countStep

/-- The closing of the window changes the lock state: in LOCKED, and at the 24th synthesized mark (R77, R78). -/
def ClockUnit.lockMoves (c : ClockUnit) : Prop := c.lock = .locked ∨ (c.lock = .holdover ∧ c.synthesized + 1 = 24)

theorem Still.withClock {s t : State} (h : Still s t) (c : ClockUnit) : Still { s with clock := c } { t with clock := c } :=
  ⟨⟨h.transit, h.lines, h.groups, h.stations, h.watched, h.posted⟩, rfl, h.busyStream⟩

theorem markEvent_still (s : State) : Still { s with clock := s.clock.markMade } s.markEvent := (Still.refl _).consider

/-- A change of the lock state posts SHOW, whatever its mark brings about (R79). -/
theorem post_markEvent_still (s : State) : Still { s with clock := s.clock.markMade } (s.post .showNotice).markEvent
    ∧ (s.post .showNotice).markEvent.control.pendingNotices.get 5 = true := by
  have marked := markEvent_still (s.post .showNotice)
  refine ⟨Still.trans ?_ marked, marked.posted 5 (by decide) (post_posts s .showNotice)⟩
  exact (Still.refl _).post .showNotice

theorem expired_of_seeking {c : ClockUnit} (lock : c.lock = .free ∨ c.lock = .acquiring) : c.expired = c := by
  unfold ClockUnit.expired
  obtain free | acquiring := lock
  · rw [free]
  · rw [acquiring]

theorem expired_of_locked {c : ClockUnit} (lock : c.lock = .locked) :
    c.expired = { c with lock := .holdover, synthesized := 1, stepCount := 16 }.markMade := by
  unfold ClockUnit.expired
  rw [lock]

theorem expired_of_more {c : ClockUnit} (lock : c.lock = .holdover) (more : c.synthesized + 1 ≠ 24) :
    c.expired = { c with synthesized := c.synthesized + 1, stepCount := 16 }.markMade := by
  unfold ClockUnit.expired
  rw [lock]
  exact if_neg more

theorem expired_of_last {c : ClockUnit} (lock : c.lock = .holdover) (last : c.synthesized + 1 = 24) :
    c.expired = { c with lock := .free, synthesized := 0 }.markMade := by
  unfold ClockUnit.expired
  rw [lock]
  exact if_pos last

/-- The closing of a window in LOCKED or HOLDOVER, with its SHOW notice where the lock state changes (R77, R78, R79). -/
theorem closing_still (u : State) :
    (u.clock.lock = .locked → Still { u with clock := u.clock.expired } u.expireLock
      ∧ u.expireLock.control.pendingNotices.get 5 = true)
    ∧ (u.clock.lock = .holdover → Still { u with clock := u.clock.expired } u.closeWindow
      ∧ (u.clock.synthesized + 1 = 24 → u.closeWindow.control.pendingNotices.get 5 = true)) := by
  refine ⟨fun lock => ?_, fun lock => ?_⟩
  · rw [expired_of_locked lock]
    exact post_markEvent_still { u with clock := { u.clock with lock := .holdover, synthesized := 1, stepCount := 16 } }
  · unfold State.closeWindow
    by_cases last : u.clock.synthesized + 1 = 24
    · rw [expired_of_last lock last, if_pos last]
      have posts := post_markEvent_still { u with clock := { u.clock with lock := .free, synthesized := 0 } }
      exact ⟨posts.1, fun _ => posts.2⟩
    · rw [expired_of_more lock last, if_neg last]
      refine ⟨?_, fun last' => absurd last' last⟩
      exact markEvent_still { u with clock := { u.clock with synthesized := u.clock.synthesized + 1, stepCount := 16 } }

/-- A measured step, by the lock state and the window (R75, R77, R78). -/
theorem measureStep_eq (s : State) : s.measureStep =
    let u : State := { s with clock := s.clock.countStep }
    match s.clock.lock with
    | .free => u
    | .acquiring => u
    | .locked => if u.clock.windowClosed then u.expireLock else u
    | .holdover => if u.clock.windowClosed then u.closeWindow else u := rfl

theorem measureStep_still (s : State) : Still { s with clock := s.clock.measured } s.measureStep
    ∧ (s.clock.countStep.windowClosed = true → s.clock.lockMoves → s.measureStep.control.pendingNotices.get 5 = true) := by
  let u : State := { s with clock := s.clock.countStep }
  have step := measureStep_eq s
  have seeks (lock : s.clock.lock = .free ∨ s.clock.lock = .acquiring) (idle : s.measureStep = u) :
      Still { s with clock := s.clock.measured } s.measureStep
        ∧ (s.clock.countStep.windowClosed = true → s.clock.lockMoves →
          s.measureStep.control.pendingNotices.get 5 = true) := by
    have same : s.clock.measured = s.clock.countStep := by
      rw [ClockUnit.measured, expired_of_seeking (c := s.clock.countStep) lock, ite_self]
    rw [same, idle]
    refine ⟨.refl u, ?_⟩
    rintro - (locked | ⟨holdover, -⟩)
    · rw [locked] at lock; exact absurd lock (by decide)
    · rw [holdover] at lock; exact absurd lock (by decide)
  cases lock : s.clock.lock with
  | free => exact seeks (.inl lock) (by rw [step, lock])
  | acquiring => exact seeks (.inr lock) (by rw [step, lock])
  | locked =>
    rw [lock] at step
    rw [step, ClockUnit.measured]
    dsimp only
    split
    · have posts := (closing_still u).1 lock
      exact ⟨posts.1, fun _ _ => posts.2⟩
    · next opens => exact ⟨.refl u, fun closed => absurd closed opens⟩
  | holdover =>
    rw [lock] at step
    rw [step, ClockUnit.measured]
    dsimp only
    split
    · have posts := (closing_still u).2 lock
      refine ⟨posts.1, ?_⟩
      rintro - (locked | ⟨-, last⟩)
      · rw [lock] at locked; cases locked
      · exact posts.2 last
    · next opens => exact ⟨.refl u, fun closed => absurd closed opens⟩

/-! ## The steps of one event -/

/-- The steps measured at one event. -/
def State.measure (s : State) (n : Nat) : State := s.forEach (List.range n) fun _ s => s.measureStep

theorem measure_still (s : State) (n : Nat) : Still { s with clock := ClockUnit.measured^[n] s.clock } (s.measure n) := by
  induction n with
  | zero => exact .refl s
  | succ n ih =>
    have last := (measureStep_still (s.measure n)).1
    have step : s.measure (n + 1) = (s.measure n).measureStep := forEach_range_succ s n _
    rw [step, Function.iterate_succ_apply']
    rw [ih.clock] at last
    exact (ih.withClock _).trans last

/-- The tick phase and the tick count are no part of the measurement. -/
theorem iterate_measured_ticked (c : ClockUnit) (p k n : Nat) :
    ClockUnit.measured^[n] { c with tickPhase := p, tickCount := k }
      = { ClockUnit.measured^[n] c with tickPhase := p, tickCount := k } := by
  have once (c : ClockUnit) : ClockUnit.measured { c with tickPhase := p, tickCount := k }
      = { c.measured with tickPhase := p, tickCount := k } := by
    have counted : ({ c with tickPhase := p, tickCount := k } : ClockUnit).countStep
        = { c.countStep with tickPhase := p, tickCount := k } := rfl
    have expired (c : ClockUnit) : ({ c with tickPhase := p, tickCount := k } : ClockUnit).expired
        = { c.expired with tickPhase := p, tickCount := k } := by
      obtain ⟨-, -, -, -, -, -, lock, -, -, -, -, synthesized, -⟩ := c
      cases lock with
      | free => rfl
      | acquiring => rfl
      | locked => rfl
      | holdover =>
        unfold ClockUnit.expired
        dsimp only
        split <;> rfl
    have closes : ({ c.countStep with tickPhase := p, tickCount := k } : ClockUnit).windowClosed = c.countStep.windowClosed := rfl
    unfold ClockUnit.measured
    rw [counted, closes]
    split
    · exact expired _
    · rfl
  induction n with
  | zero => rfl
  | succ n ih => rw [Function.iterate_succ_apply', Function.iterate_succ_apply', ih, once]

/-- The measurement touches the lock state, the step count and the marks only. -/
theorem iterate_measured_frame (c : ClockUnit) (n : Nat) : ClockUnit.measured^[n] c = { c with
    lock := (ClockUnit.measured^[n] c).lock, stepCount := (ClockUnit.measured^[n] c).stepCount,
    synthesized := (ClockUnit.measured^[n] c).synthesized, markCount := (ClockUnit.measured^[n] c).markCount } := by
  have expired (d : ClockUnit) : d.expired = { d with
      lock := d.expired.lock, stepCount := d.expired.stepCount, synthesized := d.expired.synthesized,
      markCount := d.expired.markCount } := by
    unfold ClockUnit.expired
    repeat' split
    all_goals rfl
  have once (d : ClockUnit) : d.measured = { d with
      lock := d.measured.lock, stepCount := d.measured.stepCount, synthesized := d.measured.synthesized,
      markCount := d.measured.markCount } := by
    unfold ClockUnit.measured
    split
    · exact (expired _).trans rfl
    · rfl
  induction n with
  | zero => rfl
  | succ n ih =>
    rw [Function.iterate_succ_apply']
    refine (once _).trans ?_
    rw [ih]

/-- The registers after `n` steps credited at one event (R69, R70, R72, R75). -/
def ClockUnit.credited (c : ClockUnit) (n : Nat) : ClockUnit :=
  { ClockUnit.measured^[n] c with
    tickPhase := (c.tickPhase + n) % 48,
    tickCount := if 48 ≤ c.tickPhase + n then (c.tickCount + 1) % 4294967296 else c.tickCount }

/-- The credited steps, by whether they make the tick and by its order with the marks (R71, log 7). -/
theorem creditSteps_cases (s : State) (n : Nat) (order : Interleave) :
    let p : State := { s with clock := s.clock.advancePhase n }
    (s.clock.tickDue n = false ∧ s.creditSteps n order = p.measure n)
    ∨ (s.clock.tickDue n = true ∧ (s.creditSteps n order = (p.measure n).makeTick order.blocks
      ∨ s.creditSteps n order = (p.makeTick order.blocks).measure n)) := by
  intro p
  cases due : s.clock.tickDue n with
  | false => exact .inl ⟨rfl, if_pos (by rw [due]; rfl)⟩
  | true =>
    have notYet : ¬ (!s.clock.tickDue n) = true := by simp [due]
    refine .inr ⟨rfl, ?_⟩
    by_cases markFirst : order.markFirst = true
    · exact .inl ((if_neg notYet).trans (if_pos markFirst))
    · exact .inr ((if_neg notYet).trans (if_neg markFirst))

theorem creditSteps_clock (s : State) (n : Nat) (order : Interleave) : (s.creditSteps n order).clock = s.clock.credited n := by
  let c := s.clock
  let p : State := { s with clock := c.advancePhase n }
  have phased := iterate_measured_ticked c ((c.tickPhase + n) % 48) c.tickCount n
  have tickDue : c.tickDue n = decide (48 ≤ c.tickPhase + n) := rfl
  have count := congrArg ClockUnit.tickCount (iterate_measured_frame (c.advancePhase n) n)
  obtain ⟨rests, credited⟩ | ⟨due, credited | credited⟩ := creditSteps_cases s n order
  · rw [credited, (measure_still p n).clock, ClockUnit.credited, if_neg (of_decide_eq_false (tickDue ▸ rests))]
    exact phased
  · rw [credited, makeTick_clock, State.tickCounted, (measure_still p n).clock, ClockUnit.credited,
      if_pos (of_decide_eq_true (tickDue ▸ due))]
    dsimp only
    rw [count]
    exact congrArg (fun d : ClockUnit => { d with tickCount := (c.tickCount + 1) % 4294967296 }) phased
  · rw [credited, (measure_still _ n).clock, makeTick_clock, ClockUnit.credited, if_pos (of_decide_eq_true (tickDue ▸ due))]
    exact iterate_measured_ticked c ((c.tickPhase + n) % 48) ((c.tickCount + 1) % 4294967296) n

/-- The clock unit is no part of what stands beside it. -/
theorem clock_beside (s : State) (c : ClockUnit) : Beside s { s with clock := c } :=
  ⟨rfl, rfl, rfl, rfl, fun _ _ => ⟨rfl, rfl⟩, fun _ _ => id⟩

theorem measure_beside (s : State) (n : Nat) : Beside s (s.measure n) :=
  (clock_beside s _).trans (measure_still s n).toBeside

/-- The credited steps leave the rest as it was, but for what a tick sweeps. -/
theorem creditSteps_beside (s : State) (n : Nat) (order : Interleave) :
    Beside (if s.clock.tickDue n = true then s.swept else s) (s.creditSteps n order) := by
  let p : State := { s with clock := s.clock.advancePhase n }
  have phased : Beside s p := clock_beside s _
  obtain ⟨rests, credited⟩ | ⟨due, credited | credited⟩ := creditSteps_cases s n order
  · rw [credited, if_neg (by simp [rests])]
    exact phased.trans (measure_beside p n)
  · rw [credited, if_pos due]
    exact (phased.trans (measure_beside p n)).swept.trans (makeTick_beside _ _)
  · rw [credited, if_pos due]
    exact (phased.swept.trans (makeTick_beside p _)).trans (measure_beside _ n)

/-- A step that closes the window with a change of the lock state posts SHOW (R77, R78). -/
theorem creditStep_posts {s : State} (order : Interleave) (closed : s.clock.countStep.windowClosed = true)
    (moves : s.clock.lockMoves) : (s.creditSteps 1 order).control.pendingNotices.get 5 = true := by
  let p : State := { s with clock := s.clock.advancePhase 1 }
  have measured : (p.measure 1).control.pendingNotices.get 5 = true := (measureStep_still p).2 closed moves
  obtain ⟨-, credited⟩ | ⟨-, credited | credited⟩ := creditSteps_cases s 1 order
  · rw [credited]
    exact measured
  · rw [credited]
    exact (makeTick_beside _ _).posted 5 (by decide) measured
  · rw [credited]
    have clock := makeTick_clock p order.blocks
    refine (measureStep_still (p.makeTick order.blocks)).2 ?_ ?_
    · rw [clock]; exact closed
    · rw [clock]; exact moves

/-! ## The monitor and the latching -/

/-- The end of an event (R193). -/
theorem latch_still (s : State) : Still s s.latch := by
  refine ⟨⟨rfl, rfl, rfl, rfl, fun _ _ => ⟨rfl, rfl⟩, fun k _ posted => ?_⟩, rfl, latch_busy s .stream⟩
  rw [latch_control]
  unfold ControlUnit.latch
  split <;> exact posted

/-- The monitor's registers in place of the unit's (R72, R73). -/
def ClockUnit.monitored (c : ClockUnit) (source : ClockSource) (offRun goodRun : Nat) : ClockUnit :=
  { c with source := source, offRun := offRun, goodRun := goodRun }

def State.monitored (s : State) (source : ClockSource) (offRun goodRun : Nat) : State :=
  { s with clock := s.clock.monitored source offRun goodRun }

theorem loseLine_still (s : State) : Still (s.monitored .reference 0 0) s.loseLine := (Still.refl _).post .clock

/-- The monitor at an edge under LINE (R72). -/
theorem monitorLine_cases (s : State) (gap : Nat) :
    (onNominal gap = true ∧ s.monitorLine gap = s.monitored s.clock.source 0 s.clock.goodRun)
    ∨ (onNominal gap = false ∧ s.clock.offRun + 1 = 48 ∧ s.monitorLine gap = s.loseLine)
    ∨ (onNominal gap = false ∧ s.clock.offRun + 1 ≠ 48
      ∧ s.monitorLine gap = s.monitored s.clock.source (s.clock.offRun + 1) s.clock.goodRun) := by
  cases nominal : onNominal gap with
  | true => exact .inl ⟨rfl, if_pos nominal⟩
  | false =>
    have off := Bool.eq_false_iff.mp nominal
    by_cases last : s.clock.offRun + 1 = 48
    · exact .inr (.inl ⟨rfl, last, (if_neg off).trans (if_pos last)⟩)
    · exact .inr (.inr ⟨rfl, last, (if_neg off).trans (if_neg last)⟩)

/-! ## The events in time by the clock source (R69, R70, R72, R73) -/

section

variable {s : State} (released : s.lines.resetAsserted = false)
include released

theorem clockEdge_of_line (gap : Nat) (order : Interleave) (line : s.clock.source = .line) :
    s.clockEdge gap order = (s.creditSteps 1 order).monitorLine gap := by simp [State.clockEdge, released, line]

theorem clockEdge_of_reference (gap : Nat) (order : Interleave) (reference : s.clock.source = .reference) :
    s.clockEdge gap order = s.monitorReference gap := by simp [State.clockEdge, released, reference]

theorem referenceStep_of_reference (order : Interleave) (reference : s.clock.source = .reference) :
    s.referenceStep order = s.creditSteps 1 order := by simp [State.referenceStep, released, reference]

theorem expireGap_of_line (order : Interleave) (line : s.clock.source = .line) :
    s.expireGap order = (s.creditSteps 3 order).loseLine := by simp [State.expireGap, released, line]

end

theorem monitorLine_still (s : State) (gap : Nat) : ∃ source offRun goodRun,
    Still (s.monitored source offRun goodRun) (s.monitorLine gap) := by
  obtain ⟨-, on⟩ | ⟨-, -, lost⟩ | ⟨-, -, off⟩ := monitorLine_cases s gap
  · exact ⟨_, _, _, by rw [on]; exact .refl _⟩
  · exact ⟨_, _, _, by rw [lost]; exact loseLine_still s⟩
  · exact ⟨_, _, _, by rw [off]; exact .refl _⟩

end Sys2Proof.Machine
end

section
/-! SUPPORT. The step count through the steps of one event: with no window closing, and with one that closes at one of them
(R75, R77, R78). -/

namespace Sys2Proof.Machine

/-- A window of LOCKED or HOLDOVER closes within the next `n` steps (R77, R78). -/
def ClockUnit.closesIn (c : ClockUnit) (n : Nat) : Prop :=
  (c.lock = .locked ∨ c.lock = .holdover) ∧ c.lockedInterval + 16 ≤ min 65535 (c.stepCount + n)

theorem countStep_eq (c : ClockUnit) : c.countStep = { c with stepCount := min 65535 (c.stepCount + 1) } := by
  unfold ClockUnit.countStep
  congr 1
  split <;> omega

theorem windowClosed_countStep (c : ClockUnit) :
    c.countStep.windowClosed = true ↔ c.lockedInterval + 16 ≤ min 65535 (c.stepCount + 1) := by
  rw [countStep_eq]
  exact decide_eq_true_iff

theorem measured_of_open {c : ClockUnit} (opens : ¬ c.closesIn 1) : c.measured = c.countStep := by
  unfold ClockUnit.measured
  split
  · next closed =>
    refine expired_of_seeking (c := c.countStep) ?_
    have seeks : ¬ (c.lock = .locked ∨ c.lock = .holdover) := fun lock =>
      opens ⟨lock, (windowClosed_countStep c).mp closed⟩
    show c.lock = .free ∨ c.lock = .acquiring
    cases lock : c.lock
    · exact .inl rfl
    · exact .inr rfl
    · exact absurd (.inl lock) seeks
    · exact absurd (.inr lock) seeks
  · rfl

/-- Steps that close no window raise the step count alone (R75). -/
theorem iterate_measured_of_open {c : ClockUnit} {n : Nat} (opens : ¬ c.closesIn n) (counts : 0 < n ∨ c.stepCount ≤ 65535) :
    ClockUnit.measured^[n] c = { c with stepCount := min 65535 (c.stepCount + n) } := by
  induction n with
  | zero => rw [Nat.add_zero, Nat.min_eq_right (counts.resolve_left (Nat.lt_irrefl 0))]; rfl
  | succ n ih =>
    rw [Function.iterate_succ_apply']
    by_cases first : n = 0
    · subst first
      exact (measured_of_open opens).trans (countStep_eq c)
    · have before : ¬ c.closesIn n := fun h => opens ⟨h.1, by have := h.2; omega⟩
      have last : ¬ ({ c with stepCount := min 65535 (c.stepCount + n) } : ClockUnit).closesIn 1 := fun h =>
        opens ⟨h.1, by have := h.2; dsimp only at this; omega⟩
      rw [ih before (.inl (by omega)), measured_of_open last, countStep_eq]
      dsimp only
      congr 1
      omega

/-- The step that brings the step count to the closing of its window, at the `j`-th of `n` steps: the mark it makes, then the
steps after it (R77, R78). -/
theorem iterate_measured_of_closing {c : ClockUnit} {n j : Nat} (first : 1 ≤ j) (within : j ≤ n)
    (due : c.stepCount + j = c.lockedInterval + 16) (long : c.lockedInterval ≤ 2000) :
    ClockUnit.measured^[n] c
      = ClockUnit.measured^[n - j] { c with stepCount := c.lockedInterval + 16 }.expired := by
  have before : ¬ c.closesIn (j - 1) := fun h => by have := h.2; omega
  have arrived := iterate_measured_of_open before (.inr (by omega))
  have closes : ClockUnit.measured { c with stepCount := min 65535 (c.stepCount + (j - 1)) }
      = { c with stepCount := c.lockedInterval + 16 }.expired := by
    unfold ClockUnit.measured
    rw [if_pos ((windowClosed_countStep _).mpr (by dsimp only; omega)), countStep_eq]
    dsimp only
    congr 2
    omega
  have split : n = n - j + (j - 1 + 1) := by omega
  conv_lhs => rw [split]
  rw [Function.iterate_add_apply, Function.iterate_succ_apply', arrived, closes]

/-- After a synthesized mark of a scheduled interval no other is due for long (R78). -/
theorem iterate_measured_after_mark {c : ClockUnit} {k : Nat} (count : c.stepCount = 16) (interval : 800 ≤ c.lockedInterval)
    (few : k < 800) : ClockUnit.measured^[k] c = { c with stepCount := 16 + k } := by
  rw [iterate_measured_of_open (fun h => by have := h.2; omega) (.inr (by omega)), count]
  congr 1
  omega

/-- In FREE no window closes (R75). -/
theorem iterate_measured_free {c : ClockUnit} {k : Nat} (free : c.lock = .free) (fits : c.stepCount ≤ 65535) :
    ClockUnit.measured^[k] c = { c with stepCount := min 65535 (c.stepCount + k) } :=
  iterate_measured_of_open (fun h => by have lock := h.1; rw [free] at lock; exact absurd lock (by decide)) (.inr fits)

/-- A synthesized mark: the lock state and the marks it leaves (R77, R78). -/
def ClockUnit.Marked (c d : ClockUnit) (lock : LockState) (synthesized : Nat) : Prop := d.lock = lock
  ∧ d.synthesized = synthesized ∧ d.lockedInterval = c.lockedInterval ∧ d.markCount = (c.markCount + 1) % 16777216

/-- What `n` steps made at one event leave of the clock unit: the tick phase and the tick; the step count, the lock state and the
marks, with no window closing and with one (R69, R75, R77, R78). -/
def ClockUnit.Stepped (c d : ClockUnit) (n : Nat) : Prop := d.tickPhase = (c.tickPhase + n) % 48
  ∧ d.tickCount = (if 48 ≤ c.tickPhase + n then (c.tickCount + 1) % 4294967296 else c.tickCount)
  ∧ (¬ c.closesIn n → d = { d with
      stepCount := min 65535 (c.stepCount + n), lock := c.lock, acquisitionRun := c.acquisitionRun,
      previousInterval := c.previousInterval, lockedInterval := c.lockedInterval, synthesized := c.synthesized,
      markCount := c.markCount })
  ∧ ∀ j, 1 ≤ j → j ≤ n → c.stepCount + j = c.lockedInterval + 16 → 800 ≤ c.lockedInterval → c.lockedInterval ≤ 2000 →
    (c.lock = .locked → c.Marked d .holdover 1 ∧ d.stepCount = 16 + (n - j))
    ∧ (c.lock = .holdover → c.synthesized + 1 ≠ 24 →
      c.Marked d .holdover (c.synthesized + 1) ∧ d.stepCount = 16 + (n - j))
    ∧ (c.lock = .holdover → c.synthesized + 1 = 24 → c.Marked d .free 0)

/-- The steps leave the monitor's registers (R72, R73). -/
theorem credited_monitor (c : ClockUnit) (n : Nat) : (c.credited n).source = c.source ∧ (c.credited n).offRun = c.offRun
    ∧ (c.credited n).goodRun = c.goodRun ∧ (c.credited n).edgeSeen = c.edgeSeen := by
  unfold ClockUnit.credited
  rw [iterate_measured_frame]
  exact ⟨rfl, rfl, rfl, rfl⟩

/-- The steps credited at an event, whatever the monitor makes of its own registers. -/
theorem stepped_credited (c : ClockUnit) {n : Nat} (positive : 0 < n) (few : n < 800) (source : ClockSource)
    (offRun goodRun : Nat) : c.Stepped ((c.credited n).monitored source offRun goodRun) n := by
  refine ⟨rfl, rfl, fun opens => ?_, fun j first within due short long => ?_⟩
  · unfold ClockUnit.credited
    rw [iterate_measured_of_open opens (.inl positive)]
    rfl
  · let e : ClockUnit := { c with stepCount := c.lockedInterval + 16 }
    have closing := iterate_measured_of_closing first within due long
    have scheduled {d : ClockUnit} (made : e.expired = d) (count : d.stepCount = 16)
        (same : d.lockedInterval = c.lockedInterval) :
        ClockUnit.measured^[n] c = { d with stepCount := 16 + (n - j) } := by
      rw [closing, made, iterate_measured_after_mark count (by rw [same]; exact short) (by omega)]
    unfold ClockUnit.credited
    refine ⟨fun locked => ?_, fun holdover more => ?_, fun holdover last => ?_⟩
    · rw [scheduled (expired_of_locked locked) rfl rfl]
      exact ⟨⟨rfl, rfl, rfl, rfl⟩, rfl⟩
    · rw [scheduled (expired_of_more holdover more) rfl rfl]
      exact ⟨⟨holdover, rfl, rfl, rfl⟩, rfl⟩
    · have free := closing.trans (congrArg _ (expired_of_last (c := e) holdover last))
      rw [free, iterate_measured_free rfl (show c.lockedInterval + 16 ≤ 65535 by omega)]
      exact ⟨rfl, rfl, rfl, rfl⟩

end Sys2Proof.Machine
end

section
/-! PROOFS. Edges, internal steps and gap expiry. -/

namespace Sys2Proof.Machine

theorem onNominal_iff (gap : Nat) : onNominal gap = true ↔ 990000 ≤ gap ∧ gap ≤ 1010000 := by
  unfold onNominal
  rw [Bool.and_eq_true, decide_eq_true_eq, decide_eq_true_eq]

/-- The clock unit after an event that credits steps to `s` and comes to `t` with these registers of the monitor. -/
theorem latch_clock_of_credited {s t : State} {n : Nat} {order : Interleave} {source : ClockSource} {offRun goodRun : Nat}
    (clock : t.clock = (s.begun.creditSteps n order).clock.monitored source offRun goodRun) :
    t.latch.clock = (s.clock.credited n).monitored source offRun goodRun := by
  rw [(latch_still t).clock, clock, creditSteps_clock]
  rfl

/-- Settles O41: the clock unit after the event is the credited registers with the monitor's own (`stepped_credited`), by what the
monitor makes of the edge. -/
theorem clockStepsAndMonitorBySource : Obligations.ClockStepsAndMonitorBySource := by
  intro s gap order c nominal closes closed stepped idle
  obtain ⟨source, offRun, goodRun, edgeSeen⟩ := credited_monitor c 1
  have steps {t : State} {n : Nat} {source : ClockSource} {offRun goodRun : Nat} (positive : 0 < n) (few : n < 800)
      (clock : t.clock = (c.credited n).monitored source offRun goodRun) : stepped t n := by
    have done := stepped_credited c positive few source offRun goodRun
    rw [← clock] at done
    exact done
  have nothing {work : State → State} (same : work s.begun = s.begun) : Host.Outcome.next (s.run work) = idle :=
    congrArg (fun t : State => Host.Outcome.next t.latch) same
  refine ⟨fun asserted => ⟨?_, ?_, ?_⟩, fun released line => ⟨?_, ?_, ?_⟩, fun released reference => ?_⟩
  · exact nothing (if_pos asserted)
  · exact nothing (if_pos (.inl asserted))
  · exact nothing (if_pos (.inl asserted))
  · exact nothing (if_pos (.inr line))
  · have edge := clockEdge_of_line (s := s.begun) released gap order line
    let u := s.begun.creditSteps 1 order
    have registers : u.clock.source = c.source ∧ u.clock.offRun = c.offRun ∧ u.clock.goodRun = c.goodRun := by
      rw [creditSteps_clock s.begun 1 order]
      exact ⟨source, offRun, goodRun⟩
    obtain ⟨sourceU, offRunU, goodRunU⟩ := registers
    refine ⟨(u.monitorLine gap).latch, congrArg (fun t : State => Host.Outcome.next t.latch) edge, ?_⟩
    obtain ⟨on, monitored⟩ | ⟨off, last, lost⟩ | ⟨off, more, monitored⟩ := monitorLine_cases u gap
    · have on : nominal := (onNominal_iff gap).mp on
      rw [sourceU, goodRunU] at monitored
      have clock := latch_clock_of_credited (s := s) (congrArg State.clock monitored :)
      rw [clock]
      exact ⟨steps one_pos (by decide) clock, (if_pos (.inl on)).symm, fun _ => ⟨line, rfl⟩, fun off => absurd on off,
        fun off => absurd on off⟩
    · have off : ¬ nominal := fun on => by rw [(onNominal_iff gap).mpr on] at off; cases off
      rw [offRunU] at last
      have clock := latch_clock_of_credited ((congrArg State.clock lost).trans (loseLine_still u).clock)
      have posted : (u.monitorLine gap).latch.control.pendingNotices.get 3 = true :=
        (latch_still _).posted 3 (by decide) (by rw [lost]; exact post_posts _ .clock)
      rw [clock]
      exact ⟨steps one_pos (by decide) clock, (if_neg (not_or.mpr ⟨off, not_not.mpr last⟩)).symm, fun on => absurd on off,
        fun _ more => absurd last more, fun _ _ => ⟨rfl, rfl, posted⟩⟩
    · have off : ¬ nominal := fun on => by rw [(onNominal_iff gap).mpr on] at off; cases off
      rw [offRunU] at more
      rw [sourceU, goodRunU, offRunU] at monitored
      have clock := latch_clock_of_credited (s := s) (congrArg State.clock monitored :)
      rw [clock]
      exact ⟨steps one_pos (by decide) clock, (if_pos (.inr more)).symm, fun on => absurd on off, fun _ _ => ⟨line, rfl⟩,
        fun _ last => absurd last more⟩
  · have expired := expireGap_of_line (s := s.begun) released order line
    have clock := latch_clock_of_credited (loseLine_still (s.begun.creditSteps 3 order)).clock
    have posted : (s.begun.creditSteps 3 order).loseLine.latch.control.pendingNotices.get 3 = true :=
      (latch_still _).posted 3 (by decide) (post_posts _ .clock)
    refine ⟨_, congrArg (fun t : State => Host.Outcome.next t.latch) expired, ?_⟩
    rw [clock]
    exact ⟨steps (by decide) (by decide) clock, rfl, rfl, rfl, posted⟩
  · have edge := clockEdge_of_reference (s := s.begun) released gap order reference
    have stepsOne := referenceStep_of_reference (s := s.begun) released order reference
    have clock : (s.begun.creditSteps 1 order).latch.clock = c.credited 1 :=
      (latch_still _).clock.trans (creditSteps_clock s.begun 1 order)
    have event {t : State} (monitors : s.begun.monitorReference gap = t) :
        exec (.sampleClockEdge gap order) s = .next t.latch :=
      congrArg (fun t : State => Host.Outcome.next t.latch) (edge.trans monitors)
    have good (h : c.edgeSeen = true ∧ nominal) : c.edgeSeen = true ∧ onNominal gap = true :=
      h.imp_right (onNominal_iff gap).mpr
    refine ⟨nothing (if_pos (.inr reference)),
      ⟨_, congrArg (fun t : State => Host.Outcome.next t.latch) stepsOne, ?_⟩, fun h more => ?_, fun h last => ?_,
      fun bad => ?_⟩
    · rw [clock]
      exact ⟨steps one_pos (by decide) clock, source.trans reference, offRun, goodRun, edgeSeen⟩
    · exact event ((if_pos (good h)).trans (if_neg more))
    · exact event ((if_pos (good h)).trans (if_pos last))
    · exact event (if_neg fun h => bad (h.imp_right (onNominal_iff gap).mp))

end Sys2Proof.Machine
end

section
/-! PROOFS. Show marks and synthesized marks. -/

namespace Sys2Proof.Machine

/-! ## The real mark (R76 to R78) -/

/-- The registers after a mark of this interval in ACQUIRING (R76). -/
theorem acquire_eq (c : ClockUnit) (i : Nat) : c.acquire i = { c with
    acquisitionRun := if ¬ (800 ≤ i ∧ i ≤ 2000) then 0
      else if c.acquisitionRun ≠ 0 ∧ (i ≤ c.previousInterval + 4 ∧ c.previousInterval ≤ i + 4) then c.acquisitionRun + 1
      else 1,
    previousInterval := if 800 ≤ i ∧ i ≤ 2000 then i else c.previousInterval } := by
  unfold ClockUnit.acquire
  by_cases valid : 800 ≤ i ∧ i ≤ 2000
  · rw [if_neg (by omega), if_neg (not_not.mpr valid), if_pos valid]
    split <;> rfl
  · rw [if_pos (by omega), if_pos valid, if_neg valid]

theorem acquireMark_of_run_ne {s : State} (more : (s.clock.acquire s.clock.stepCount).acquisitionRun ≠ 6) :
    s.acquireMark = { s with clock := s.clock.acquire s.clock.stepCount } := if_neg more

/-- The sixth mark of a run locks (R76). -/
theorem acquireMark_of_run_eq {s : State} (six : (s.clock.acquire s.clock.stepCount).acquisitionRun = 6) :
    s.acquireMark = State.setLock { s with
      clock := { s.clock.acquire s.clock.stepCount with lockedInterval := s.clock.stepCount, acquisitionRun := 0 } } .locked :=
  if_pos six

/-- A real mark, by the lock state (R76 to R78). -/
theorem realMark_eq (s : State) : s.realMark =
    match s.clock.lock with
    | .free => (State.takeReference { s.setLock .acquiring with
        clock := { (s.setLock .acquiring).clock with acquisitionRun := 0 } }).markEvent
    | .acquiring => s.acquireMark.takeReference.markEvent
    | .locked => if s.clock.earlyMark then (State.takeReference { s.setLock .holdover with
        clock := { (s.setLock .holdover).clock with synthesized := 0 } }).markEvent else s.takeReference.markEvent
    | .holdover => if s.clock.earlyMark then s else (State.takeReference { s.setLock .locked with
        clock := { (s.setLock .locked).clock with synthesized := 0 } }).markEvent := rfl

theorem earlyMark_iff (c : ClockUnit) : c.earlyMark = true ↔ c.stepCount + 16 < c.lockedInterval := decide_eq_true_iff

/-! ## The step that closes a window (R77, R78) -/

/-- A step of the source in charge: one credited step, then the monitor's part (R69, R70, R72). -/
theorem passTime_nextStep {s : State} (gap : Nat) (order : Interleave) (released : s.lines.resetAsserted = false) :
    ∃ source offRun goodRun,
      Still ((s.creditSteps 1 order).monitored source offRun goodRun) (s.passTime (.nextStep gap order)) := by
  cases source : s.clock.source with
  | line =>
    have passed : s.passTime (.nextStep gap order) = (s.creditSteps 1 order).monitorLine gap := by
      simp [State.passTime, State.clockEdge, source, released]
    rw [passed]
    exact monitorLine_still _ gap
  | reference =>
    have passed : s.passTime (.nextStep gap order) = s.creditSteps 1 order := by
      simp [State.passTime, State.referenceStep, source, released]
    rw [passed]
    let u := s.creditSteps 1 order
    exact ⟨u.clock.source, u.clock.offRun, u.clock.goodRun, .refl u⟩

theorem windowCloses_iff {s : State} : s.windowCloses = true ↔ s.lines.resetAsserted = false ∧ s.clock.stepCount < 65535
    ∧ s.clock.lockedInterval + 16 ≤ s.clock.stepCount + 1 := by
  unfold State.windowCloses
  rw [Bool.and_eq_true, Bool.and_eq_true, Bool.not_eq_true', decide_eq_true_eq, decide_eq_true_eq, and_assoc]

/-- The event of a step that closes its window: the registers of the synthesized mark, and SHOW where the lock state changes. -/
theorem run_windowCloses {s : State} (gap : Nat) (order : Interleave) (closes : s.windowCloses = true) :
    let t := s.run fun s => s.passTime (.nextStep gap order)
    let c := s.clock.countStep.expired
    (t.clock.lock = c.lock ∧ t.clock.synthesized = c.synthesized ∧ t.clock.stepCount = c.stepCount
        ∧ t.clock.lockedInterval = c.lockedInterval ∧ t.clock.markCount = c.markCount)
      ∧ (s.clock.lockMoves → t.control.pendingNotices.get 5 = true) := by
  obtain ⟨released, below, due⟩ := windowCloses_iff.mp closes
  have closed : s.clock.countStep.windowClosed = true := (windowClosed_countStep _).mpr (by omega)
  obtain ⟨source, offRun, goodRun, still⟩ := passTime_nextStep (s := s.begun) gap order released
  have clock := latch_clock_of_credited still.clock
  have measured : s.clock.measured = s.clock.countStep.expired := if_pos closed
  refine ⟨?_, fun moves => ?_⟩
  · have ran : (s.run fun s => s.passTime (.nextStep gap order)).clock = (s.clock.credited 1).monitored source offRun goodRun :=
      clock
    have credited : s.clock.credited 1 = { s.clock.measured with
      tickPhase := (s.clock.credited 1).tickPhase, tickCount := (s.clock.credited 1).tickCount } := rfl
    rw [ran, credited, measured]
    exact ⟨rfl, rfl, rfl, rfl, rfl⟩
  · have credited := creditStep_posts (s := s.begun) order closed moves
    exact (latch_still (s.begun.passTime (.nextStep gap order))).posted 5 (by decide) (still.posted 5 (by decide) credited)

/-- The row of HOLDOVER's window closing has its event where a mark is counted (R78, log 5). -/
theorem markMade_at_close {s t : State} (holdover : s.clock.lock = .holdover)
    (markCount : t.clock.markCount = (s.clock.markCount + 1) % 16777216) : windowClosedAt s t = true := by
  unfold windowClosedAt
  rw [holdover, markCount, Bool.and_eq_true, bne_iff_ne]
  exact ⟨rfl, by omega⟩

/-- Settles O43: a real mark by the lock state (`realMark_eq`), and the step that closes a window (`run_windowCloses`). -/
theorem marksByLockState : Obligations.MarksByLockState := by
  refine ⟨fun s => ?_, fun s gap order closes => ?_⟩
  · have mark := realMark_eq s.begun
    have pulse (released : s.lines.resetAsserted = false) {t : State} (marks : s.begun.realMark = t) :
        exec .showMark s = .next t.latch :=
      congrArg (fun t : State => Host.Outcome.next t.latch) ((if_neg (Bool.eq_false_iff.mp released)).trans marks)
    dsimp only
    refine ⟨fun asserted => ?_, fun released => ⟨fun free => ?_, fun acquiring more => ?_, fun acquiring six => ?_,
      fun locked timely => ?_, fun locked soon => ?_, fun holdover soon => ?_, fun holdover timely => ?_⟩⟩
    · exact congrArg (fun t : State => Host.Outcome.next t.latch) (if_pos asserted)
    · rw [show s.begun.clock.lock = .free from free] at mark
      exact pulse released mark
    · rw [show s.begun.clock.lock = .acquiring from acquiring] at mark
      have stands := (acquireMark_of_run_ne (s := s.begun) (by rw [acquire_eq]; exact more)).trans
        (congrArg (fun c => { s.begun with clock := c }) (acquire_eq s.clock s.clock.stepCount))
      exact pulse released (mark.trans (congrArg (fun t : State => t.takeReference.markEvent) stands))
    · rw [show s.begun.clock.lock = .acquiring from acquiring] at mark
      have locks := (acquireMark_of_run_eq (s := s.begun) (by rw [acquire_eq]; exact six)).trans
        (congrArg (fun c : ClockUnit => State.setLock { s.begun with
          clock := { c with lockedInterval := s.clock.stepCount, acquisitionRun := 0 } } .locked)
          (acquire_eq s.clock s.clock.stepCount))
      exact pulse released (mark.trans (congrArg (fun t : State => t.takeReference.markEvent) locks))
    · rw [show s.begun.clock.lock = .locked from locked] at mark
      exact pulse released (mark.trans (if_neg (mt (earlyMark_iff _).mp timely)))
    · rw [show s.begun.clock.lock = .locked from locked] at mark
      exact pulse released (mark.trans (if_pos ((earlyMark_iff _).mpr soon)))
    · rw [show s.begun.clock.lock = .holdover from holdover] at mark
      exact pulse released (mark.trans (if_pos ((earlyMark_iff _).mpr soon)))
    · rw [show s.begun.clock.lock = .holdover from holdover] at mark
      exact pulse released (mark.trans (if_neg (mt (earlyMark_iff _).mp timely)))
  · obtain ⟨registers, posts⟩ := run_windowCloses gap order closes
    dsimp only at registers ⊢
    refine ⟨fun locked => ?_, fun holdover more => ?_, fun holdover last => ?_⟩
    · rw [expired_of_locked (c := s.clock.countStep) locked] at registers
      obtain ⟨lock, synthesized, stepCount, interval, markCount⟩ := registers
      refine ⟨_, congrArg Host.Outcome.next (runIf_of_due ?_), lock, synthesized, stepCount, interval, markCount,
        posts (.inl locked)⟩
      unfold lockExpired
      rw [locked, lock]
      rfl
    · rw [expired_of_more (c := s.clock.countStep) holdover more] at registers
      obtain ⟨lock, synthesized, stepCount, interval, markCount⟩ := registers
      exact ⟨_, congrArg Host.Outcome.next (runIf_of_due (markMade_at_close holdover markCount)), lock.trans holdover,
        synthesized, stepCount, interval, markCount⟩
    · rw [expired_of_last (c := s.clock.countStep) holdover last] at registers
      obtain ⟨lock, synthesized, -, interval, markCount⟩ := registers
      exact ⟨_, congrArg Host.Outcome.next (runIf_of_due (markMade_at_close holdover markCount)), lock, synthesized, interval,
        markCount, posts (.inr ⟨holdover, last⟩)⟩

end Sys2Proof.Machine
end

section
/-! SUPPORT. The offers of the intercom engine's periods, as one record receives them (R101, R118, R120). -/

namespace Sys2Proof.Machine

/-! ## One offer -/

theorem sounding_iff (r : StreamRecord) : r.sounding = true ↔ r.state = .starting ∨ r.state = .playing := by
  unfold StreamRecord.sounding
  cases r.state <;> simp

/-- The record takes an offer of group `g`: it sounds on that group, and the stream engine is not BUSY (R101). -/
def State.takesOffer (s : State) (g n : Nat) : Prop :=
  ((s.stream n).state = .starting ∨ (s.stream n).state = .playing) ∧ (s.stream n).source = .group ∧ (s.stream n).group = g
    ∧ s.control.busyStream = false

/-- What an offer makes of a record: a READY slot, a dropped period, or nothing (R101). -/
structure OfferMade (takes : Prop) (period : Bank 48 Word) (r r' : StreamRecord) : Prop where
  room : takes → r.queue.length < 4 → ∃ x : Slot,
    r' = { r with queue := r.queue ++ [x], buffers := r.buffers.set x.buffer period } ∧ x.ready = true ∧ x.buffer < 4
      ∧ ∀ y ∈ r.queue, y.buffer ≠ x.buffer
  full : takes → 4 ≤ r.queue.length → r' = { r with droppedCount := bump r.droppedCount }
  passed : ¬ takes → r' = r

theorem offerPeriod_made {n : Nat} (hn : n < 8) (g : Nat) (period : Bank 48 Word) (s : State) :
    OfferMade (s.takesOffer g n) period (s.stream n) ((State.offerPeriod g period n s).stream n) := by
  have taking : s.takesOffer g n ↔ (s.stream n).sounding = true ∧ (s.stream n).source = .group ∧ (s.stream n).group = g
      ∧ (!s.control.busyStream) = true := by
    rw [State.takesOffer, sounding_iff, Bool.not_eq_true']
  refine ⟨fun takes room => ?_, fun takes full => ?_, fun passes => ?_⟩
  · obtain ⟨inRange, own⟩ := chooseBuffer_free (s.stream n) s.freeDraws (freeBuffers_ne_nil _ room)
    refine ⟨Slot.offered ((s.stream n).chooseBuffer s.freeDraws), ?_, rfl, inRange, own⟩
    unfold State.offerPeriod
    dsimp only
    rw [if_pos (taking.mp takes), if_pos room]
    exact stream_setStream_self s n _ hn
  · unfold State.offerPeriod
    dsimp only
    rw [if_pos (taking.mp takes), if_neg (Nat.not_lt.mpr full)]
    exact stream_setStream_self s n _ hn
  · unfold State.offerPeriod
    dsimp only
    rw [if_neg (mt taking.mpr passes)]

/-! ## The offers to the other records, and of the other groups -/

/-- Offers change the streams and the free choices only. -/
def SameButOffers (s t : State) : Prop := t = { s with streams := t.streams, freeDraws := t.freeDraws }

theorem SameButOffers.trans {s t u : State} (h : SameButOffers s t) (k : SameButOffers t u) : SameButOffers s u := by
  unfold SameButOffers at *
  rw [k, h]

theorem SameButOffers.control {s t : State} (h : SameButOffers s t) : t.control = s.control := by rw [show t = _ from h]

theorem SameButOffers.groups {s t : State} (h : SameButOffers s t) : t.groups = s.groups := by rw [show t = _ from h]

theorem SameButOffers.alarm {s t : State} (h : SameButOffers s t) : t.alarm = s.alarm := by rw [show t = _ from h]

theorem SameButOffers.group {s t : State} (h : SameButOffers s t) (g : Nat) : t.group g = s.group g := by
  unfold State.group
  rw [h.groups]

theorem offerPeriod_frame (g : Nat) (period : Bank 48 Word) (n : Nat) (s : State) :
    SameButOffers s (State.offerPeriod g period n s) := by
  unfold State.offerPeriod
  dsimp only
  repeat' split
  all_goals rfl

theorem forEach_frame {f : Nat → State → State} {ns : List Nat} (turns : ∀ n s, SameButOffers s (f n s)) (s : State) :
    SameButOffers s (s.forEach ns f) :=
  forEach_keeps (P := SameButOffers s) (fun n _ t ht => ht.trans (turns n t)) rfl

theorem offerGroup_frame (g : Nat) (s : State) : SameButOffers s (State.offerGroup g s) := by
  unfold State.offerGroup
  split
  · exact forEach_frame (offerPeriod_frame g _) s
  · rfl

/-- A loop of offers in which only the turn of `k` concerns record `n`: that turn, among turns that leave the record alone. `Q` is
what makes the others leave it alone; it holds before the loop, and every turn keeps it. -/
theorem forEach_around {f : Nat → State → State} {n k m : Nat} (hk : k < m) (turns : ∀ j s, SameButOffers s (f j s))
    {s : State} {Q : State → Prop} (still : ∀ j < m, j ≠ k → ∀ t : State, Q t → (f j t).stream n = t.stream n ∧ Q (f j t))
    (before : Q s) (after : ∀ t : State, SameButOffers s t → t.stream n = s.stream n → Q (f k t)) :
    ∃ u, SameButOffers s u ∧ u.stream n = s.stream n ∧ (s.forEach (List.range m) f).stream n = (f k u).stream n := by
  obtain ⟨earlier, later, split, once⟩ : ∃ earlier later,
      List.range m = earlier ++ k :: later ∧ (earlier ++ k :: later).Nodup := by
    obtain ⟨earlier, later, e⟩ := List.append_of_mem (List.mem_range.mpr hk)
    exact ⟨earlier, later, e, e ▸ List.nodup_range⟩
  have small : ∀ j ∈ earlier ++ later, j < m ∧ j ≠ k := fun j hj => by
    rw [List.nodup_middle, List.nodup_cons] at once
    refine ⟨List.mem_range.mp ?_, fun e => once.1 (e ▸ hj)⟩
    rw [split, List.mem_append, List.mem_cons]
    exact (List.mem_append.mp hj).imp_right .inr
  have run {ns : List Nat} (others : ∀ j ∈ ns, j < m ∧ j ≠ k) {t : State} (ht : Q t) :
      (t.forEach ns f).stream n = t.stream n :=
    (forEach_keeps (P := fun v => v.stream n = t.stream n ∧ Q v) (fun j hj v hv => by
      obtain ⟨same, kept⟩ := still j (others j hj).1 (others j hj).2 v hv.2
      exact ⟨same.trans hv.1, kept⟩) ⟨rfl, ht⟩).1
  have arrived := run (fun j hj => small j (List.mem_append_left _ hj)) before
  have frame := forEach_frame (ns := earlier) turns s
  have loop : s.forEach (List.range m) f = (f k (s.forEach earlier f)).forEach later f := by
    rw [split]
    exact List.foldl_append
  refine ⟨s.forEach earlier f, frame, arrived, ?_⟩
  rw [loop]
  exact run (fun j hj => small j (List.mem_append_right _ hj)) (after _ frame arrived)

/-- A group's period, as a record receives it (R101). -/
theorem offerGroup_made {n : Nat} (hn : n < 8) {g : Nat} {s : State} (defined : (s.group g).defined = true) :
    OfferMade (s.takesOffer g n) (s.completedPeriod g) (s.stream n) ((State.offerGroup g s).stream n) := by
  have offers : State.offerGroup g s = s.forEach (List.range 8) (State.offerPeriod g (s.completedPeriod g)) := if_pos defined
  obtain ⟨u, frame, same, last⟩ := forEach_around (f := State.offerPeriod g (s.completedPeriod g)) (n := n) (s := s) hn
    (offerPeriod_frame g _) (Q := fun _ => True)
    (fun j _ other t _ => ⟨(offerPeriod_other hn other g _ t).stream, trivial⟩) trivial fun _ _ _ => trivial
  have made := offerPeriod_made hn g (s.completedPeriod g) u
  have takes : u.takesOffer g n ↔ s.takesOffer g n := by
    unfold State.takesOffer
    rw [same, frame.control]
  rw [propext takes, same] at made
  rw [offers, last]
  exact made

/-- The offer of another group passes the record by. -/
theorem offerGroup_other {n : Nat} (hn : n < 8) {g : Nat} {s : State} (other : (s.stream n).group ≠ g) :
    (State.offerGroup g s).stream n = s.stream n := by
  by_cases defined : (s.group g).defined = true
  · exact (offerGroup_made hn defined).passed fun takes => other takes.2.2.1
  · exact congrArg (State.stream · n) (if_neg defined)

theorem offerGroup_undefined {g : Nat} {s : State} (undefined : ¬ (s.group g).defined = true) : State.offerGroup g s = s :=
  if_neg undefined

/-- An offer leaves the record's group. -/
theorem offerGroup_group {n : Nat} (hn : n < 8) (g : Nat) (s : State) :
    ((State.offerGroup g s).stream n).group = (s.stream n).group := by
  by_cases defined : (s.group g).defined = true
  · have made := offerGroup_made hn (n := n) defined
    by_cases takes : s.takesOffer g n
    · by_cases room : (s.stream n).queue.length < 4
      · obtain ⟨x, record, -⟩ := made.room takes room
        rw [record]
      · rw [made.full takes (Nat.not_lt.mp room)]
    · rw [made.passed takes]
  · rw [offerGroup_undefined defined]

/-! ## The intercom engine's tick -/

/-- A group after the swap of a tick (R118). -/
theorem group_swapIntercom (s : State) {g : Nat} (hg : g < 16) : s.swapIntercom.group g = (s.group g).swap :=
  Bank.get_map _ s.groups g hg

theorem swap_defined (r : GroupRecord) : r.swap.defined = r.defined := by
  unfold GroupRecord.swap
  split <;> rfl

/-- The intercom engine's tick, as a record on a group receives it (R101, R118, R120). -/
theorem intercomTick_made {n : Nat} (hn : n < 8) {s : State} (hg : (s.stream n).group < 16) :
    let g := (s.stream n).group
    ((s.group g).defined = true →
      OfferMade (s.takesOffer g n) (s.swapIntercom.completedPeriod g) (s.stream n) (s.intercomTick.stream n))
    ∧ (¬ (s.group g).defined = true → s.intercomTick.stream n = s.stream n) := by
  intro g
  let w := s.swapIntercom
  obtain ⟨u, frame, same, last⟩ := forEach_around (f := State.offerGroup) (n := n) (s := w) hg offerGroup_frame
    (Q := fun t => (t.stream n).group = g)
    (fun j _ other t group => ⟨offerGroup_other hn (by rw [group]; exact other.symm), by rw [offerGroup_group hn, group]⟩)
    rfl fun t _ same => by rw [offerGroup_group hn, same]; rfl
  have engine : s.intercomTick.stream n = (State.offerGroup g u).stream n := by
    have freed : ∀ t : State, State.stream { t with control := { t.control with busyIntercom := false } } n = t.stream n :=
      fun _ => rfl
    unfold State.intercomTick
    exact (freed _).trans last
  have group : u.group g = (s.group g).swap := by
    rw [← group_swapIntercom s hg]
    exact frame.group g
  rw [engine]
  refine ⟨fun defined => ?_, fun undefined => ?_⟩
  · have made := offerGroup_made hn (g := g) (s := u) (n := n) (by rw [group, swap_defined]; exact defined)
    have takes : u.takesOffer g n ↔ s.takesOffer g n := by
      unfold State.takesOffer
      rw [same, frame.control]
      rfl
    have period : u.completedPeriod g = w.completedPeriod g := by
      unfold State.completedPeriod State.muted
      rw [frame.alarm, frame.group]
    rw [propext takes, period, same] at made
    exact made
  · rw [offerGroup_undefined (by rw [group, swap_defined]; exact undefined), same]
    rfl

/-! ## The completed period (R120) -/

/-- The samples of a group's completed period. -/
theorem get_completedPeriod (s : State) (g : Nat) {i : Nat} (hi : i < 48) : (s.completedPeriod g).get i =
    if s.alarm.state ≠ .quiet ∧ (s.group g).essential = false then 0#32
    else BitVec.ofInt 32 (max (-8388608) (min 8388607 (Int.tdiv ((s.group g).ready.get i * (s.group g).gain) 4096))) := by
  have muted : s.muted g = true ↔ s.alarm.state ≠ .quiet ∧ (s.group g).essential = false := by
    unfold State.muted
    rw [Bool.and_eq_true, bne_iff_ne, Bool.not_eq_true']
  unfold State.completedPeriod
  by_cases silent : s.muted g = true
  · rw [if_pos silent, if_pos (muted.mp silent), Bank.get_fill _ _ hi]
  · rw [if_neg silent, if_neg (mt muted.mpr silent), Bank.get_map _ _ _ hi, sampleWord, clamp_eq]
    rfl

end Sys2Proof.Machine
end

section
/-! SUPPORT. The event of a tick, as the clock unit, the intercom and the watches see it (R71, R118, R119, R128, R149). -/

namespace Sys2Proof.Machine

/-! ## The event that makes a tick -/

/-- An event at which the tick phase comes to 48: the steps of the tick, then the monitor's part (R69, R70, R72). -/
theorem passTime_ticks {s : State} {e : TimeEvent} (ticks : s.ticksAt e = true) : ∃ k order source offRun goodRun,
    s.clock.tickDue k = true ∧ Still ((s.creditSteps k order).monitored source offRun goodRun) (s.passTime e) := by
  cases e with
  | nextStep gap order =>
    unfold State.ticksAt at ticks
    rw [Bool.and_eq_true, Bool.not_eq_true', beq_iff_eq] at ticks
    obtain ⟨released, phase⟩ := ticks
    obtain ⟨source, offRun, goodRun, still⟩ := passTime_nextStep gap order released
    exact ⟨1, order, source, offRun, goodRun, by simp [ClockUnit.tickDue, phase], still⟩
  | gapExpiry order =>
    unfold State.ticksAt at ticks
    rw [Bool.and_eq_true, Bool.and_eq_true, Bool.not_eq_true', beq_iff_eq] at ticks
    obtain ⟨⟨released, line⟩, due⟩ := ticks
    refine ⟨3, order, .reference, 0, 0, due, ?_⟩
    rw [State.passTime, expireGap_of_line released order line]
    exact loseLine_still _

/-- The tick's event sweeps the intercom and the watches, and counts the tick. -/
theorem run_ticks {s : State} {e : TimeEvent} (ticks : s.ticksAt e = true) :
    Beside s.begun.swept (s.run fun s => s.passTime e)
      ∧ (s.run fun s => s.passTime e).clock.tickCount = (s.clock.tickCount + 1) % 4294967296 := by
  obtain ⟨k, order, source, offRun, goodRun, due, still⟩ := passTime_ticks (s := s.begun) ticks
  have credited := creditSteps_beside s.begun k order
  rw [if_pos due] at credited
  have clock := latch_clock_of_credited still.clock
  refine ⟨?_, (congrArg ClockUnit.tickCount clock).trans (if_pos (of_decide_eq_true due))⟩
  exact ((credited.trans (clock_beside _ _)).trans still.toBeside).trans (latch_still _).toBeside

/-- At any other event there is no tick (log 5). -/
theorem run_tickless {s : State} {e : TimeEvent} (within : s.clock.tickPhase < 48) (tickless : s.ticksAt e = false) :
    (s.run fun s => s.passTime e).clock.tickCount = s.clock.tickCount := by
  have idle {v : State} (passed : s.begun.passTime e = v) (same : v = s.begun) :
      (s.run fun s => s.passTime e).clock.tickCount = s.clock.tickCount := by
    show (s.begun.passTime e).latch.clock.tickCount = _
    rw [passed, same]
    rfl
  have steps {n : Nat} {c : ClockUnit} (clock : (s.run fun s => s.passTime e).clock = c)
      (count : c.tickCount = (s.clock.credited n).tickCount) (notDue : ¬ 48 ≤ s.clock.tickPhase + n) :
      (s.run fun s => s.passTime e).clock.tickCount = s.clock.tickCount := by
    rw [clock, count]
    exact if_neg notDue
  cases reset : s.lines.resetAsserted with
  | true =>
    cases e with
    | nextStep gap order =>
      cases source : s.clock.source with
      | line =>
        refine idle (v := s.begun.clockEdge gap order) ?_ (if_pos reset)
        simp [State.passTime, source]
      | reference =>
        refine idle (v := s.begun.referenceStep order) ?_ (if_pos (.inl reset))
        simp [State.passTime, source]
    | gapExpiry order => exact idle rfl (if_pos (.inl reset))
  | false =>
    cases e with
    | nextStep gap order =>
      obtain ⟨source, offRun, goodRun, still⟩ := passTime_nextStep (s := s.begun) gap order reset
      refine steps (n := 1) (latch_clock_of_credited still.clock) rfl fun due => ?_
      have phase : s.clock.tickPhase = 47 := by omega
      simp [State.ticksAt, reset, phase] at tickless
    | gapExpiry order =>
      cases source : s.clock.source with
      | line =>
        have expired := expireGap_of_line (s := s.begun) reset order source
        have clock := latch_clock_of_credited (loseLine_still (s.begun.creditSteps 3 order)).clock
        rw [← expired] at clock
        refine steps (n := 3) clock rfl fun due => ?_
        have tickDue : s.clock.tickDue 3 = true := decide_eq_true due
        simp [State.ticksAt, reset, source, tickDue] at tickless
      | reference => exact idle rfl (if_pos (.inr source))

/-! ## What the sweep leaves, record by record -/

theorem group_swept (s : State) {g : Nat} (hg : g < 16) : s.swept.group g = (s.group g).swap := Bank.get_map _ s.groups g hg

theorem station_swept (s : State) {n : Nat} (hn : n < 32) : s.swept.station n = (s.station n).swap :=
  Bank.get_map _ s.stations n hn

theorem zone_swept (s : State) {z : Nat} (hz : z < 64) : s.swept.zone z = (s.zone z).stepWatch := Bank.get_map _ s.zones z hz

/-- An active station's swap, its heard count the number of the positions written (R119). -/
theorem swap_station (r : StationRecord) : r.swap = if r.active = true then
    { r with ownReady := r.ownFilling, readyGroup := r.talk, heard := ((List.range 48).filter r.written.get).length,
             ownFilling := Bank.fill 48 0, written := Bank.fill 48 false } else r := by
  unfold StationRecord.swap setSize
  rw [count_eq_length_filter]
  rfl

theorem passTime_regular (s : State) (e : TimeEvent) : Regular s (s.passTime e) := by
  have h := Orderly.refl s
  cases e with
  | nextStep gap order =>
    unfold State.passTime
    dsimp only
    split
    · exact (h.clockEdge gap order).toRegular
    · exact (h.referenceStep order).toRegular
  | gapExpiry order => exact (h.expireGap order).toRegular

/-- An event in time changes nothing of the control unit but flags (R31). -/
theorem run_control (s : State) (e : TimeEvent) : let c := (s.run fun s => s.passTime e).control
    c.errors = s.control.errors ∧ c.captured = s.control.captured ∧ c.outcome = s.control.outcome
      ∧ c.selector = s.control.selector ∧ c.mask = s.control.mask := by
  have passed : s.control.SameButFlags (s.begun.passTime e).control := (passTime_regular s.begun e).control
  have latched : ∀ c : ControlUnit, c.latch = { c with inService := c.latch.inService } := fun c => by
    unfold ControlUnit.latch
    split <;> rfl
  intro c
  have whole : c = (s.begun.passTime e).control.latch := rfl
  rw [whole, latched, show (s.begun.passTime e).control = _ from passed]
  exact ⟨rfl, rfl, rfl, rfl, rfl⟩

theorem tickMade_of_ticks {s : State} {e : TimeEvent} (ticks : s.ticksAt e = true) :
    tickMade s (s.run fun s => s.passTime e) = true := by
  unfold tickMade
  rw [(run_ticks ticks).2, bne_iff_ne]
  omega

/-- The row that names the tick is its event where there is one (R71, log 5). -/
theorem exec_tick {s : State} {e : TimeEvent} (within : s.clock.tickPhase < 48) :
    exec (.tick e) s = .next (if s.ticksAt e = true then s.run fun s => s.passTime e else s) := by
  refine congrArg Host.Outcome.next ?_
  have made : tickMade s (s.run fun s => s.passTime e) = s.ticksAt e := by
    cases ticks : s.ticksAt e with
    | true => exact tickMade_of_ticks ticks
    | false =>
      unfold tickMade
      rw [run_tickless within ticks]
      exact bne_self_eq_false _
  unfold State.runIf
  rw [made]

end Sys2Proof.Machine
end

section
/-! SUPPORT. A tick at which the show and the panel rest, as the intercom engine finds a GROUP record: after the record's own
step, with the groups, the alarm state and the busy set as they were (R71, R91, R101, R194). -/

namespace Sys2Proof.Machine

/-! ## The blocks before and after the offers -/

/-- What the works but the stream engine's and the intercom engine's leave: record `n` with its surroundings, the groups, the
alarm state, the stream engine's place in the busy set. -/
structure Calm (n : Nat) (s t : State) : Prop extends Spared n s t where
  groups : t.groups = s.groups
  alarmState : t.alarm.state = s.alarm.state
  busyStream : t.control.busyStream = s.control.busyStream

theorem Calm.refl (n : Nat) (s : State) : Calm n s s := ⟨.refl n s, rfl, rfl, rfl⟩

theorem Calm.trans {n : Nat} {s t u : State} (h : Calm n s t) (k : Calm n t u) : Calm n s u :=
  ⟨h.toSpared.trans k.toSpared, k.groups.trans h.groups, k.alarmState.trans h.alarmState, k.busyStream.trans h.busyStream⟩

theorem evaluateFallback_state (s : State) : s.evaluateFallback.alarm.state = s.alarm.state := by
  unfold State.evaluateFallback
  split <;> rfl

/-- With no line state seen the alarm unit keeps the alarm state (R131 to R134, R145). -/
theorem alarmTick_state {s : State} (panel : s.panelRests = true) : s.alarmTick.alarm.state = s.alarm.state := by
  have pattern : s.patternStep.alarm.state = s.alarm.state ∧ s.patternStep.alarm.holdCount = s.alarm.holdCount := by
    unfold State.patternStep AlarmUnit.stepPattern
    dsimp only
    repeat' split
    all_goals exact ⟨rfl, rfl⟩
  have posts (es : List ZoneEntry) : ∀ t : State, (es.foldl (fun t e => State.postSilent e t) t).alarm = t.alarm := by
    induction es with
    | nil => exact fun _ => rfl
    | cons e es ih => exact fun t => (ih _).trans (postSilent_spared 0 e t).2
  have watched (t : State) : t.watchStep.alarm.state = t.alarm.state := by
    have stepped := congrArg AlarmUnit.state (posts t.zones.cells t.watchFallen)
    unfold State.watchStep
    dsimp only
    split
    · exact (evaluateFallback_state _).trans stepped
    · exact stepped
  have decoded {t : State} (held : t.alarm.holdCount ≠ 19) : t.decoderStep.alarm.state = t.alarm.state := by
    have counted : t.countHold.alarm.state = t.alarm.state := by
      rw [countHold_of_rests held]
      split <;> rfl
    unfold State.decoderStep State.countWindow
    dsimp only
    repeat' split
    all_goals exact counted
  have rests : s.patternStep.watchStep.alarm.holdCount ≠ 19 := by
    rw [(watchStep_spared 0 _).2, pattern.2]
    simpa [State.panelRests] using panel
  exact (decoded rests).trans ((watched _).trans pattern.1)

theorem alarmTick_calm (n : Nat) {s : State} (panel : s.panelRests = true) : Calm n s s.alarmTick :=
  ⟨alarmTick_spared n panel, (alarmTick_still s).groups, alarmTick_state panel, (alarmTick_still s).busyStream⟩

theorem showTick_calm (n : Nat) {s : State} (rests : s.showRests = true) : Calm n s s.showTick := by
  obtain ⟨spared, alarm⟩ := showTick_spared n rests
  have still := (Still.refl s).showTick
  exact ⟨spared, still.groups, congrArg AlarmUnit.state alarm, still.busyStream⟩

theorem measure_calm (n k : Nat) {s : State} (rests : s.showRests = true) :
    Calm n s (s.measure k) ∧ (s.measure k).alarm = s.alarm := by
  obtain ⟨spared, alarm⟩ := measure_spared n k rests
  have still := measure_still s k
  exact ⟨⟨spared, still.groups, congrArg AlarmUnit.state alarm, still.busyStream⟩, alarm⟩

/-- A run of the alarm unit's and the show engine's works. -/
theorem foldl_blockTick_calm (n : Nat) (before : State) {bs : List TickBlock} (few : ∀ b ∈ bs, b = .alarm ∨ b = .showEngine)
    (once : bs.Nodup) {s : State} (rests : s.showRests = true) (panel : .alarm ∈ bs → s.panelRests = true) :
    Calm n s (bs.foldl (State.blockTick before) s)
      ∧ (.alarm ∉ bs → (bs.foldl (State.blockTick before) s).alarm = s.alarm) := by
  refine foldl_blockTick_relates (S := Calm n) (.refl n) .trans (fun h => h.toSpared.rests) once (fun b hb t rests panel => ?_)
    rests panel
  obtain rfl | rfl := few b hb
  · exact alarmTick_calm n (panel rfl)
  · exact showTick_calm n rests

/-- Every order: the stream engine, then the intercom engine, the alarm unit and the show engine around them (R71, R194). -/
theorem tickBlocks_offers (o : TickOrder) : ∃ first second third,
    tickBlocks o = first ++ .stream :: (second ++ .intercom :: third)
      ∧ (∀ b ∈ first ++ (second ++ third), b = .alarm ∨ b = .showEngine) ∧ (first ++ (second ++ third)).Nodup := by
  let rest := ((tickBlocks o).dropWhile (· != .stream)).tail
  refine ⟨(tickBlocks o).takeWhile (· != .stream), rest.takeWhile (· != .intercom),
    (rest.dropWhile (· != .intercom)).tail, ?_⟩
  cases o <;> decide

/-! ## The record's own step (R90, R91) -/

/-- A GROUP record in STARTING or PLAYING. -/
def StreamRecord.onGroup (r : StreamRecord) : Prop := (r.state = .starting ∨ r.state = .playing) ∧ r.source = .group

/-- It goes on from its own step, without a fetch. -/
theorem tickRecord_onGroup {before : State} {n : Nat} {s : State} (hn : n < 8) (found : before.stream n = s.stream n)
    (on : (s.stream n).onGroup) : State.tickRecord before n s = s.setStream n (s.stream n).nextAfter := by
  obtain ⟨sounds, group⟩ := on
  have goes : ¬ (s.stream n).completesAtTick := by
    rintro (⟨-, clip, -⟩ | ⟨live, -⟩)
    · rw [group] at clip; cases clip
    · rw [group] at live; cases live
  have waits : ¬ ((s.stream n).openPage ∧ s.control.pageTimeout ≤ (s.stream n).runAfter) := fun h => by
    have live := h.1.1
    rw [group] at live
    cases live
  have stays : (s.setStream n (s.stream n).nextAfter).fetch n = s.setStream n (s.stream n).nextAfter :=
    fetch_of_not_mayFetch fun may => by
      rw [stream_setStream_self s n _ hn] at may
      have clip := ((mayFetch_nextAfter sounds).mp may).1
      rw [group] at clip
      cases clip
  rw [tickRecord_goes hn found sounds goes waits, stays, ite_self]

theorem nextAfter_onGroup {r : StreamRecord} (on : r.onGroup) : r.nextAfter.onGroup ∧ r.nextAfter.group = r.group := by
  obtain ⟨sounds, group⟩ := on
  have next := nextAfter_eq sounds
  refine ⟨⟨?_, ?_⟩, ?_⟩
  · rw [next]
    exact (sounding_iff _).mp (moved_fields sounds).2.2.1
  · rw [next]
    exact (moved_fields sounds).1.trans group
  · rw [next]
    obtain starting | playing := sounds
    · rw [moved_of_starting starting]
      split <;> rfl
    · rw [moved_of_playing playing]
      split <;> rfl

/-- The record as the intercom engine finds it, with what it is offered by. -/
structure AtOffers (n : Nat) (s w : State) : Prop where
  stream : w.stream n = (s.stream n).nextAfter
  groups : w.groups = s.groups
  alarmState : w.alarm.state = s.alarm.state
  busyStream : w.control.busyStream = s.control.busyStream

/-- An engine with a record that is not FREE stays in the busy set (R44). -/
theorem releaseBusy_of_occupied {s : State} {n : Nat} (hn : n < 8) (occupied : (s.releaseBusy.stream n).state ≠ .free) :
    s.releaseBusy.control.busyStream = s.control.busyStream := by
  have going : s.allFree = false := Bool.eq_false_iff.mpr fun free => occupied ((allFree_iff s).mp free n hn)
  show (s.control.busyStream && !s.allFree) = _
  rw [going, Bool.not_false, Bool.and_true]

/-- The stream engine's work on a GROUP record: it goes on, and the engine stays in the busy set. -/
theorem streamTick_atOffers {before : State} {n : Nat} {s : State} (hn : n < 8) (found : before.stream n = s.stream n)
    (on : (s.stream n).onGroup) : AtOffers n s (State.streamTick before s) := by
  obtain ⟨u, first, last⟩ := streamTick_around hn before s
  have ticked := tickRecord_onGroup hn (found.trans first.stream.symm) (first.stream ▸ on)
  have record : (State.streamTick before s).stream n = (s.stream n).nextAfter := by
    rw [last.stream, ticked, stream_setStream_self u n _ hn, first.stream]
  have occupied : ((State.streamTick before s).stream n).state ≠ .free := fun free => by
    have sounds := (nextAfter_onGroup on).1.1
    rw [← record, free] at sounds
    exact absurd sounds (by decide)
  refine ⟨record, (streamTick_beside before s).groups, congrArg AlarmUnit.state (streamTick_apart before s).alarm, ?_⟩
  have still := (Still.refl s).forEach (ns := List.range 8) fun m _ hu => hu.tickRecord before m
  unfold State.streamTick at occupied ⊢
  rw [releaseBusy_of_occupied hn occupied]
  exact still.busyStream

/-! ## The tick and the event -/

/-- The record after the event is as the intercom engine leaves it. -/
def OfferEvent (n : Nat) (s t : State) : Prop := ∃ w, AtOffers n s w ∧ t.stream n = w.intercomTick.stream n

theorem OfferEvent.widen {n : Nat} {s s' t t' : State} (h : OfferEvent n s t) (first : Calm n s' s) (last : Spared n t t') :
    OfferEvent n s' t' := by
  obtain ⟨w, found, left⟩ := h
  refine ⟨w, ⟨?_, found.groups.trans first.groups, found.alarmState.trans first.alarmState,
    found.busyStream.trans first.busyStream⟩, last.stream.trans left⟩
  rw [found.stream, first.stream]

theorem makeTick_offers {n : Nat} (hn : n < 8) {s : State} (order : TickOrder) (rests : s.showRests = true)
    (panel : s.panelRests = true) (on : (s.stream n).onGroup) : OfferEvent n s (s.makeTick order) := by
  let c := s.tickCounted
  obtain ⟨first, second, third, blocks, few, once⟩ := tickBlocks_offers order
  obtain ⟨onceF, onceR, apartF⟩ := List.nodup_append.mp once
  obtain ⟨onceS, onceT, apartS⟩ := List.nodup_append.mp onceR
  obtain ⟨calmA, alarmA⟩ := foldl_blockTick_calm n c (fun b hb => few b (List.mem_append_left _ hb)) onceF (s := c) rests
    fun _ => panel
  let a := first.foldl (State.blockTick c) c
  have apart := streamTick_apart c a
  have offers := streamTick_atOffers (before := c) (s := a) hn calmA.stream.symm (calmA.stream.symm ▸ on)
  have panelR {v : State} (same : v.alarm = a.alarm) (alone : .alarm ∉ first) : v.panelRests = true := by
    unfold State.panelRests
    rw [same, alarmA alone]
    exact panel
  have restsR {v : State} (same : v.theatre = a.theatre) : v.showRests = true := by
    unfold State.showRests
    rw [same]
    exact calmA.toSpared.rests rests
  obtain ⟨calmW, alarmW⟩ := foldl_blockTick_calm n c (fun b hb => few b (List.mem_append_right _ (List.mem_append_left _ hb)))
    onceS (s := State.streamTick c a) (restsR apart.theatre)
    fun mem => panelR apart.alarm fun mem' => apartF _ mem' _ (List.mem_append_left _ mem) rfl
  let w := second.foldl (State.blockTick c) (State.streamTick c a)
  have passed := intercomTick_passed hn w
  obtain ⟨calmT, -⟩ := foldl_blockTick_calm n c (fun b hb => few b (List.mem_append_right _ (List.mem_append_right _ hb)))
    onceT (s := w.intercomTick) (passed.toAside.rests (calmW.toSpared.rests (restsR apart.theatre)))
    fun mem => panelR ((intercomTick_alarm w).trans ((alarmW fun mem' => apartS _ mem' _ mem rfl).trans apart.alarm))
      fun mem' => apartF _ mem' _ (List.mem_append_right _ mem) rfl
  have whole : s.makeTick order = third.foldl (State.blockTick c) w.intercomTick := by
    have taken : third.foldl (State.blockTick c) w.intercomTick
        = (first ++ .stream :: (second ++ .intercom :: third)).foldl (State.blockTick c) c := by
      rw [List.foldl_append, List.foldl_cons, List.foldl_append, List.foldl_cons]
      rfl
    rw [taken, ← blocks]
    rfl
  rw [whole]
  refine ⟨w, ⟨?_, ?_, ?_, ?_⟩, calmT.stream⟩
  · rw [calmW.stream, offers.stream, calmA.stream]
    rfl
  · exact calmW.groups.trans (offers.groups.trans calmA.groups)
  · exact calmW.alarmState.trans (offers.alarmState.trans calmA.alarmState)
  · exact calmW.busyStream.trans (offers.busyStream.trans calmA.busyStream)

theorem creditSteps_offers {n k : Nat} (hn : n < 8) {s : State} (order : Interleave) (rests : s.showRests = true)
    (panel : s.panelRests = true) (on : (s.stream n).onGroup) (due : s.clock.tickDue k = true) :
    OfferEvent n s (s.creditSteps k order) := by
  let p : State := { s with clock := s.clock.advancePhase k }
  have phased : Calm n s p := ⟨clock_spared n s _ rfl, rfl, rfl, rfl⟩
  obtain ⟨early, -⟩ | ⟨-, credited | credited⟩ := creditSteps_cases s k order
  · rw [due] at early; cases early
  · obtain ⟨measured, alarm⟩ := measure_calm n k (s := p) rests
    have panelM : (p.measure k).panelRests = true := by
      unfold State.panelRests
      rw [alarm]
      exact panel
    rw [credited]
    exact (makeTick_offers hn order.blocks (measured.toSpared.rests rests) panelM (measured.stream.symm ▸ on)).widen
      (phased.trans measured) (.refl n _)
  · obtain ⟨before, u, h⟩ := makeTick_event hn (s := p) order.blocks rests panel
    rw [credited]
    exact (makeTick_offers hn (s := p) order.blocks rests panel on).widen phased
      (measure_calm n k (h.rests rests)).1.toSpared

/-- The event of a tick, as a GROUP record sees it. -/
theorem run_offers {n : Nat} (hn : n < 8) {s : State} {e : TimeEvent} (ticks : s.ticksAt e = true) (rests : s.showRests = true)
    (panel : s.panelRests = true) (on : (s.stream n).onGroup) : OfferEvent n s (s.run fun s => s.passTime e) := by
  have begun : Calm n s s.begun := ⟨.quiet rfl rfl (fun _ _ => rfl) id rfl rfl rfl rfl, rfl, rfl, rfl⟩
  obtain ⟨k, order, due, passed⟩ := passTime_credits (s := s.begun) ticks n
  exact (creditSteps_offers hn (s := s.begun) order rests panel on due).widen begun (passed.trans (latch_spared n _))

end Sys2Proof.Machine
end

section
/-! PROOFS. The tick, and the periods offered at it. -/

namespace Sys2Proof.Machine

/-- What every tick does, whatever the order of the blocks. -/
theorem tick_sweeps (s : State) (e : TimeEvent) (ticks : s.ticksAt e = true) :
    let t := s.run fun s => s.passTime e
    (∀ g < 16, t.group g = if (s.group g).defined = true then
        { s.group g with ready := (s.group g).filling, filling := Bank.fill 48 0 } else s.group g)
    ∧ (∀ n < 32, t.station n = if (s.station n).active = true then
        { s.station n with
          ownReady := (s.station n).ownFilling, readyGroup := (s.station n).talk,
          heard := ((List.range 48).filter (s.station n).written.get).length, ownFilling := Bank.fill 48 0,
          written := Bank.fill 48 false } else s.station n)
    ∧ ∀ z < 64, (t.zone z).watch = if (s.zone z).mapped = true then (s.zone z).watch - 1 else (s.zone z).watch := by
  have swept := (run_ticks ticks).1
  refine ⟨fun g hg => ?_, fun n hn => ?_, fun z hz => ?_⟩
  · exact (congrArg (Bank.get · g) swept.groups).trans (group_swept s.begun hg)
  · exact ((congrArg (Bank.get · n) swept.stations).trans (station_swept s.begun hn)).trans (swap_station _)
  · rw [(swept.watched z hz).2, zone_swept s.begun hz]
    exact (stepWatch_watch _).2

/-- A GROUP record after the event of a tick: what the offer of its group's period, completed at the tick, makes of the record its
own step left (R91, R101, R118). -/
theorem run_groupRecord {n : Nat} (hn : n < 8) {s : State} {e : TimeEvent} (ticks : s.ticksAt e = true)
    (rests : s.showRests = true) (panel : s.panelRests = true) (on : (s.stream n).onGroup) (hg : (s.stream n).group < 16) :
    let g := s.group (s.stream n).group
    let t := s.run fun s => s.passTime e
    (g.defined = true → ∃ period : Bank 48 Word,
      OfferMade (s.control.busyStream = false) period (s.stream n).nextAfter (t.stream n)
      ∧ ∀ i < 48, period.get i = if s.alarm.state ≠ .quiet ∧ g.essential = false then 0#32
        else BitVec.ofInt 32 (max (-8388608) (min 8388607 (Int.tdiv (g.filling.get i * g.gain) 4096))))
    ∧ (¬ g.defined = true → t.stream n = (s.stream n).nextAfter) := by
  obtain ⟨w, found, left⟩ := run_offers hn ticks rests panel on
  obtain ⟨next, same⟩ := nextAfter_onGroup on
  have group : (w.stream n).group = (s.stream n).group := by rw [found.stream, same]
  have groups : w.group (s.stream n).group = s.group (s.stream n).group := congrArg (Bank.get · _) found.groups
  obtain ⟨made, undefined⟩ := intercomTick_made hn (s := w) (by rw [group]; exact hg)
  rw [group, groups] at made undefined
  rw [← left, found.stream] at made undefined
  have takes : w.takesOffer (s.stream n).group n ↔ s.control.busyStream = false := by
    unfold State.takesOffer
    rw [found.stream, found.busyStream]
    exact ⟨fun h => h.2.2.2, fun idle => ⟨next.1, next.2, same, idle⟩⟩
  rw [propext takes] at made
  refine ⟨fun defined => ⟨_, made defined, fun i hi => ?_⟩, undefined⟩
  have swapped : w.swapIntercom.group (s.stream n).group = { s.group (s.stream n).group with
      ready := (s.group (s.stream n).group).filling, filling := Bank.fill 48 0 } := by
    rw [group_swapIntercom w hg, groups]
    exact if_pos defined
  have state : w.swapIntercom.alarm.state = s.alarm.state := found.alarmState
  rw [get_completedPeriod _ _ hi, swapped, state]

/-- Settles O42: the sweep of the tick (`tick_sweeps`), one group's offer (`offerGroup_made`), and the offer as it comes to a
record whose own step the tick has taken (`run_groupRecord`). -/
theorem tickAndGroupOffers : Obligations.TickAndGroupOffers := by
  refine ⟨fun s e within => ⟨fun tickless => ?_, fun ticks => ?_⟩, fun s g n hg hn defined => ?_,
    fun s e n ticks rests panel hn => ?_⟩
  · rw [exec_tick within, tickless]
    rfl
  · obtain ⟨swept, count⟩ := run_ticks ticks
    obtain ⟨groups, stations, watches⟩ := tick_sweeps s e ticks
    obtain ⟨errors, captured, outcome, selector, mask⟩ := run_control s e
    have transit := swept.transit
    exact ⟨_, (exec_tick within).trans (congrArg Host.Outcome.next (if_pos ticks)), count, groups, stations, run_intercom ticks,
      watches, (congrArg TransitUnit.tags transit :), (congrArg TransitUnit.forwarded transit :),
      (congrArg TransitUnit.anchor transit :), (congrArg TransitUnit.pins transit :), swept.lines, errors, captured, outcome,
      selector, mask⟩
  · have made := offerGroup_made hn (n := n) defined
    dsimp only
    refine ⟨fun takes room => ?_, fun takes full => ?_, fun passes => ?_, ?_⟩
    · obtain ⟨x, record, ready, inRange, own⟩ := made.room takes room
      exact ⟨x, _, record, ready, inRange, own, fun i hi => get_completedPeriod s g hi⟩
    · exact made.full takes full
    · exact made.passed passes
    · exact offerGroup_frame g s
  · intro r g left offered sample sounds source inRange
    have on : (s.stream n).onGroup := ⟨sounds, source⟩
    obtain ⟨queue, buffers, dropped, -⟩ := nextAfter_fields sounds
    have queue : (s.stream n).nextAfter.queue = left := queue
    obtain ⟨made, undefined⟩ := run_groupRecord hn ticks rests panel on inRange
    refine ⟨_, congrArg Host.Outcome.next (runIf_of_due (tickMade_of_ticks ticks)), fun ⟨defined, idle⟩ room => ?_,
      fun ⟨defined, idle⟩ full => ?_, fun passes => ?_⟩
    · obtain ⟨period, made, samples⟩ := made defined
      obtain ⟨x, record, ready, buffer, own⟩ := made.room idle (by rw [queue]; exact room)
      rw [record]
      refine ⟨x, congrArg (· ++ [x]) queue, ready, buffer, fun y mem => own y (by rw [queue]; exact mem), fun i hi => ?_,
        fun b hb other => ?_, dropped⟩
      · rw [Bank.get_set_self _ _ _ buffer]
        exact samples i hi
      · rw [Bank.get_set_ne _ _ _ _ hb other.symm, buffers]
    · obtain ⟨period, made, -⟩ := made defined
      rw [made.full idle (by rw [queue]; exact full)]
      exact ⟨queue, buffers, by rw [← dropped]; rfl⟩
    · have record : (s.run fun s => s.passTime e).stream n = (s.stream n).nextAfter := by
        by_cases defined : (s.group (s.stream n).group).defined = true
        · obtain ⟨period, made, -⟩ := made defined
          exact made.passed fun idle => passes ⟨defined, idle⟩
        · exact undefined defined
      rw [record]
      exact ⟨queue, buffers, dropped⟩

end Sys2Proof.Machine
end

section
/-! SUPPORT. What the acts of the stream engine leave of what the alarm forbids: no stream comes to life but by a start (R102). -/

namespace Sys2Proof.Machine

/-! ## The relation -/

/-- A record changed without coming to life, its priority kept while it lives. -/
def StreamRecord.Quieter (r r' : StreamRecord) : Prop := r'.live = true → r.live = true ∧ r'.priority = r.priority

/-- An act that leaves the alarm unit and the show, brings no stream to life and changes the priority of none that lives. -/
structure Subdued (s t : State) : Prop where
  alarm : t.alarm = s.alarm
  theatre : t.theatre = s.theatre
  streams : ∀ n < 8, (s.stream n).Quieter (t.stream n)

theorem StreamRecord.Quieter.refl (r : StreamRecord) : r.Quieter r := fun live => ⟨live, rfl⟩

theorem Subdued.refl (s : State) : Subdued s s := ⟨rfl, rfl, fun n _ => .refl (s.stream n)⟩

theorem Subdued.trans {s t u : State} (h : Subdued s t) (k : Subdued t u) : Subdued s u where
  alarm := k.alarm.trans h.alarm
  theatre := k.theatre.trans h.theatre
  streams n hn live := by
    obtain ⟨still, priority⟩ := k.streams n hn live
    obtain ⟨first, same⟩ := h.streams n hn still
    exact ⟨first, priority.trans same⟩

/-- An act on the parts that no field of the relation reads. -/
theorem Subdued.quiet {s t : State} (same : (t.alarm, t.theatre, t.streams) = (s.alarm, s.theatre, s.streams)) : Subdued s t := by
  obtain ⟨alarm, theatre, streams⟩ : t.alarm = s.alarm ∧ t.theatre = s.theatre ∧ t.streams = s.streams := by simpa using same
  exact ⟨alarm, theatre, fun n _ => by unfold State.stream; rw [streams]; exact .refl _⟩

/-- An act on one record, on the alarm unit and the show on none. -/
theorem Subdued.record {s t : State} {n : Nat} {r : StreamRecord} (streams : t.streams = s.streams.set n r)
    (same : (t.alarm, t.theatre) = (s.alarm, s.theatre)) (fits : (s.stream n).Quieter r) : Subdued s t :=
  ⟨congrArg Prod.fst same, congrArg Prod.snd same, fun m hm => by
    rw [show t.stream m = (s.setStream n r).stream m by unfold State.stream; rw [streams]; rfl, stream_setStream s n m r hm]
    split
    · next same => exact same ▸ fits
    · exact .refl _⟩

theorem Subdued.mapStreams {s : State} {f : StreamRecord → StreamRecord} (fits : ∀ r : StreamRecord, r.Quieter (f r)) :
    Subdued s { s with streams := s.streams.map f } :=
  ⟨rfl, rfl, fun n hn => by
    rw [show State.stream { s with streams := s.streams.map f } n = f (s.stream n) from Bank.get_map f _ n hn]
    exact fits _⟩

theorem Subdued.forEach {f : Nat → State → State} {ns : List Nat} (turns : ∀ n t, Subdued t (f n t)) (s : State) :
    Subdued s (s.forEach ns f) :=
  forEach_keeps (P := Subdued s) (fun n _ t ht => ht.trans (turns n t)) (.refl s)

theorem Subdued.countedFrom (s : State) (before : Nat) : Subdued s (s.countedFrom before) := by
  unfold State.countedFrom
  split <;> exact .quiet (by rfl)

/-! ## Ending, pausing, starting (R86 to R88, R92, R104) -/

theorem endStream_subdued (cause : EndCause) (n : Nat) (s : State) : Subdued s (s.endStream cause n) where
  alarm := (endStream_same cause n s).alarm
  theatre := (endStream_same cause n s).theatre
  streams m hm live := by
    rw [endStream_stream cause n m s hm] at live ⊢
    split at live
    · cases live
    · next other => rw [if_neg other]; exact ⟨live, rfl⟩

theorem endMany_subdued (cause : EndCause) (p : Nat → State → Prop) [∀ n s, Decidable (p n s)] (s : State) :
    Subdued s (s.forEach (List.range 8) fun n s => if p n s then s.endStream cause n else s) :=
  .forEach (fun n t => by
    split
    · exact endStream_subdued cause n t
    · exact .refl t) s

theorem pause_quieter (r : StreamRecord) : r.Quieter r.pause := by
  unfold StreamRecord.pause
  split
  · next sounds => exact fun _ => ⟨sounding_live sounds.2, rfl⟩
  · exact .refl r

theorem resume_quieter (r : StreamRecord) : r.Quieter r.resume := by
  unfold StreamRecord.resume
  split
  · next paused => exact fun _ => ⟨(live_iff r).mpr (.inr (.inr paused.2)), rfl⟩
  · exact .refl r

theorem fetch_subdued (n : Nat) (s : State) : Subdued s (s.fetch n) := by
  by_cases may : (s.stream n).mayFetch = true
  · rw [fetch_of_mayFetch may]
    exact .record rfl (by rfl) fun live => ⟨live, rfl⟩
  · rw [fetch_of_not_mayFetch may]
    exact .refl s

theorem bindZones_subdued (n : Nat) (zs : List Nat) (s : State) : Subdued s (s.bindZones n zs) := by
  refine (Subdued.forEach (f := State.bindZone n) (fun _ _ => .quiet (by rfl)) s).trans (.forEach (fun m t => ?_) _)
  unfold State.preemptIfEmpty
  split
  · exact endStream_subdued _ m t
  · exact .refl t

/-- A start brings no stream to life but the record it sets up (R86, R87). -/
theorem startStream_subdued (s : State) (n : Nat) (owner : StreamOwner) (priority : Nat) (source : StartSource) (zs : List Nat) :
    Subdued (s.setStream n ((s.stream n).setUp owner priority source)) (s.startStream n owner priority source zs) := by
  have bound := bindZones_subdued n zs (s.setStream n ((s.stream n).setUp owner priority source))
  cases source with
  | clip base periods repeats => exact bound.trans (fetch_subdued n _)
  | live => exact bound.trans (.quiet (by rfl))
  | group g => exact bound

/-! ## The tick (R90 to R93, R99 to R101) -/

theorem pageWatch_subdued (n : Nat) (s : State) : Subdued s (s.pageWatch n) := by
  have counted : Subdued s (s.setStream n (s.stream n).countStarved) := .record rfl (by rfl) fun live => ⟨live, rfl⟩
  unfold State.pageWatch
  dsimp only
  repeat' split
  · exact counted.trans (endStream_subdued _ n _)
  · exact counted
  · exact .refl s

theorem freeIfDrained_subdued (n : Nat) (s : State) : Subdued s (s.freeIfDrained n) := by
  unfold State.freeIfDrained
  dsimp only
  split
  · exact .record rfl (by rfl) nofun
  · exact .refl s

theorem begin_quieter {r : StreamRecord} (starting : r.state = .starting) : r.Quieter r.begin := by
  have live : r.live = true := (live_iff r).mpr (.inl starting)
  unfold StreamRecord.begin
  split <;> exact fun _ => ⟨live, rfl⟩

theorem retire_quieter (r : StreamRecord) : r.Quieter r.retire := by
  unfold StreamRecord.retire
  split <;> exact fun live => ⟨live, rfl⟩

theorem promote_quieter (r : StreamRecord) : r.Quieter r.promote := by
  unfold StreamRecord.promote
  split <;> exact fun live => ⟨live, rfl⟩

theorem tickRecord_subdued (before : State) (n : Nat) (s : State) : Subdued s (State.tickRecord before n s) := by
  unfold State.tickRecord
  split
  · exact .refl s
  · next starting =>
    have begun : Subdued s (s.setStream n (s.stream n).begin) := .record rfl (by rfl) (begin_quieter starting)
    split
    · unfold State.tickStarting
      dsimp only
      split
      · exact begun.trans (endStream_subdued _ n _)
      · exact begun.trans (pageWatch_subdued n _)
    · exact .refl s
  · have retired : Subdued s (s.setStream n (s.stream n).retire) := .record rfl (by rfl) (retire_quieter _)
    unfold State.tickPlaying
    dsimp only
    split
    · exact retired.trans (endStream_subdued _ n _)
    · refine (Subdued.trans ?_ (pageWatch_subdued n _)).trans (fetch_subdued n _)
      exact retired.trans (.record rfl (by rfl) (promote_quieter _))
  · exact .refl s
  · split
    · unfold State.tickEnding
      have emptied : Subdued s
          (s.setStream n { s.stream n with queue := [], current := false, drained := true }) :=
        .record rfl (by rfl) fun live => ⟨live, rfl⟩
      exact (emptied.trans (u := State.unbindAll n _) (.quiet (by rfl))).trans (freeIfDrained_subdued n _)
    · exact .refl s

theorem releaseBusy_subdued (s : State) : Subdued s s.releaseBusy := .quiet (by rfl)

theorem streamTick_subdued (before s : State) : Subdued s (State.streamTick before s) := by
  unfold State.streamTick
  exact (Subdued.forEach (fun n t => tickRecord_subdued before n t) s).trans (releaseBusy_subdued _)

theorem offerPeriod_subdued (g : Nat) (samples : Bank 48 Word) (n : Nat) (s : State) :
    Subdued s (State.offerPeriod g samples n s) := by
  unfold State.offerPeriod
  dsimp only
  repeat' split
  · exact .record rfl (by rfl) fun live => ⟨live, rfl⟩
  · exact .record rfl (by rfl) fun live => ⟨live, rfl⟩
  · exact .refl s

theorem intercomTick_subdued (s : State) : Subdued s s.intercomTick := by
  have offered : ∀ g t, Subdued t (State.offerGroup g t) := fun g t => by
    unfold State.offerGroup
    split
    · exact .forEach (fun n u => offerPeriod_subdued g _ n u) t
    · exact .refl t
  have swapped : Subdued s s.swapIntercom := .quiet (by rfl)
  have released : ∀ t : State, Subdued t { t with control := { t.control with busyIntercom := false } } := fun _ => .quiet (by rfl)
  unfold State.intercomTick
  exact (swapped.trans (.forEach offered _)).trans (released _)

/-! ## The live page and the responses (R89, R95 to R99) -/

theorem dropPeriod_subdued (n : Nat) (s : State) : Subdued s (s.dropPeriod n) := by
  unfold State.dropPeriod
  dsimp only
  refine Subdued.trans (.record rfl (by rfl) ?_) (.countedFrom _ _)
  exact fun live => ⟨live, rfl⟩

theorem newPagePeriod_subdued (s : State) (n p : Nat) (word : Word) : Subdued s (s.newPagePeriod n p word) := by
  unfold State.newPagePeriod
  dsimp only
  split
  · exact .record rfl (by rfl) fun live => ⟨live, rfl⟩
  · exact dropPeriod_subdued n s

theorem fill_quieter (r : StreamRecord) (i : Nat) (word : Word) : r.Quieter (r.fill i word) := by
  rw [fill_eq]
  exact fun live => ⟨live, rfl⟩

theorem offerPage_subdued (s : State) (offset : Nat) (word : Word) : Subdued s (s.offerPage offset word) := by
  unfold State.offerPage State.pageStray State.pageStart State.pageSample
  dsimp only
  repeat' split
  · exact Subdued.trans (.quiet (by rfl)) (.countedFrom _ s.page.strayCount)
  · exact .refl s
  · exact .record rfl (by rfl) (fill_quieter _ _ _)
  · exact newPagePeriod_subdued s _ _ _
  · next n _ _ _ _ =>
    have removed : Subdued s (s.setStream n { s.stream n with queue := dropFilling (s.stream n).queue }) :=
      .record rfl (by rfl) fun live => ⟨live, rfl⟩
    exact ((removed.trans (dropPeriod_subdued n _)).trans (.quiet (by rfl))).trans (newPagePeriod_subdued _ _ _ _)
  · next n _ _ _ _ => exact .record rfl (by rfl) fun live => fill_quieter (s.stream n) _ word live
  · exact .record rfl (by rfl) (fill_quieter _ _ _)
  · exact .refl s

theorem takePgc_subdued {s t : State} {n : Nat} (closed : s.takePgc = .ok (n, t)) : Subdued s t := by
  unfold State.takePgc at closed
  split at closed
  · cases closed
  · cases closed
    exact .record rfl (by rfl) fun live => ⟨live, rfl⟩

theorem ownData_subdued (s : State) (r : OwnRequest) (status : MemStatus) (words : List Word) :
    Subdued s (s.ownData r status words) := by
  by_cases live : (s.stream r.stream).live = true
  · cases status with
    | fault => rw [ownData_fault words live]; exact endStream_subdued _ _ _
    | ok =>
      rw [ownData_ok words live]
      obtain ⟨buffers, placed⟩ := place_eq (s.stream r.stream) r words
      exact (Subdued.record rfl (by rfl) (by rw [placed]; exact fun live => ⟨live, rfl⟩)).trans (fetch_subdued _ _)
  · rw [ownData_dropped status words (by simpa using live)]
    exact (freeIfDrained_subdued _ _).trans (releaseBusy_subdued _)

theorem ownResponse_subdued (s : State) (k : Nat) (r : OwnRequest) (status : MemStatus) (words : List Word) :
    Subdued s (s.ownResponse k r status words) := Subdued.trans (.quiet (by rfl)) (ownData_subdued _ r status words)

end Sys2Proof.Machine
end

section
/-! SUPPORT. What the alarm forbids (R102, R152, R168), through every act of the blocks. -/

namespace Sys2Proof.Machine

/-! ## Changes that the law stands -/

/-- In QUIET the law asks of the fallback lines alone (R152). -/
theorem alarmLaw_of_quiet {s t : State} (quiet : s.alarm.state = .quiet) (alarm : t.alarm = s.alarm) (law : AlarmLaw s) :
    AlarmLaw t where
  released := alarm ▸ law.released
  sounding sounds := by rw [alarm, quiet] at sounds; cases sounds
  muster musters := by rw [alarm, quiet] at musters; cases musters
  held alarmed := absurd quiet (alarm ▸ alarmed)

section acts

variable {s : State} (law : AlarmLaw s)
include law

theorem AlarmLaw.subdued {t : State} (h : Subdued s t) : AlarmLaw t where
  released := h.alarm ▸ law.released
  sounding sounds n hn := by
    have silent := law.sounding (h.alarm ▸ sounds) n hn
    rw [Bool.eq_false_iff] at silent ⊢
    exact fun live => silent (h.streams n hn live).1
  muster musters n hn live := by
    obtain ⟨before, priority⟩ := h.streams n hn live
    exact priority.trans (law.muster (h.alarm ▸ musters) n hn before)
  held := by rw [h.alarm, h.theatre]; exact law.held

/-- An act on the parts that the law does not read. -/
theorem AlarmLaw.quiet {t : State} (same : (t.alarm, t.theatre, t.streams) = (s.alarm, s.theatre, s.streams)) : AlarmLaw t :=
  law.subdued (.quiet same)

theorem AlarmLaw.post (k : NoticeKind) : AlarmLaw (s.post k) := law.quiet (by rfl)

theorem AlarmLaw.control (c : ControlUnit) : AlarmLaw { s with control := c } := law.quiet (by rfl)

theorem AlarmLaw.clock (c : ClockUnit) : AlarmLaw { s with clock := c } := law.quiet (by rfl)

theorem AlarmLaw.zones (zones : Bank 64 ZoneEntry) : AlarmLaw { s with zones := zones } := law.quiet (by rfl)

theorem AlarmLaw.countedFrom (before : Nat) : AlarmLaw (s.countedFrom before) := law.subdued (.countedFrom s before)

/-- The alarm unit but for its state and its fallback lines. -/
theorem AlarmLaw.alarmUnit {a : AlarmUnit} (same : (a.state, a.fallback) = (s.alarm.state, s.alarm.fallback)) :
    AlarmLaw { s with alarm := a } := by
  obtain ⟨state, fallback⟩ := Prod.mk.inj same
  exact
    { released := fun quiet => by
        rw [fallback]
        exact law.released (state ▸ quiet)
      sounding := fun sounds => law.sounding (state ▸ sounds)
      muster := fun musters => law.muster (state ▸ musters)
      held := fun alarmed => law.held (state ▸ alarmed) }

/-- A show record that does not begin to run in an alarm (R168). -/
theorem AlarmLaw.setShow {r : ShowRecord} (runs : s.alarm.state ≠ .quiet → r.state = .running → s.theatre.state = .running) :
    AlarmLaw (s.setShow r) where
  released := law.released
  sounding := law.sounding
  muster := law.muster
  held alarmed running := law.held alarmed (runs alarmed running)

/-- A record that lives only as the alarm permits (R102). -/
theorem AlarmLaw.setStream {n : Nat} {r : StreamRecord} (permitted : s.alarm.state ≠ .sounding)
    (urgent : s.alarm.state = .muster → r.priority = 7) : AlarmLaw (s.setStream n r) where
  released := law.released
  sounding sounds := absurd sounds permitted
  muster musters m hm live := by
    rw [stream_setStream s n m r hm] at live ⊢
    split at live
    · next same => rw [if_pos same]; exact urgent musters
    · next other => rw [if_neg other]; exact law.muster musters m hm live
  held := law.held

/-- The show runs in QUIET only. -/
theorem AlarmLaw.quiet_of_running (running : s.theatre.state = .running) : s.alarm.state = .quiet := by
  by_contra alarmed
  exact law.held alarmed running

end acts

/-! ## The show engine -/

theorem forEach_alarm {f : Nat → State → State} {ns : List Nat} (turns : ∀ n t, (f n t).alarm = t.alarm) (s : State) :
    (s.forEach ns f).alarm = s.alarm := forEach_same State.alarm (fun n _ t => turns n t) s

theorem cueAction_alarm (s : State) (n : Nat) (c : Cue) : (s.cueAction n c).1.alarm = s.alarm := by
  unfold State.cueAction
  cases c.action with
  | note => rfl
  | endShow => rfl
  | halt =>
    dsimp only
    exact (endCueStream_same s _).alarm
  | fade =>
    dsimp only [State.fade]
    split
    · rfl
    · dsimp only
      exact forEach_alarm (fun z t => setZone_alarm t z _) s
  | play =>
    dsimp only [State.play]
    repeat' split
    · rfl
    · rfl
    · rfl
    · next t started =>
      obtain ⟨m, -, -, rfl⟩ := startRequest_some started
      exact (startStream_subdued s m _ _ _ _).alarm

theorem passCue_alarm (s : State) (n : Nat) (notify : Bool) (st : CueState) : (s.passCue n notify st).alarm = s.alarm := by
  unfold State.passCue
  dsimp only
  split <;> rfl

theorem houseLevels_alarm (s : State) : s.houseLevels.alarm = s.alarm := rfl

theorem endShow_alarm (s : State) : s.endShow.alarm = s.alarm := by
  unfold State.endShow
  rw [post_alarm, setShow_alarm, houseLevels_alarm, (endShowStreams_same s).alarm]

theorem fireCue_alarm (s : State) : s.fireCue.alarm = s.alarm := by
  have acted := cueAction_alarm s s.theatre.pointer (s.theatre.cue s.theatre.pointer)
  have passed := (passCue_alarm (s.cueAction s.theatre.pointer (s.theatre.cue s.theatre.pointer)).1 s.theatre.pointer
    (s.theatre.cue s.theatre.pointer).notify (s.cueAction s.theatre.pointer (s.theatre.cue s.theatre.pointer)).2).trans acted
  unfold State.fireCue
  dsimp only
  split
  · exact (endShow_alarm _).trans passed
  · exact passed

theorem consider_alarm (s : State) : s.consider.alarm = s.alarm :=
  consider_keeps (P := fun t => t.alarm = s.alarm) (fun t same => (fireCue_alarm t).trans same)
    (fun t same => (passCue_alarm t _ _ _).trans same) rfl

section acts

variable {s : State} (law : AlarmLaw s)
include law

/-- Cues are considered in QUIET, or not at all (R168, R174). -/
theorem AlarmLaw.consider : AlarmLaw s.consider := by
  by_cases running : s.theatre.state = .running
  · exact alarmLaw_of_quiet (law.quiet_of_running running) (consider_alarm s) law
  · rw [consider_of_rests (by simp [State.showRests, running])]
    exact law

theorem AlarmLaw.hold (cause : HoldCause) : AlarmLaw (s.hold cause) := by
  refine (AlarmLaw.setShow (law.zones (s.zones.map ZoneEntry.holdRamp)) fun _ running => ?_).post _
  cases running

theorem AlarmLaw.clearShow : AlarmLaw s.clearShow := by
  have ended : AlarmLaw s.endShowStreams := law.subdued (endMany_subdued .stopped (fun n t => (t.stream n).showOwned = true) s)
  have stops : s.endShowStreams.theatre.cleared.state ≠ .running := by
    unfold ShowRecord.cleared
    dsimp only
    split <;> exact nofun
  rw [clearShow_eq]
  exact (ended.setShow fun _ running => absurd running stops).quiet (by rfl)

theorem AlarmLaw.showTick : AlarmLaw s.showTick := by
  have counted : s.theatre.countFollow.state = s.theatre.state := by
    unfold ShowRecord.countFollow
    split <;> rfl
  exact (AlarmLaw.setShow (law.zones (s.zones.map ZoneEntry.stepRamp)) fun _ running => counted.symm.trans running).consider

end acts

theorem resumeShowStreams_alarm (s : State) : s.resumeShowStreams.alarm = s.alarm := rfl

theorem resumeShow_alarm (s : State) : s.resumeShow.alarm = s.alarm := by
  have levels : ∀ snap, (s.forEach (List.range 64) (State.resumeZone snap)).alarm = s.alarm := fun snap =>
    forEach_alarm (fun z t => by
      unfold State.resumeZone
      repeat' split
      all_goals rfl) s
  unfold State.resumeShow
  rw [post_alarm, setShow_alarm, resumeShowStreams_alarm]
  split
  · rw [setShow_alarm]
    exact levels _
  · rfl

/-! ## The alarm unit (R131 to R134, R136 to R152) -/

theorem alarmHold_alarm (s : State) : s.alarmHold.alarm = s.alarm := by
  unfold State.alarmHold
  split <;> rfl

theorem alarmHold_streams (s : State) : s.alarmHold.streams = s.streams := by
  unfold State.alarmHold
  split <;> rfl

/-- The show's answer to the alarm leaves it not running (R187). -/
theorem alarmHold_stops (s : State) : s.alarmHold.theatre.state ≠ .running := by
  unfold State.alarmHold
  cases state : s.theatre.state with
  | running => exact nofun
  | stopped => exact fun running => nomatch state.symm.trans running
  | idle => exact fun running => nomatch state.symm.trans running
  | held =>
    cases s.theatre.holdCause with
    | none => exact fun running => nomatch state.symm.trans running
    | some cause =>
      cases cause with
      | command => exact fun running => nomatch state.symm.trans running
      | alarm => exact fun running => nomatch state.symm.trans running

/-- The alarm unit's own part of the entry into SOUNDING (R131, R151). -/
def State.alarmRaised (s : State) (source : AlarmSource) : State :=
  (State.post { s with alarm := { s.alarm.restartPattern with
    state := .sounding, source := some source, entryTick := s.clock.tickCount } } .alarm).evaluateFallback

theorem enterSounding_eq (s : State) (source : AlarmSource) :
    s.enterSounding source = ((s.alarmRaised source).endAll .alarm).alarmHold := rfl

/-- The unit as the entry leaves it: in SOUNDING the evaluation runs (R131, R151). -/
theorem alarmRaised_eq (s : State) (source : AlarmSource) : s.alarmRaised source = { s with
    control := s.control.post .alarm,
    alarm := { s.alarm with
      segment := 0, elapsed := 0, phase := 0, state := .sounding, source := some source, entryTick := s.clock.tickCount,
      fallback := Bank.ofFn 8 fun g => s.alarm.fallback.get g || s.groupUnheard g } } := by
  unfold State.alarmRaised
  refine (evaluateFallback_alarm ?_).trans rfl
  exact nofun

theorem enterSounding_alarm (s : State) (source : AlarmSource) :
    (s.enterSounding source).alarm = (s.alarmRaised source).alarm := by
  rw [enterSounding_eq, alarmHold_alarm, (endAll_same _ _).alarm]

/-- The entry into SOUNDING ends every stream and holds the show: the law holds whatever it found (R102, R187). -/
theorem enterSounding_alarmLaw (s : State) (source : AlarmSource) : AlarmLaw (s.enterSounding source) := by
  have sounds : (s.enterSounding source).alarm.state = .sounding := by rw [enterSounding_alarm, alarmRaised_eq]
  refine ⟨fun quiet => ?_, fun _ n hn => ?_, fun musters => ?_, fun _ => by rw [enterSounding_eq]; exact alarmHold_stops _⟩
  · exact nomatch sounds.symm.trans quiet
  swap
  · exact nomatch sounds.symm.trans musters
  have same : (s.enterSounding source).stream n = ((s.alarmRaised source).endAll .alarm).stream n := by
    unfold State.stream
    rw [enterSounding_eq, alarmHold_streams]
  rw [same]
  exact endAll_rests _ _ hn

section acts

variable {s : State} (law : AlarmLaw s)
include law

theorem AlarmLaw.evaluateFallback : AlarmLaw s.evaluateFallback := by
  by_cases quiet : s.alarm.state = .quiet
  · rw [evaluateFallback_quiet quiet]; exact law
  · rw [evaluateFallback_alarm quiet]
    exact ⟨fun quiet' => absurd quiet' quiet, law.sounding, law.muster, law.held⟩

/-- No stream lives as MUSTER is entered from SOUNDING (R102, R133). -/
theorem AlarmLaw.enterMuster (sounds : s.alarm.state = .sounding) : AlarmLaw s.enterMuster where
  released := nofun
  sounding := nofun
  muster _ n hn live := by
    rw [show (s.enterMuster.stream n).live = false from law.sounding sounds n hn] at live
    cases live
  held _ := law.held (by rw [sounds]; exact nofun)

theorem AlarmLaw.soundRequest : AlarmLaw s.soundRequest := by
  unfold State.soundRequest
  dsimp only
  split
  · exact law.alarmUnit (by rfl)
  · exact enterSounding_alarmLaw _ _

theorem AlarmLaw.silenceRequest : AlarmLaw s.silenceRequest := by
  unfold State.silenceRequest
  split
  · next sounds => exact law.enterMuster sounds
  · exact law

theorem AlarmLaw.setDecoder (d : DecoderState) (window : Nat) : AlarmLaw (s.setDecoder d window) := law.alarmUnit (by rfl)

theorem AlarmLaw.abortPanel : AlarmLaw s.abortPanel := law.alarmUnit (by rfl)

theorem AlarmLaw.seeLine : AlarmLaw s.seeLine := by
  unfold State.seeLine
  split
  · exact law.setDecoder _ _
  · exact law.silenceRequest
  · exact law
  · exact law
  · exact (law.setDecoder _ _).soundRequest
  · exact (law.setDecoder _ _).abortPanel
  · exact law.silenceRequest
  · exact law
  · exact law.setDecoder _ _
  · exact law.silenceRequest
  · exact law
  · exact law

theorem AlarmLaw.decoderStep : AlarmLaw s.decoderStep := by
  have held : AlarmLaw s.countHold := by
    unfold State.countHold
    dsimp only
    repeat' split
    · exact AlarmLaw.seeLine (law.alarmUnit (by rfl))
    · exact law.alarmUnit (by rfl)
    · exact law
  unfold State.decoderStep State.countWindow
  dsimp only
  repeat' split
  · exact (held.setDecoder _ _).abortPanel
  · exact held.alarmUnit (by rfl)
  · exact held

theorem AlarmLaw.postSilents (es : List ZoneEntry) : AlarmLaw (es.foldl (fun t e => State.postSilent e t) s) := by
  induction es generalizing s with
  | nil => exact law
  | cons e es ih =>
    refine ih ?_
    show AlarmLaw (State.postSilent e s)
    unfold State.postSilent
    split
    · exact (law.post _).countedFrom _
    · exact law

theorem AlarmLaw.alarmTick : AlarmLaw s.alarmTick := by
  have stepped : AlarmLaw s.patternStep := by
    unfold State.patternStep
    split
    · refine law.alarmUnit ?_
      unfold AlarmUnit.stepPattern
      dsimp only
      split <;> rfl
    · exact law
  refine AlarmLaw.decoderStep ?_
  have watched := AlarmLaw.postSilents (stepped.zones (s.patternStep.zones.map ZoneEntry.stepWatch)) s.patternStep.zones.cells
  unfold State.watchStep
  dsimp only
  split
  · exact watched.evaluateFallback
  · exact watched

/-! ## The tick and the clock unit -/

theorem AlarmLaw.makeTick (order : TickOrder) : AlarmLaw (s.makeTick order) :=
  makeTick_keeps (fun before t b law => by
    cases b with
    | stream => exact law.subdued (streamTick_subdued before t)
    | intercom => exact law.subdued (intercomTick_subdued t)
    | alarm => exact law.alarmTick
    | showEngine => exact law.showTick) (law.clock _)

theorem AlarmLaw.setLock (lock : LockState) : AlarmLaw (s.setLock lock) := (law.clock _).post _

theorem AlarmLaw.markEvent : AlarmLaw s.markEvent := (law.clock _).consider

theorem AlarmLaw.measureStep : AlarmLaw s.measureStep := by
  have counted : AlarmLaw { s with clock := s.clock.countStep } := law.clock _
  unfold State.measureStep State.closeWindow
  dsimp only
  repeat' split
  · exact counted
  · exact counted
  · exact ((counted.setLock _).clock _).markEvent
  · exact counted
  · exact ((counted.setLock _).clock _).markEvent
  · exact (counted.clock _).markEvent
  · exact counted

theorem AlarmLaw.acquireMark : AlarmLaw s.acquireMark := by
  unfold State.acquireMark
  dsimp only
  split
  · exact AlarmLaw.setLock (law.clock _) _
  · exact law.clock _

theorem AlarmLaw.realMark : AlarmLaw s.realMark := by
  unfold State.realMark
  dsimp only
  repeat' split
  · exact ((law.setLock _).clock _).markEvent
  · exact (law.acquireMark.clock _).markEvent
  · exact ((law.setLock _).clock _).markEvent
  · exact (law.clock _).markEvent
  · exact law
  · exact ((law.setLock _).clock _).markEvent

theorem AlarmLaw.creditSteps (n : Nat) (order : Interleave) : AlarmLaw (s.creditSteps n order) :=
  creditSteps_keeps (fun _ law => law.measureStep) (fun _ o law => law.makeTick o) (law.clock _)

theorem AlarmLaw.loseLine : AlarmLaw s.loseLine := (law.clock _).post _

theorem AlarmLaw.clockEdge (gap : Nat) (order : Interleave) : AlarmLaw (s.clockEdge gap order) := by
  have credited := law.creditSteps 1 order
  unfold State.clockEdge State.monitorLine State.monitorReference State.takeLine
  repeat' split
  · exact law
  · exact credited.clock _
  · exact credited.loseLine
  · exact credited.clock _
  · exact AlarmLaw.post (law.clock _) _
  · exact law.clock _
  · exact law.clock _

theorem AlarmLaw.referenceStep (order : Interleave) : AlarmLaw (s.referenceStep order) := by
  unfold State.referenceStep
  split
  · exact law
  · exact law.creditSteps 1 order

theorem AlarmLaw.expireGap (order : Interleave) : AlarmLaw (s.expireGap order) := by
  unfold State.expireGap
  split
  · exact law
  · exact (law.creditSteps 3 order).loseLine

theorem AlarmLaw.showPulse : AlarmLaw s.showPulse := by
  unfold State.showPulse
  split
  · exact law
  · exact law.realMark

theorem AlarmLaw.changePanel (a b : Bool) : AlarmLaw (s.changePanel a b) := by
  unfold State.changePanel
  split
  · exact law
  · exact AlarmLaw.quiet (law.alarmUnit (a := { s.alarm with holdCount := 0 }) (by rfl)) (by rfl)

end acts

end Sys2Proof.Machine
end

section
/-! SUPPORT. What the alarm forbids (R102, R152, R168), through the commands, the table writes and the two ports. -/

namespace Sys2Proof.Machine

/-! ## Starting a stream (R85, R102) -/

/-- An ANS is refused in SOUNDING, and in MUSTER below priority 7 (R85). -/
theorem takeAns_permitted {s t : State} {priority value : Nat} {source : StartSource} {zs : ZoneSet}
    (started : s.takeAns priority source zs = .ok (value, t)) :
    s.alarm.state ≠ .sounding ∧ (s.alarm.state = .muster → priority = 7) := by
  have refused : ¬ (s.alarm.state = .sounding ∨ (s.alarm.state = .muster ∧ priority ≠ 7)) := fun alarmed => by
    unfold State.takeAns State.ansJudge at started
    rw [if_pos alarmed] at started
    cases ok : s.ansArgumentsOk priority source <;> (rw [ok] at started; cases started)
  exact ⟨fun sounds => refused (.inl sounds), fun musters => by_contra fun low => refused (.inr ⟨musters, low⟩)⟩

/-- The return to QUIET releases every fallback line (R134). -/
theorem enterQuiet_alarmLaw (s : State) : AlarmLaw s.enterQuiet where
  released _ g hg := Bank.get_fill false g hg
  sounding sounds := nomatch sounds
  muster musters := nomatch musters
  held alarmed := absurd rfl alarmed

theorem setUp_priority (old : StreamRecord) (owner : StreamOwner) (priority : Nat) (source : StartSource) :
    (old.setUp owner priority source).priority = priority := by
  cases source <;> rfl

section acts

variable {s : State} (law : AlarmLaw s)
include law

theorem AlarmLaw.takeAns {t : State} {priority value : Nat} {source : StartSource} {zs : ZoneSet}
    (started : s.takeAns priority source zs = .ok (value, t)) : AlarmLaw t := by
  obtain ⟨permitted, urgent⟩ := takeAns_permitted started
  obtain ⟨n, -, -, -, rfl⟩ := takeAns_ok started
  have set : AlarmLaw (s.setStream n ((s.stream n).setUp .announce priority source)) :=
    law.setStream permitted fun musters => (setUp_priority _ _ _ _).trans (urgent musters)
  exact set.subdued (startStream_subdued s n _ _ _ _)

/-! ## The commands (R27) -/

theorem AlarmLaw.takeShg {t : State} {value : Nat} (taken : s.takeShg = .ok (value, t)) : AlarmLaw t := by
  unfold State.takeShg at taken
  repeat' split at taken
  all_goals cases taken
  · next quiet =>
    refine (AlarmLaw.setShow law fun alarmed => ?_).post _ |>.consider
    exact absurd alarmed quiet
  · next running _ =>
    exact (alarmLaw_of_quiet (law.quiet_of_running running) (fireCue_alarm s) law).consider

theorem AlarmLaw.takeShr {t : State} {value : Nat} (taken : s.takeShr = .ok (value, t)) : AlarmLaw t := by
  unfold State.takeShr at taken
  repeat' split at taken
  all_goals cases taken
  next quiet => exact (alarmLaw_of_quiet (not_not.mp quiet) (resumeShow_alarm s) law).consider

theorem AlarmLaw.takeRst {t : State} {scope value : Nat} (taken : s.takeRst scope = .ok (value, t)) : AlarmLaw t := by
  have busy : ∀ stream intercom show', AlarmLaw (s.setBusy stream intercom show') := fun _ _ _ => law.quiet (by rfl)
  have intercom : ∀ t : State, AlarmLaw t → AlarmLaw t.clearIntercom := fun t law => law.quiet (by rfl)
  unfold State.takeRst at taken
  repeat' split at taken
  all_goals cases taken
  · have ended : AlarmLaw ((s.setBusy true true true).endAll .restart) :=
      (busy _ _ _).subdued (.forEach (fun n t => endStream_subdued .restart n t) _)
    exact (intercom _ ended).clearShow.subdued (releaseBusy_subdued _)
  · have ended : AlarmLaw (s.setBusy false true false).endGroupStreams :=
      (busy _ _ _).subdued
        (endMany_subdued .restart (fun n t => (t.stream n).source = .group ∧ (t.stream n).sounding = true) _)
    exact intercom _ ended
  · exact (busy _ _ _).clearShow.subdued (releaseBusy_subdued _)

theorem AlarmLaw.ownRule {t : State} {cmd : Command} {value : Nat} (rule : s.ownRule cmd = .ok (value, t)) : AlarmLaw t := by
  cases cmd with
  | ansClip priority zones base periods repeats => exact law.takeAns rule
  | ansLive priority zones => exact law.takeAns rule
  | ansGroup priority zones group => exact law.takeAns rule
  | ansNone => cases rule
  | anx index =>
    simp only [State.ownRule, State.takeAnx] at rule
    repeat' split at rule
    all_goals cases rule
    exact law.subdued (endStream_subdued _ _ _)
  | pgc => exact law.subdued (takePgc_subdued rule)
  | ict station group =>
    simp only [State.ownRule, State.takeIct] at rule
    split at rule
    · cases rule
    · cases rule
      unfold State.moveTalk
      dsimp only
      repeat' split
      all_goals exact law.quiet (by rfl)
  | icl station groups =>
    simp only [State.ownRule, State.takeIcl] at rule
    split at rule
    · cases rule
    · cases rule
      exact law.quiet (by rfl)
  | als =>
    simp only [State.ownRule, State.takeAls] at rule
    split at rule
    · cases rule
    · cases rule
      exact enterSounding_alarmLaw s _
  | asi =>
    simp only [State.ownRule, State.takeAsi] at rule
    split at rule
    · next sounds => cases rule; exact law.enterMuster sounds
    · cases rule
  | aen =>
    simp only [State.ownRule, State.takeAen] at rule
    split at rule
    · cases rule
    · cases rule
      exact enterQuiet_alarmLaw s
  | svr zones =>
    simp only [State.ownRule, State.takeSvr] at rule
    split at rule
    · cases rule
    · cases rule
      exact forEach_keeps (fun z _ t law => law.quiet (by rfl)) law
  | shg => exact law.takeShg rule
  | shh =>
    simp only [State.ownRule, State.takeShh] at rule
    split at rule
    · cases rule
      exact (law.hold _).subdued (.mapStreams pause_quieter)
    · cases rule
  | shr => exact law.takeShr rule
  | shs =>
    simp only [State.ownRule, State.takeShs] at rule
    split at rule
    · cases rule
    · cases rule
      exact law.clearShow
  | pin base length =>
    simp only [State.ownRule, State.takePin] at rule
    repeat' split at rule
    all_goals cases rule
    exact law.quiet (by rfl)
  | unp entry =>
    simp only [State.ownRule, State.takeUnp] at rule
    repeat' split at rule
    all_goals cases rule
    exact law.quiet (by rfl)
  | rst scope => exact law.takeRst rule
  | cnc zones stations page =>
    simp only [State.ownRule, State.takeCnc] at rule
    split at rule
    · cases rule
    · cases rule
      exact law.quiet (by rfl)

/-! ## Table writes (R35) -/

theorem AlarmLaw.writeZone {t : State} {z w : Nat} {data : Word} (written : s.writeZone z w data = some t) : AlarmLaw t := by
  have placed : ∀ (u : State) (level : Option Nat), AlarmLaw u → u.theatre = s.theatre →
      AlarmLaw (u.setShow (s.theatre.setSnapshot z level)) := fun u level law same =>
    law.setShow fun _ running => by rw [same]; exact running
  unfold State.writeZone State.writeZoneShape State.mapZone State.unmapZone State.writeProgram State.writeOverlay
    State.writePriority State.writePilot at written
  dsimp only at written
  repeat' split at written
  all_goals cases written
  · exact law.quiet (by rfl)
  · exact placed _ _ (law.quiet (by rfl)) rfl
  · exact placed _ _ (law.quiet (by rfl)) rfl
  · exact law.quiet (by rfl)
  · exact law.quiet (by rfl)
  · exact law.quiet (by rfl)
  · exact law.quiet (by rfl)
  · exact AlarmLaw.evaluateFallback (law.quiet (by rfl))
  · exact law.quiet (by rfl)

/-- The list length takes the show to IDLE or STOPPED, or leaves its state (R171). -/
theorem AlarmLaw.writeLength {t : State} {data : Word} (written : s.writeLength data = some t) : AlarmLaw t := by
  unfold State.writeLength at written
  dsimp only at written
  repeat' split at written
  all_goals cases written
  · exact law.setShow fun _ running => running
  · refine (law.setShow fun _ running => ?_).post _
    cases running
  · refine (law.setShow fun _ running => ?_).post _
    cases running
  · exact law.setShow fun _ running => running

theorem AlarmLaw.writeTable {t : State} {table : PortTable} {i : Nat} {data : Word}
    (written : s.writeTable table i data = some t) : AlarmLaw t := by
  cases table with
  | config =>
    simp only [State.writeTable, State.writeConfig] at written
    repeat' split at written
    all_goals cases written
    all_goals exact law.control _
  | zone => exact law.writeZone written
  | station =>
    simp only [State.writeTable, State.writeStation, State.writeStationShape, State.activateStation,
      State.deactivateStation] at written
    repeat' split at written
    all_goals cases written
    all_goals exact law.quiet (by rfl)
  | group =>
    simp only [State.writeTable, State.writeGroup, State.writeGroupFlags, State.undefineGroup] at written
    repeat' split at written
    all_goals cases written
    all_goals exact law.quiet (by rfl)
  | cue =>
    simp only [State.writeTable] at written
    split at written
    · exact law.writeLength written
    · unfold State.writeCue at written
      split at written
      · obtain ⟨c, -, rfl⟩ := Option.map_eq_some_iff.mp written
        exact law.setShow fun _ running => running
      · cases written
  | pattern =>
    simp only [State.writeTable, State.writePattern] at written
    repeat' split at written
    all_goals cases written
    all_goals exact law.alarmUnit (by rfl)
  | pin => cases written
  | stream => cases written
  | counter => cases written

/-! ## The control window (R22) -/

theorem AlarmLaw.take : AlarmLaw s.take := by
  have stale : AlarmLaw s.stale := law.control _
  rw [take_eq]
  refine AlarmLaw.control ?_ _
  obtain same | ⟨cmd, value, rule⟩ := judgeTake_after s.stale s.control.freshHeader
  · rw [same]; exact stale
  · exact stale.ownRule rule

theorem AlarmLaw.writePort (w : WriteWord) : AlarmLaw (s.writePort w) := by
  unfold State.writePort State.advancePort
  refine AlarmLaw.control ?_ _
  cases offered : s.offerTable w with
  | none => exact law.control _
  | some t =>
    unfold State.offerTable at offered
    split at offered
    · cases offered
    · exact law.writeTable offered

theorem AlarmLaw.writeWindow (k : Nat) (w : WriteWord) : AlarmLaw (s.writeWindow k w) := by
  unfold State.writeWindow State.writeSlot
  dsimp only
  repeat' split
  · exact law.control _
  · exact law.control _
  · exact law.writePort w
  · exact AlarmLaw.take (law.control _)
  · exact law.control _
  · exact law

/-! ## The two ports -/

theorem AlarmLaw.offerSense (z offset : Nat) (w : WriteWord) : AlarmLaw (s.offerSense z offset w) := by
  have closed : ∀ t : State, AlarmLaw t → AlarmLaw (t.closeSense z) := fun t law => by
    have stored : AlarmLaw (t.setZone z ((t.zone z).closePeriod t.control.passThreshold)) := law.quiet (by rfl)
    unfold State.closeSense
    dsimp only
    repeat' split
    · exact ((stored.countedFrom _).post _).evaluateFallback
    · exact (stored.post _).evaluateFallback
    · exact stored.countedFrom _
    · exact stored
  unfold State.offerSense
  dsimp only
  repeat' split
  · exact law
  · exact closed _ (law.quiet (by rfl))
  · exact law.quiet (by rfl)

theorem AlarmLaw.offerWord (p : Region × WriteWord) : AlarmLaw (s.offerWord p) := by
  obtain ⟨r, w⟩ := p
  cases r with
  | window k => exact law.writeWindow k w
  | sense z offset => exact law.offerSense z offset w
  | microphone n offset =>
    refine law.quiet ?_
    rw [show s.offerWord (.microphone n offset, w) = _ from (offerMic_frame s n offset w).1]
  | pageRing offset => exact law.subdued (offerPage_subdued s offset w.data)
  | anchorBlock _ => exact law
  | playout _ _ => exact law
  | earpiece _ _ => exact law
  | pinned _ => exact law
  | plain => exact law

theorem AlarmLaw.passWrite (tag addr : Nat) (words : List WriteWord) : AlarmLaw (s.passWrite tag addr words) := by
  have offered : AlarmLaw (s.offerBurst addr words) := by
    unfold State.offerBurst State.examineAnchor
    split
    · split <;> exact law.quiet (by rfl)
    · exact foldl_offerWord_keeps (fun p _ _ law => law.offerWord p) law
  unfold State.passWrite
  repeat' split
  · exact law
  · exact law.quiet (by rfl)
  · exact law.quiet (by rfl)
  · exact offered.quiet (by rfl)

theorem AlarmLaw.memoryReturns (tag : Nat) (a : MemAnswer) : AlarmLaw (s.memoryReturns tag a) := by
  have cleared : AlarmLaw (s.clearTag tag) := law.quiet (by rfl)
  have answered : ∀ (t : State) (a : HostAnswer), AlarmLaw t → AlarmLaw (t.answer a) := fun t a law => law.quiet (by rfl)
  have effects : ∀ rs, AlarmLaw ((s.clearTag tag).readEffects rs) := fun rs => by
    have reloaded : AlarmLaw ((s.clearTag tag).forEach ((List.range 64).filter (holdsPlayout rs)) State.reloadWatch) :=
      forEach_keeps (fun z _ t law => law.quiet (by rfl)) cleared
    unfold State.readEffects
    dsimp only
    split
    · exact reloaded.control _
    · exact reloaded
  unfold State.memoryReturns State.ownAnswer State.hostResponse State.hostData
  dsimp only
  repeat' split
  · exact law.quiet (by rfl)
  · exact law.subdued (ownResponse_subdued s _ _ _ _)
  · exact law
  · exact answered _ _ cleared
  · exact answered _ _ cleared
  · exact answered _ _ (effects _)
  · exact answered _ _ cleared
  · exact law

theorem AlarmLaw.arbitrate : AlarmLaw s.arbitrate := by
  rcases arbitrate_cases s with ⟨-, -, idle⟩ | ⟨f, rest, -, forwards⟩ | ⟨o, rest, -, owns⟩
  · rw [idle]; exact law
  · rw [forwards]; exact law.quiet (by rfl)
  · rw [owns]
    unfold State.issueOwn
    split
    · exact law
    · exact law.quiet (by rfl)

theorem AlarmLaw.passRead (tag addr count : Nat) : AlarmLaw (s.passRead tag addr count) := by
  unfold State.passRead
  repeat' split
  all_goals exact law.quiet (by rfl)

/-! ## Every work -/

theorem AlarmLaw.work (w : Laws.Work) : AlarmLaw (w.act s) := by
  cases w with
  | passRead tag addr count => exact law.passRead tag addr count
  | passWrite tag addr words => exact law.passWrite tag addr words
  | arbitrate => exact law.arbitrate
  | memoryReturns tag answer => exact law.memoryReturns tag answer
  | fullReset cause => exact alarmLaw_reset.quiet (by rfl)
  | releaseReset => exact law.quiet (by rfl)
  | clockEdge gap order => exact law.clockEdge gap order
  | referenceStep order => exact law.referenceStep order
  | expireGap order => exact law.expireGap order
  | changePanel a b => exact law.changePanel a b
  | showPulse => exact law.showPulse

end acts

end Sys2Proof.Machine
end

section
/-! PROOFS. What the alarm forbids, at every step. -/

namespace Sys2Proof.Machine

/-- Settles O57: every work keeps the law. In QUIET it asks of the fallback lines only, which only the alarm unit moves; outside
QUIET no show runs, and only the starts of R85 bring a stream to life; the entry into SOUNDING makes the law hold. -/
theorem alarmLawHoldsAtEveryStep : Obligations.AlarmLawHoldsAtEveryStep := fun _ _ law stepped =>
  Laws.step_keeps (fun _ _ law => law.quiet (by rfl)) (fun _ law => law.quiet (by rfl)) (fun _ law => law.control _)
    (fun w _ law => law.work w) law stepped

end Sys2Proof.Machine
end

section
/-! SUPPORT. The show's levels and records after the loops that end its streams: the stop, HALT and END (R104, R173, R182, R183). -/

namespace Sys2Proof.Machine

/-! ## A loop that ends streams, one stream at a time -/

theorem EndedBy.stream {cause : EndCause} {p : Nat → Prop} [DecidablePred p] {s t : State}
    (h : EndedBy cause (fun n => n < 8 ∧ p n) s t) {n : Nat} (hn : n < 8) :
    t.stream n = if p n then (s.stream n).ended cause else s.stream n := by
  split
  · next ends => exact h.ended n hn ⟨hn, ends⟩
  · next kept => exact h.kept n hn fun ends => kept ends.2

/-- What the ending of streams posts, it adds to what was posted (R92). -/
theorem EndedBy.posted {cause : EndCause} {ends : Nat → Prop} {s t : State} (h : EndedBy cause ends s t) {k : Nat} (hk : k < 9)
    (other : k ≠ 4) : t.control.pendingNotices.get k = s.control.pendingNotices.get k := by
  rw [Bool.eq_iff_iff, h.notices k hk]
  exact or_iff_left fun x => other x.1

/-- A HALT ends the live stream that its cue started (R104, R182). -/
theorem endCueStream_endedBy (s : State) (cue : Nat) : EndedBy .stopped
    (fun n => n < 8 ∧ (s.stream n).live = true ∧ (s.stream n).owner = .showCue cue) s (s.endCueStream cue) := by
  refine forEach_endedBy (fun _ _ h => h.1) (fun n _ h u same => if_pos (same ▸ h.2)) fun n _ h u same => ?_
  split
  · next owned =>
    exact endStream_of_not_live .stopped (by rw [same] at owned ⊢; simpa using fun live => h ⟨live, owned⟩)
  · rfl

/-! ## Levels (R173, R183) -/

theorem theatre_iff (e : ZoneEntry) : e.theatre = true ↔ e.mapped = true ∧ e.kind = .theatreZone := by
  simp [ZoneEntry.theatre]

/-- Every zone after the house levels. -/
theorem get_houseLevels (zones : Bank 64 ZoneEntry) {z : Nat} (hz : z < 64) : (zones.map ZoneEntry.houseLevel).get z
    = if (zones.get z).mapped = true ∧ (zones.get z).kind = .theatreZone then { zones.get z with
        level := (zones.get z).programGain, levelTarget := (zones.get z).programGain, ramp := none }
      else zones.get z := by
  rw [Bank.get_map _ zones z hz]
  unfold ZoneEntry.houseLevel
  simp only [theatre_iff]

/-! ## The stop and END -/

theorem clearShow_posted (s : State) : s.clearShow.control.pendingNotices.get 5 = true
    ↔ s.control.pendingNotices.get 5 = true ∨ s.theatre.state = .running ∨ s.theatre.state = .held := by
  have shows : (5 : Nat) < 9 := by decide
  rw [clearShow_eq, showCleared_notices _ shows, (endShowStreams_endedBy s).posted shows (by decide), (endShowStreams_same s).theatre]
  exact or_congr_right (and_iff_right rfl)

theorem showCleared_same (s : State) : s.showCleared.stations = s.stations ∧ s.showCleared.groups = s.groups
    ∧ s.showCleared.alarm = s.alarm ∧ s.showCleared.clock = s.clock ∧ s.showCleared.transit = s.transit
    ∧ s.showCleared.control.errors = s.control.errors := by
  refine ⟨rfl, rfl, rfl, rfl, rfl, ?_⟩
  unfold State.showCleared
  dsimp only
  split <;> rfl

theorem endShow_eq (s : State) : s.endShow = { s.endShowStreams with
    zones := s.zones.map ZoneEntry.houseLevel, theatre := { s.theatre with follow := 0, state := .stopped },
    control := s.endShowStreams.control.post .showNotice } := by
  have same := endShowStreams_same s
  unfold State.endShow
  generalize s.endShowStreams = u at same ⊢
  rw [← same.zones, ← same.theatre]
  rfl

end Sys2Proof.Machine
end

section
/-! PROOFS. The show's stop, HALT and END. -/

namespace Sys2Proof.Machine

/-- Settles O39: the streams by the loop that ends them, the levels zone by zone, the record by what follows the loop. -/
theorem stopHaltAndEnd : Obligations.StopHaltAndEnd := by
  refine ⟨fun s => ?_, fun s cue => ?_⟩
  · have ended := endShowStreams_endedBy s
    have same := endShowStreams_same s
    refine ⟨clearShow_theatre s, fun stops => (clearShow_posted s).mpr (.inr stops), fun rests => ?_, fun n hn => ?_, fun z hz => ?_, ?_⟩
    · rw [Bool.eq_iff_iff, clearShow_posted]
      refine or_iff_left fun stops => ?_
      obtain state | state := rests <;> (rw [state] at stops; simp at stops)
    · unfold State.stream
      rw [clearShow_streams]
      exact ended.stream hn
    · unfold State.zone
      rw [clearShow_zones]
      exact get_houseLevels s.zones hz
    · obtain ⟨stations, groups, alarm, clock, transit, errors⟩ := showCleared_same s.endShowStreams
      rw [← clearShow_eq] at stations groups alarm clock transit errors
      exact ⟨stations.trans same.stations, groups.trans same.groups, alarm.trans same.alarm, clock.trans same.clock,
        (congrArg TransitUnit.ownTags transit).trans same.ownTags, errors.trans same.errors⟩
  · have halts := endCueStream_same s cue
    have ends := endShowStreams_same s
    have streams := fun n hn => (endShowStreams_endedBy s).stream (n := n) hn
    refine ⟨fun n hn => (endCueStream_endedBy s cue).stream hn, halts.zones, halts.theatre, halts.alarm, halts.clock, ?_⟩
    dsimp only
    rw [endShow_eq]
    generalize s.endShowStreams = u at ends streams ⊢
    exact ⟨streams, fun z hz => get_houseLevels s.zones hz, rfl,
      post_posts _ .showNotice, ends.alarm, ends.clock⟩

end Sys2Proof.Machine
end

section
/-! SUPPORT. The entry into SOUNDING, block by block (R102, R131, R151, R187). -/

namespace Sys2Proof.Machine

/-- A record whose operands fit comes to its own rule where its engine is free (R26, R27). -/
theorem taken_of_fits {s : State} {h : CommandHead} {c : Command} (heard : s.hears h.host = true) (fits : c.fits = true)
    (idle : (s.atTake h c).control.busyFor c = false) : Taken s h c :=
  ⟨heard, payload_short c, payloadLength_of_fits fits, parse_atTake fits, idle⟩

/-! ## The show at the entry (R187) -/

theorem alarmHold_of_running {s : State} (running : s.theatre.state = .running) : s.alarmHold = s.hold .alarm := by
  unfold State.alarmHold
  rw [running]

theorem alarmHold_of_commanded {s : State} (held : s.theatre.state = .held) (commanded : s.theatre.holdCause = some .command) :
    s.alarmHold = (s.setShow { s.theatre with holdCause := some .alarm }).post .showNotice := by
  unfold State.alarmHold
  rw [held, commanded]

theorem alarmHold_of_rest {s : State} (still : s.theatre.state ≠ .running)
    (other : ¬ (s.theatre.state = .held ∧ s.theatre.holdCause = some .command)) : s.alarmHold = s := by
  unfold State.alarmHold
  split
  · next running => exact absurd running still
  · next held commanded => exact absurd ⟨held, commanded⟩ other
  · rfl
  · rfl
  · rfl

/-- A hold changes the zones, the show record and the notices, and no more does the show's answer to the alarm. -/
theorem alarmHold_frame (s : State) : s.alarmHold = { s with
    zones := s.alarmHold.zones, theatre := s.alarmHold.theatre, control := s.alarmHold.control } := by
  unfold State.alarmHold
  split <;> rfl

theorem alarmHold_posted {s : State} {k : Nat} (hk : k < 9) (posted : s.control.pendingNotices.get k = true) :
    s.alarmHold.control.pendingNotices.get k = true := by
  unfold State.alarmHold
  split
  · exact post_posted s.control .showNotice hk posted
  · exact post_posted s.control .showNotice hk posted
  · exact posted
  · exact posted
  · exact posted

/-- A zone at the hold (R186, R187). -/
theorem get_holdRamp (zones : Bank 64 ZoneEntry) {z : Nat} (hz : z < 64) : (zones.map ZoneEntry.holdRamp).get z
    = if (zones.get z).mapped = true ∧ (zones.get z).kind = .theatreZone then (zones.get z).startRamp 0 24 else zones.get z := by
  rw [Bank.get_map _ zones z hz]
  unfold ZoneEntry.holdRamp
  simp only [theatre_iff]

/-! ## What the show finds at the entry -/

/-- The state the show's answer finds: the alarm raised, every live stream ended (R102, R131). -/
structure Raised (s : State) (source : AlarmSource) (t : State) : Prop where
  alarm : t.alarm = (s.alarmRaised source).alarm
  notice : t.control.pendingNotices.get 0 = true
  stream : ∀ n < 8, t.stream n = if (s.stream n).live = true then (s.stream n).ended .alarm else s.stream n
  theatre : t.theatre = s.theatre
  zones : t.zones = s.zones
  stations : t.stations = s.stations
  groups : t.groups = s.groups
  clock : t.clock = s.clock
  lines : t.lines = s.lines

theorem endAll_raised (s : State) (source : AlarmSource) : Raised s source ((s.alarmRaised source).endAll .alarm) := by
  have raised := alarmRaised_eq s source
  have same := endAll_same .alarm (s.alarmRaised source)
  have ended := endAll_endedBy .alarm (s.alarmRaised source)
  have streams : (s.alarmRaised source).streams = s.streams := by rw [raised]
  have stream : ∀ n, (s.alarmRaised source).stream n = s.stream n := fun n => congrArg (Bank.get · n) streams
  refine ⟨same.alarm, (ended.notices 0 (by decide)).mpr (.inl ?_), fun n hn => ?_, ?_, ?_, ?_, ?_, ?_, ?_⟩
  · rw [raised]; exact post_posts s .alarm
  · rw [ended.stream hn, stream]
  · rw [same.theatre, raised]
  · rw [same.zones, raised]
  · rw [same.stations, raised]
  · rw [same.groups, raised]
  · rw [same.clock, raised]
  · rw [same.lines, raised]

/-- A line after the entry's evaluation (R151). -/
theorem alarmRaised_fallback (s : State) (source : AlarmSource) {g : Nat} (hg : g < 8) :
    (s.alarmRaised source).alarm.fallback.get g = true ↔ s.alarm.fallback.get g = true
      ∨ ∃ z < 64, (s.zone z).mapped = true ∧ ((s.zone z).silent = true ∨ (s.zone z).verdict = .failing)
        ∧ (s.zone z).fallbackGroup = some g := by
  rw [alarmRaised_eq, ← groupUnheard_iff]
  dsimp only
  rw [Bank.get_ofFn _ g hg, Bool.or_eq_true]

end Sys2Proof.Machine
end

section
/-! PROOFS. ALS, ASI and AEN, and the entry into SOUNDING. -/

namespace Sys2Proof.Machine

/-- The three commands, by the alarm state (R132 to R134). -/
theorem alarmCommands (s : State) (h : CommandHead) (heard : s.hears h.host = true) :
    (s.alarm.state = .sounding → exec (.als h) s = s.commandRefused h .als .state)
    ∧ (s.alarm.state ≠ .sounding → exec (.als h) s
      = State.commandAccepted ((s.atTake h .als).enterSounding .command) h .als (s.clock.tickCount % 65536))
    ∧ (s.alarm.state ≠ .sounding → exec (.asi h) s = s.commandRefused h .asi .state)
    ∧ (s.alarm.state = .sounding → exec (.asi h) s = State.commandAccepted
        { s.atTake h .asi with alarm := { s.alarm with state := .muster } } h .asi 0)
    ∧ (s.alarm.state = .quiet → exec (.aen h) s = s.commandRefused h .aen .state)
    ∧ (s.alarm.state ≠ .quiet → exec (.aen h) s = State.commandAccepted (State.post { s.atTake h .aen with
        alarm := { s.alarm with state := .quiet, fallback := Bank.fill 8 false } } .alarm) h .aen 0) := by
  have als : Taken s h .als := taken_of_fits heard rfl rfl
  have asi : Taken s h .asi := taken_of_fits heard rfl rfl
  have aen : Taken s h .aen := taken_of_fits heard rfl rfl
  exact ⟨fun sounds => als.refused (if_pos sounds), fun silent => als.accepted (if_neg silent),
    fun silent => asi.refused (if_neg silent), fun sounds => asi.accepted (if_pos sounds),
    fun quiet => aen.refused (if_pos quiet), fun alarmed => aen.accepted (if_neg alarmed)⟩

/-- Settles O33: the commands by the alarm state; the entry by what its show's answer finds (`Raised`) and by the show's state. -/
theorem alarmCommandsAndEntry : Obligations.AlarmCommandsAndEntry := by
  refine ⟨alarmCommands, fun s source => ?_⟩
  have raised := endAll_raised s source
  have lines := fun g (hg : g < 8) => alarmRaised_fallback s source hg
  have alarm := congrArg State.alarm (alarmRaised_eq s source)
  dsimp only
  rw [enterSounding_eq]
  generalize (s.alarmRaised source).endAll .alarm = u at raised ⊢
  have unit : u.alarmHold.alarm = (s.alarmRaised source).alarm := (alarmHold_alarm u).trans raised.alarm
  have frame := alarmHold_frame u
  refine ⟨?_, ?_, ?_, ?_, ?_, ?_, ?_, ?_, ?_, ?_, ?_, ?_, fun g hg => by rw [unit]; exact lines g hg,
    alarmHold_posted (by decide) raised.notice, fun n hn => ?_, fun running => ?_, fun held commanded => ?_, fun still other => ?_, ?_⟩
  case refine_13 => rw [State.stream, alarmHold_streams]; exact raised.stream n hn
  case refine_14 =>
    rw [alarmHold_of_running (by rw [raised.theatre]; exact running)]
    unfold State.hold State.holdSnapshot
    rw [raised.theatre, raised.zones]
    exact ⟨rfl, post_posts _ .showNotice, fun z hz => get_holdRamp s.zones hz⟩
  case refine_15 =>
    rw [alarmHold_of_commanded (by rw [raised.theatre]; exact held) (by rw [raised.theatre]; exact commanded), raised.theatre]
    exact ⟨rfl, post_posts _ .showNotice, raised.zones⟩
  case refine_16 =>
    rw [alarmHold_of_rest (by rw [raised.theatre]; exact still) (by rw [raised.theatre]; exact other)]
    exact ⟨raised.theatre, raised.zones⟩
  case refine_17 =>
    rw [frame]
    exact ⟨raised.stations, raised.groups, raised.clock, raised.lines⟩
  all_goals rw [unit, alarm]

end Sys2Proof.Machine
end

section
/-! SUPPORT. The binding rule and the start of a stream (R19, R84, R86 to R88, R95). -/

namespace Sys2Proof.Machine

/-! ## The zones a start takes (R86) -/

theorem takes_iff (s : State) (p z : Nat) : s.takes p z = true ↔ (s.zone z).mapped = true ∧ (s.zone z).minPriority ≤ p
    ∧ ((s.zone z).bound = none ∨ ∃ n, (s.zone z).bound = some n
      ∧ ((s.stream n).state = .ending ∨ (s.stream n).priority < p)) := by
  unfold State.takes
  dsimp only
  generalize (s.zone z).bound = bound
  cases bound <;> simp [and_assoc]

theorem zonesTaken_pairwise (s : State) (p : Nat) (zs : ZoneSet) : (s.zonesTaken p zs).Pairwise (· < ·) :=
  (List.pairwise_lt_range.filter _).filter _

theorem mem_zonesTaken (s : State) (p : Nat) (zs : ZoneSet) (z : Nat) :
    z ∈ s.zonesTaken p zs ↔ z < 64 ∧ zoneIn zs z = true ∧ s.takes p z = true := by
  simp only [State.zonesTaken, zonesOf, List.mem_filter, List.mem_range, and_assoc]

/-! ## The zones move (R84) -/

/-- Two loops whose turns agree wherever the second one comes. -/
theorem forEach_congr {P : State → Prop} {f g : Nat → State → State} {ns : List Nat} (agree : ∀ n t, P t → f n t = g n t)
    (keeps : ∀ n t, P t → P (g n t)) {s : State} (hs : P s) : s.forEach ns f = s.forEach ns g := by
  induction ns generalizing s with
  | nil => rfl
  | cons n ns ih => rw [forEach_cons, forEach_cons, agree n s hs, ih (keeps n s hs)]

/-- The zones of a list moved to a stream, before the others are examined. -/
def State.rebound (s : State) (n : Nat) (zs : List Nat) : State := s.forEach zs (State.bindZone n)

theorem rebound_frame (s : State) (n : Nat) (zs : List Nat) : s.rebound n zs = { s with zones := (s.rebound n zs).zones } :=
  forEach_keeps (P := fun t => t = { s with zones := t.zones }) (fun z _ t ht => by rw [ht]; rfl) rfl

theorem rebound_stream (s : State) (n : Nat) (zs : List Nat) (m : Nat) : (s.rebound n zs).stream m = s.stream m := by
  rw [rebound_frame]; rfl

theorem rebound_waits (s : State) (n : Nat) (zs : List Nat) (m : Nat) : (s.rebound n zs).waits m = s.waits m := by
  rw [rebound_frame]; rfl

theorem rebound_zone (s : State) (n : Nat) (zs : List Nat) {z : Nat} (hz : z < 64) :
    (s.rebound n zs).zone z = if z ∈ zs then { s.zone z with bound := some n } else s.zone z := by
  unfold State.rebound
  induction zs generalizing s with
  | nil => rfl
  | cons y zs ih =>
    rw [forEach_cons, ih, State.bindZone, zone_setZone _ _ _ _ hz]
    by_cases same : y = z
    · subst same; simp
    · simp [same, Ne.symm same]

/-- The zones left to another stream. -/
theorem zoneSetOf_rebound (s : State) {n m : Nat} (other : m ≠ n) (zs : List Nat) :
    (s.rebound n zs).zoneSetOf m = [] ↔ ∀ z < 64, (s.zone z).bound = some m → z ∈ zs := by
  rw [zoneSetOf_eq_nil]
  refine forall₂_congr fun z hz => ?_
  rw [rebound_zone s n zs hz]
  by_cases moved : z ∈ zs
  · simp [moved, other.symm]
  · simp [moved]

/-! ## The streams left without zones (R86) -/

/-- A live stream whose every zone is taken. -/
def State.bereft (s : State) (zs : List Nat) (m : Nat) : Prop :=
  (s.stream m).live = true ∧ ∀ z < 64, (s.zone z).bound = some m → z ∈ zs

/-- The loop examines every stream for the zones it had as the loop began: endings leave the zones alone. -/
theorem bindZones_eq (s : State) (n : Nat) (zs : List Nat) : s.bindZones n zs
    = (s.rebound n zs).forEach (List.range 8) fun m u =>
        if m ≠ n ∧ (s.rebound n zs).zoneSetOf m = [] then u.endStream .preempted m else u := by
  refine forEach_congr (P := fun t => t.zones = (s.rebound n zs).zones) (fun m t same => ?_) (fun m t same => ?_) rfl
  · have zoneSet : t.zoneSetOf m = (s.rebound n zs).zoneSetOf m := by
      unfold State.zoneSetOf State.boundTo State.zone
      rw [same]
    rw [← zoneSet]; rfl
  · split
    · exact (endStream_same .preempted m t).zones.trans same
    · exact same

theorem bindZones_endedBy (s : State) (n : Nat) (zs : List Nat) :
    EndedBy .preempted (fun m => m < 8 ∧ m ≠ n ∧ s.bereft zs m) (s.rebound n zs) (s.bindZones n zs) := by
  rw [bindZones_eq]
  refine forEach_endedBy (fun m _ h => (rebound_stream s n zs m).symm ▸ h.2.1)
    (fun m _ h u _ => if_pos ⟨h.1, (zoneSetOf_rebound s h.1 zs).mpr h.2.2⟩) fun m _ h u same => ?_
  split
  · next empty =>
    refine endStream_of_not_live _ ?_
    rw [same, rebound_stream, ← Bool.not_eq_true]
    exact fun live => h ⟨empty.1, live, (zoneSetOf_rebound s empty.1 zs).mp empty.2⟩
  · rfl

theorem bindZones_zone (s : State) (n : Nat) (zs : List Nat) {z : Nat} (hz : z < 64) :
    (s.bindZones n zs).zone z = if z ∈ zs then { s.zone z with bound := some n } else s.zone z := by
  rw [(bindZones_endedBy s n zs).frame, ← rebound_zone s n zs hz]; rfl

/-- The stream that takes the zones is not examined. -/
theorem bindZones_stream_self (s : State) {n : Nat} (hn : n < 8) (zs : List Nat) : (s.bindZones n zs).stream n = s.stream n :=
  ((bindZones_endedBy s n zs).kept n hn fun h => h.2.1 rfl).trans (rebound_stream s n zs n)

theorem bindZones_waits_self (s : State) (n : Nat) (zs : List Nat) : (s.bindZones n zs).waits n = s.waits n :=
  ((bindZones_endedBy s n zs).waiting n fun h => h.2.1 rfl).trans (rebound_waits s n zs n)

theorem bindZones_bereft (s : State) {n m : Nat} (hm : m < 8) (other : m ≠ n) {zs : List Nat} (bereft : s.bereft zs m) :
    (s.bindZones n zs).stream m = (s.stream m).ended .preempted ∧ (s.bindZones n zs).waits m = [] :=
  ⟨((bindZones_endedBy s n zs).ended m hm ⟨hm, other, bereft⟩).trans (by rw [rebound_stream]),
    (bindZones_endedBy s n zs).withdrawn m ⟨hm, other, bereft⟩⟩

theorem bindZones_spared (s : State) {n m : Nat} (hm : m < 8) {zs : List Nat} (spared : ¬ s.bereft zs m) :
    (s.bindZones n zs).stream m = s.stream m ∧ (s.bindZones n zs).waits m = s.waits m :=
  ⟨((bindZones_endedBy s n zs).kept m hm fun h => spared h.2.2).trans (rebound_stream s n zs m),
    ((bindZones_endedBy s n zs).waiting m fun h => spared h.2.2).trans (rebound_waits s n zs m)⟩

theorem bindZones_queue (s : State) (n : Nat) (zs : List Nat) :
    (s.bindZones n zs).transit.ownQueue.Sublist s.transit.ownQueue := by
  have queue := (bindZones_endedBy s n zs).queue
  rwa [rebound_frame s n zs] at queue

/-! ## The first fetch of a clip (R19, R88) -/

theorem insertOwn_between {a b : List OwnRequest} {r : OwnRequest} (before : ∀ x ∈ a, x.stream ≤ r.stream)
    (behind : ∀ x ∈ b.head?, ¬ x.stream ≤ r.stream) : insertOwn (a ++ b) r = a ++ r :: b := by
  induction a with
  | nil =>
    cases b with
    | nil => rfl
    | cons y b => exact if_neg (behind y rfl)
  | cons x a ih =>
    exact (if_pos (before x List.mem_cons_self)).trans
      (congrArg (List.cons x) (ih fun y hy => before y (List.mem_cons_of_mem x hy)))

/-- Requests of one stream go in side by side, each behind the one before it, in whatever order the queue is. -/
theorem foldl_insertOwn_between {n : Nat} {rs : List OwnRequest} (own : ∀ r ∈ rs, r.stream = n) {a b : List OwnRequest}
    (before : ∀ x ∈ a, x.stream ≤ n) (behind : ∀ x ∈ b.head?, ¬ x.stream ≤ n) :
    rs.foldl insertOwn (a ++ b) = a ++ rs ++ b := by
  induction rs generalizing a with
  | nil => simp
  | cons r rs ih =>
    obtain rfl := own r List.mem_cons_self
    rw [List.foldl_cons, insertOwn_between before behind, List.append_cons,
      ih (fun x hx => own x (List.mem_cons_of_mem r hx)) fun x hx => ?_]
    · simp
    · rcases List.mem_append.mp hx with old | new
      · exact before x old
      · exact (List.mem_singleton.mp new) ▸ Nat.le_refl _

/-- Where the requests of stream `n` go in. -/
theorem exists_split_ownQueue (q : List OwnRequest) (n : Nat) :
    ∃ a b, q = a ++ b ∧ (∀ x ∈ a, x.stream ≤ n) ∧ ∀ x ∈ b.head?, ¬ x.stream ≤ n := by
  induction q with
  | nil => exact ⟨[], [], rfl, by simp, by simp⟩
  | cons y q ih =>
    obtain ⟨a, b, rfl, before, behind⟩ := ih
    by_cases within : y.stream ≤ n
    · exact ⟨y :: a, b, rfl, List.forall_mem_cons.mpr ⟨within, before⟩, behind⟩
    · exact ⟨[], y :: (a ++ b), rfl, by simp, by simpa using within⟩

/-- A stream of which no READ waits has its own READs alone waiting after a fetch. -/
theorem fetch_waits_first {s : State} {n : Nat} (may : (s.stream n).mayFetch = true) (none : s.waits n = []) :
    (s.fetch n).waits n = ownReads n (s.stream n) := by
  obtain ⟨a, b, parts, before, behind⟩ := exists_split_ownQueue s.transit.ownQueue n
  have queued : (s.fetch n).transit.ownQueue = a ++ ownReads n (s.stream n) ++ b := by
    rw [fetch_of_mayFetch may]
    exact (congrArg (List.foldl insertOwn · (ownReads n (s.stream n))) parts).trans (foldl_insertOwn_between (fun x hx => ownReads_stream hx) before behind)
  have own : (ownReads n (s.stream n)).filter (fun x => x.stream == n) = ownReads n (s.stream n) :=
    List.filter_eq_self.mpr fun x hx => beq_iff_eq.mpr (ownReads_stream hx)
  rw [State.waits, parts, List.filter_append, List.append_eq_nil_iff] at none
  rw [State.waits, queued, List.filter_append, List.filter_append, none.1, none.2, own, List.append_nil, List.nil_append]

/-! ## The start (R87) -/

/-- The state of a start past its binding: the record set up, the zones moved. -/
def State.seated (s : State) (n : Nat) (owner : StreamOwner) (priority : Nat) (source : StartSource) (zs : List Nat) : State :=
  (s.setStream n ((s.stream n).setUp owner priority source)).bindZones n zs

theorem startStream_clip (s : State) (n : Nat) (owner : StreamOwner) (priority b p k : Nat) (zs : List Nat) :
    s.startStream n owner priority (.clip b p k) zs = (s.seated n owner priority (.clip b p k) zs).fetch n := rfl

theorem startStream_live (s : State) (n : Nat) (owner : StreamOwner) (priority : Nat) (zs : List Nat) :
    s.startStream n owner priority .live zs = { s.seated n owner priority .live zs with
      page := (s.seated n owner priority .live zs).page.opened } := rfl

theorem startStream_group (s : State) (n : Nat) (owner : StreamOwner) (priority g : Nat) (zs : List Nat) :
    s.startStream n owner priority (.group g) zs = s.seated n owner priority (.group g) zs := rfl

/-- A start goes on from its binding with its own record and READs, the page window and the free choices alone. -/
theorem startStream_frame (s : State) (n : Nat) (owner : StreamOwner) (priority : Nat) (source : StartSource) (zs : List Nat) :
    s.startStream n owner priority source zs = { s.seated n owner priority source zs with
      streams := (s.startStream n owner priority source zs).streams,
      transit := { (s.seated n owner priority source zs).transit with
        ownQueue := (s.startStream n owner priority source zs).transit.ownQueue },
      page := (s.startStream n owner priority source zs).page,
      freeDraws := (s.startStream n owner priority source zs).freeDraws } := by
  cases source with
  | clip b p k => rw [startStream_clip, fetch_frame]
  | live => rw [startStream_live]
  | group g => rw [startStream_group]

theorem startStream_stream_other (s : State) {n m : Nat} (hm : m < 8) (other : m ≠ n) (owner : StreamOwner) (priority : Nat)
    (source : StartSource) (zs : List Nat) :
    (s.startStream n owner priority source zs).stream m = (s.seated n owner priority source zs).stream m := by
  cases source with
  | clip b p k => exact fetch_stream_other hm other
  | live => rfl
  | group g => rfl

theorem startStream_waits_other (s : State) {n m : Nat} (other : m ≠ n) (owner : StreamOwner) (priority : Nat)
    (source : StartSource) (zs : List Nat) :
    (s.startStream n owner priority source zs).waits m = (s.seated n owner priority source zs).waits m := by
  cases source with
  | clip b p k => exact fetch_waits_other _ other
  | live => rfl
  | group g => rfl

theorem startStream_ordered {s : State} (n : Nat) (owner : StreamOwner) (priority : Nat) (source : StartSource) (zs : List Nat)
    (ordered : s.transit.ownQueue.Pairwise fun a b => a.stream ≤ b.stream) :
    (s.startStream n owner priority source zs).transit.ownQueue.Pairwise fun a b => a.stream ≤ b.stream := by
  have seated : (s.seated n owner priority source zs).transit.ownQueue.Pairwise fun a b => a.stream ≤ b.stream :=
    ordered.sublist (bindZones_queue _ n zs)
  cases source with
  | clip b p k =>
    rw [startStream_clip]
    by_cases may : ((s.seated n owner priority (.clip b p k) zs).stream n).mayFetch = true
    · rw [fetch_of_mayFetch may]
      exact queueOwn_ordered _ seated
    · rwa [fetch_of_not_mayFetch may]
  | live => exact seated
  | group g => exact seated

section
variable (s : State) {n : Nat} (owner : StreamOwner) (priority : Nat) (source : StartSource) (zs : List Nat)

theorem seated_zone {z : Nat} (hz : z < 64) : (s.seated n owner priority source zs).zone z
    = if z ∈ zs then { s.zone z with bound := some n } else s.zone z := bindZones_zone _ n zs hz

theorem seated_stream_self (hn : n < 8) :
    (s.seated n owner priority source zs).stream n = (s.stream n).setUp owner priority source :=
  (bindZones_stream_self _ hn zs).trans (stream_setStream_self s n _ hn)

theorem seated_waits_self : (s.seated n owner priority source zs).waits n = s.waits n := bindZones_waits_self _ n zs

theorem bereft_setStream {m : Nat} (hm : m < 8) (other : m ≠ n) (r : StreamRecord) :
    (s.setStream n r).bereft zs m ↔ s.bereft zs m := by
  unfold State.bereft
  rw [stream_setStream s n m r hm, if_neg other.symm]
  rfl

theorem seated_bereft {m : Nat} (hm : m < 8) (other : m ≠ n) (bereft : s.bereft zs m) :
    (s.seated n owner priority source zs).stream m = (s.stream m).ended .preempted
      ∧ (s.seated n owner priority source zs).waits m = [] := by
  have := bindZones_bereft _ hm other ((bereft_setStream s zs hm other ((s.stream n).setUp owner priority source)).mpr bereft)
  rwa [stream_setStream s n m _ hm, if_neg other.symm] at this

theorem seated_spared {m : Nat} (hm : m < 8) (other : m ≠ n) (spared : ¬ s.bereft zs m) :
    (s.seated n owner priority source zs).stream m = s.stream m
      ∧ (s.seated n owner priority source zs).waits m = s.waits m := by
  have := bindZones_spared (n := n) _ hm
    (mt (bereft_setStream s zs hm other ((s.stream n).setUp owner priority source)).mp spared)
  rwa [stream_setStream s n m _ hm, if_neg other.symm] at this

end

/-- The preempting of streams leaves the other blocks, the tags and the errors. -/
theorem bindZones_same (s : State) (n : Nat) (zs : List Nat) : SameButStreams (s.rebound n zs) (s.bindZones n zs) := by
  rw [bindZones_eq]
  exact endMany_same .preempted (fun m _ => m ≠ n ∧ (s.rebound n zs).zoneSetOf m = []) (s.rebound n zs)

theorem startStream_same (s : State) (n : Nat) (owner : StreamOwner) (priority : Nat) (source : StartSource) (zs : List Nat) :
    let t := s.startStream n owner priority source zs
    t.alarm = s.alarm ∧ t.stations = s.stations ∧ t.groups = s.groups ∧ t.theatre = s.theatre ∧ t.clock = s.clock
      ∧ t.transit.ownTags = s.transit.ownTags ∧ t.transit.tags = s.transit.tags ∧ t.control.errors = s.control.errors := by
  have same := bindZones_same (s.setStream n ((s.stream n).setUp owner priority source)) n zs
  rw [rebound_frame] at same
  dsimp only
  rw [startStream_frame]
  exact ⟨same.alarm, same.stations, same.groups, same.theatre, same.clock, same.ownTags, same.tags, same.errors⟩

/-! ## The record that starts -/

theorem mayFetch_setUp_clip (old : StreamRecord) (owner : StreamOwner) (priority b k : Nat) {p : Nat} (some : 1 ≤ p) :
    (old.setUp owner priority (.clip b p k)).mayFetch = true :=
  (mayFetch_iff _).mpr ⟨rfl, rfl, Nat.zero_lt_succ 3, nofun, some⟩

theorem ownReads_setUp_clip (n : Nat) (old : StreamRecord) (owner : StreamOwner) (priority b p k : Nat) :
    ownReads n (old.setUp owner priority (.clip b p k))
      = [{ stream := n, pass := 0, period := 0, part := 0, addr := b },
         { stream := n, pass := 0, period := 0, part := 1, addr := b + 16 },
         { stream := n, pass := 0, period := 0, part := 2, addr := b + 32 }] := rfl

theorem fetched_setUp_clip (old : StreamRecord) (owner : StreamOwner) (priority b p k buffer : Nat) :
    (old.setUp owner priority (.clip b p k)).fetched buffer = { StreamRecord.reset with
      state := .starting, owner := owner, priority := priority, buffers := old.buffers, source := .clip, clipBase := b,
      clipPeriods := p, periodsLeft := p * (k + 1), queue := [Slot.fetching 0 0 buffer],
      nextFetch := if p = 1 ∧ 0 < k then 0 else 1, repeatsLeft := if p = 1 ∧ 0 < k then k - 1 else k,
      passUnderFetch := if p = 1 ∧ 0 < k then 1 else 0 } := by
  have first : (p = 1 ∧ 0 < k) = (0 + 1 = p ∧ 0 < k) := propext (and_congr_left' eq_comm)
  simp only [first]
  rfl

/-- A CLIP starts with its first period under fetch. -/
theorem startStream_clip_self (s : State) {n : Nat} (hn : n < 8) (owner : StreamOwner) (priority b k : Nat) {p : Nat}
    (some : 1 ≤ p) (zs : List Nat) (none : s.waits n = []) :
    (∃ buffer < 4, (s.startStream n owner priority (.clip b p k) zs).stream n
      = ((s.stream n).setUp owner priority (.clip b p k)).fetched buffer)
    ∧ (s.startStream n owner priority (.clip b p k) zs).waits n
      = ownReads n ((s.stream n).setUp owner priority (.clip b p k)) := by
  have record := seated_stream_self s owner priority (.clip b p k) zs hn
  have may := record.symm ▸ mayFetch_setUp_clip (s.stream n) owner priority b k some
  obtain ⟨buffer, inRange, -, fetched⟩ := fetch_stream hn may
  exact ⟨⟨buffer, inRange, fetched.trans (by rw [record])⟩,
    (fetch_waits_first may ((seated_waits_self s owner priority _ zs).trans none)).trans (by rw [record])⟩

end Sys2Proof.Machine
end

section
/-! PROOFS. Binding and the start. -/

namespace Sys2Proof.Machine

/-- Settles O30: the binding is one loop that moves zones and one that ends the bereft streams; the start then fetches, or opens the
page window. -/
theorem bindingAndStart : Obligations.BindingAndStart := by
  refine ⟨fun s p zs => ⟨zonesTaken_pairwise s p zs, fun z => by rw [mem_zonesTaken, takes_iff]⟩,
    fun s n priority owner source zs hn _ _ _ rests => ?_⟩
  have none : s.waits n = [] := List.filter_eq_nil_iff.mpr fun r hr => by simpa using rests r hr
  refine ⟨fun z hz => ?_, fun m hm other => ⟨fun bereft => ?_, fun spared => ?_⟩, startStream_ordered n owner priority source zs,
    fun b p k clip some => ?_, fun live => ?_, fun g group => ?_, startStream_same s n owner priority source zs⟩
  · rw [startStream_frame]
    exact seated_zone s owner priority source zs hz
  · obtain ⟨stream, waits⟩ := seated_bereft s owner priority source zs hm other bereft
    exact ⟨(startStream_stream_other s hm other ..).trans stream, (startStream_waits_other s other ..).trans waits⟩
  · obtain ⟨stream, waits⟩ := seated_spared s owner priority source zs hm other spared
    exact ⟨(startStream_stream_other s hm other ..).trans stream, (startStream_waits_other s other ..).trans waits⟩
  · subst clip
    obtain ⟨⟨buffer, inRange, record⟩, waits⟩ := startStream_clip_self s hn owner priority b k some zs none
    exact ⟨⟨buffer, inRange, record.trans (fetched_setUp_clip ..)⟩, waits.trans (ownReads_setUp_clip ..)⟩
  · subst live
    exact ⟨seated_stream_self s owner priority .live zs hn, rfl, rfl⟩
  · subst group
    exact seated_stream_self s owner priority (.group g) zs hn

end Sys2Proof.Machine
end

section
/-! SUPPORT. What ANS_CLIP, ANS_LIVE and ANS_GROUP are judged by (R85 to R87). -/

namespace Sys2Proof.Machine

/-! ## The arguments, the pins and the records (R85) -/

theorem ansArgumentsOk_eq_false (s : State) (priority : Nat) (zones : ZoneSet) (source : StartSource) :
    (ansCommand priority zones source).fits = true → (s.ansArgumentsOk priority source = false
      ↔ priority = 0 ∨ 7 < priority ∨ match source with
        | .clip base periods repeats => periods = 0 ∨ 15 < repeats ∨ 268435455 < base + periods * 48 - 1
        | .live => False
        | .group g => 15 < g ∨ (s.group g).defined = false) := by
  intro fits
  unfold State.ansArgumentsOk startPriorityOk
  cases source with
  | clip base periods repeats =>
    have inRange : periods ≤ 65535 := by simp [ansCommand, Command.fits] at fits; omega
    have last : decide (clipLast base periods ≤ topAddress) = false ↔ 268435455 < base + periods * 48 - 1 :=
      decide_eq_false_iff_not.trans Nat.not_le
    simp only [Bool.and_eq_false_iff, last, decide_eq_false_iff_not]
    omega
  | live =>
    simp only [Bool.and_eq_false_iff, decide_eq_false_iff_not, Nat.not_le, Nat.lt_one_iff, or_assoc, Bool.true_eq_false]
  | group g => simp only [Bool.and_eq_false_iff, decide_eq_false_iff_not, Nat.not_le, Nat.lt_one_iff, or_assoc]

theorem inside_iff (p q : Span) : p.inside q = true ↔ q.base ≤ p.base ∧ p.base + p.length ≤ q.base + q.length := by
  simp [Span.inside]

theorem clipPinned_eq_false (s : State) (base periods : Nat) : s.clipPinned base periods = false
    ↔ ∀ e < 8, (s.transit.pins.get e).inUse = true → base < (s.transit.pins.get e).base
      ∨ (s.transit.pins.get e).base + (s.transit.pins.get e).length < base + periods * 48 := by
  rw [← Bool.not_eq_true, State.clipPinned, any_cells]
  simp only [Bool.and_eq_true, inside_iff, not_exists, not_and]
  refine forall₂_congr fun e _ => imp_congr_right fun _ => ?_
  simp only [PinEntry.span]
  omega

theorem ansNotPinned_iff (s : State) (priority : Nat) (source : StartSource) : s.ansNotPinned priority source = true
    ↔ priority = 7 ∧ match source with
      | .clip base periods _ => ∀ e < 8, (s.transit.pins.get e).inUse = true → base < (s.transit.pins.get e).base
          ∨ (s.transit.pins.get e).base + (s.transit.pins.get e).length < base + periods * 48
      | .live => False
      | .group _ => False := by
  unfold State.ansNotPinned
  cases source with
  | clip base periods repeats => simp [← clipPinned_eq_false]
  | live => simp
  | group g => simp

theorem liveTaken_iff (s : State) :
    s.liveTaken = true ↔ ∃ n < 8, (s.stream n).source = .live ∧ (s.stream n).state ≠ .free := by
  rw [State.liveTaken, any_cells]
  simp [State.stream]

theorem freeRecord_eq_some {s : State} {n : Nat} (hn : n < 8) (free : (s.stream n).state = .free)
    (first : ∀ m < n, (s.stream m).state ≠ .free) : s.freeRecord = some n :=
  List.find?_range_eq_some.mpr ⟨by simp [free], List.mem_range.mpr hn, fun m hm => by simpa using first m hm⟩

theorem freeRecord_eq_none {s : State} (full : ∀ n < 8, (s.stream n).state ≠ .free) : s.freeRecord = none :=
  List.find?_range_eq_none.mpr fun n hn => by simpa using full n hn

theorem exists_freeRecord {s : State} (room : ¬ ∀ n < 8, (s.stream n).state ≠ .free) : ∃ n, s.freeRecord = some n := by
  cases found : s.freeRecord with
  | some n => exact ⟨n, rfl⟩
  | none => exact absurd (fun n hn => by simpa using List.find?_range_eq_none.mp found n hn) room

/-! ## The judgement, check by check (R85) -/

section
variable {s : State} {priority : Nat} {source : StartSource} {zs : ZoneSet}

theorem ansJudge_of_argument (bad : s.ansArgumentsOk priority source = false) :
    s.ansJudge priority source zs = .error .argument := if_pos (by simp [bad])

/-- Past its arguments. -/
theorem ansJudge_of_ok (ok : ¬ s.ansArgumentsOk priority source = false) : s.ansJudge priority source zs
    = if s.alarm.state = .sounding ∨ (s.alarm.state = .muster ∧ priority ≠ 7) then .error .alarm
      else if s.ansNotPinned priority source then .error .notPinned
      else if source = .live ∧ s.liveTaken then .error .state
      else match s.freeRecord with
        | none => .error .noStream
        | some n => if s.zonesTaken priority zs = [] then .error .argument else .ok (n, s.zonesTaken priority zs) := by
  exact (if_neg (by simpa using ok)).trans rfl

end

/-! ## The row -/

theorem exec_ansRow (s : State) (h : CommandHead) (priority : Nat) (zones : ZoneSet) (source : StartSource) :
    exec (ansRow h priority zones source) s = .next (s.run fun s => s.writeRecord h (ansCommand priority zones source)) := by
  cases source <;> rfl

theorem ownRule_ans (s : State) (priority : Nat) (zones : ZoneSet) (source : StartSource) :
    s.ownRule (ansCommand priority zones source) = s.takeAns priority source zones := by
  cases source <;> rfl

theorem busyFor_ans (c : ControlUnit) (priority : Nat) (zones : ZoneSet) (source : StartSource) :
    c.busyFor (ansCommand priority zones source) = c.busyStream := by
  cases source <;> rfl

/-- The record comes to its own rule, which judges the state as the take found it: a take changes neither the streams, the zones, the
pins nor the alarm. -/
theorem ans_judged {s : State} {h : CommandHead} {priority : Nat} {zones : ZoneSet} {source : StartSource}
    (heard : s.hears h.host = true) (fits : (ansCommand priority zones source).fits = true)
    (idle : s.control.busyStream = false) :
    (∀ reason, s.ansJudge priority source zones = .error reason → exec (ansRow h priority zones source) s
      = s.commandRefused h (ansCommand priority zones source) reason)
    ∧ (∀ n taken, s.ansJudge priority source zones = .ok (n, taken) → exec (ansRow h priority zones source) s
      = State.commandAccepted ((s.atTake h (ansCommand priority zones source)).startStream n .announce priority source taken) h
        (ansCommand priority zones source) (n + 256 * taken.length)) := by
  have taken := taken_of_fits heard fits ((busyFor_ans _ priority zones source).trans idle)
  have rule := ownRule_ans (s.atTake h (ansCommand priority zones source)) priority zones source
  have found : (s.atTake h (ansCommand priority zones source)).ansJudge priority source zones
    = s.ansJudge priority source zones := rfl
  rw [State.takeAns, found] at rule
  rw [exec_ansRow]
  refine ⟨fun reason judged => taken.refused ?_, fun n zs judged => taken.accepted ?_⟩
  · rw [rule, judged]
  · rw [rule, judged]

end Sys2Proof.Machine
end

section
/-! PROOFS. ANS_CLIP, ANS_LIVE and ANS_GROUP. -/

namespace Sys2Proof.Machine

/-- Settles O29: the checks of R85 one after the other, each refusing or handing on to the next. -/
theorem ansRefusedInOrderOrStarted : Obligations.AnsRefusedInOrderOrStarted := by
  intro s h priority zones source heard fits idle
  obtain ⟨refused, started⟩ := ans_judged heard fits idle
  have bad := ansArgumentsOk_eq_false s priority zones source fits
  have unpinned := ansNotPinned_iff s priority source
  refine ⟨fun ill => refused _ (ansJudge_of_argument (bad.mpr ill)), fun fine => ?_⟩
  rw [ansJudge_of_ok (mt bad.mp fine)] at refused started
  refine ⟨fun alarmed => refused _ (if_pos alarmed), fun calm loose => ?_, fun calm pinned page => ?_,
    fun calm pinned nopage full => ?_, fun calm pinned nopage room empty => ?_, fun calm pinned nopage zoned n hn free first => ?_⟩
  all_goals rw [if_neg calm] at refused started
  · exact refused _ (if_pos (unpinned.mpr loose))
  all_goals rw [if_neg (mt unpinned.mp pinned)] at refused started
  · exact refused _ (if_pos (page.imp_right (liveTaken_iff s).mpr))
  all_goals rw [if_neg (mt (And.imp_right (liveTaken_iff s).mp) nopage)] at refused started
  · rw [freeRecord_eq_none full] at refused
    exact refused _ rfl
  · obtain ⟨n, found⟩ := exists_freeRecord room
    rw [found] at refused
    exact refused _ (if_pos empty)
  · rw [freeRecord_eq_some hn free first] at started
    exact started n _ (if_neg zoned)

end Sys2Proof.Machine
end

section
/-! SUPPORT. A page ring word, by the page window and the capture state (R37, R95 to R98, R107). -/

namespace Sys2Proof.Machine

/-! ## Counting (R37, R107) -/

theorem countedFrom_page (s : State) (before : Nat) : (s.countedFrom before).page = s.page := by
  unfold State.countedFrom
  split <;> rfl

theorem countedFrom_posts (s : State) (before : Nat) : (s.countedFrom before).control.pendingNotices.get 7 = true
    ↔ s.control.pendingNotices.get 7 = true ∨ before = 127 := by
  unfold State.countedFrom
  split
  · next passes => exact iff_of_true (post_posts s .counter) (.inr passes)
  · next other => exact (or_iff_left other).symm

theorem dropPeriod_page (n : Nat) (s : State) :
    (s.dropPeriod n).page = { s.page with dropped := bump s.page.dropped } := countedFrom_page _ _

theorem dropPeriod_posts (n : Nat) (s : State) : (s.dropPeriod n).control.pendingNotices.get 7 = true
    ↔ s.control.pendingNotices.get 7 = true ∨ s.page.dropped = 127 := countedFrom_posts _ _

theorem dropPeriod_stream_other {n m : Nat} (hm : m < 8) (other : m ≠ n) (s : State) :
    (s.dropPeriod n).stream m = s.stream m := by
  have streams : (s.dropPeriod n).streams = (s.setStream n { s.stream n with droppedCount := bump (s.stream n).droppedCount }).streams :=
    (countedFrom_same _ _).streams
  rw [State.stream, streams]
  exact (stream_setStream s n m _ hm).trans (if_neg other.symm)

/-! ## A new period (R96) -/

theorem newPagePeriod_of_full {s : State} {n : Nat} (full : 4 ≤ (s.stream n).queue.length) (p : Nat) (word : Word) :
    s.newPagePeriod n p word = s.dropPeriod n := if_neg (Nat.not_lt.mpr full)

/-- The record with period `p` begun in buffer `b`. -/
def StreamRecord.capturing (r : StreamRecord) (p b : Nat) (word : Word) : StreamRecord :=
  { r with queue := r.queue ++ [Slot.capturing p b], buffers := r.buffers.set b ((r.buffers.get b).set 0 word) }

/-- A period that finds room takes a buffer that no slot of the queue holds, and its first sample goes in. -/
theorem newPagePeriod_of_room {s : State} {n : Nat} (room : (s.stream n).queue.length < 4) (p : Nat) (word : Word) :
    ∃ b < 4, (∀ y ∈ (s.stream n).queue, y.buffer ≠ b) ∧ s.newPagePeriod n p word
      = { s.setStream n ((s.stream n).capturing p b word) with
        page := { s.page with capture := some p }, freeDraws := s.freeDraws + 1 } := by
  obtain ⟨inRange, own⟩ := chooseBuffer_free (s.stream n) s.freeDraws (freeBuffers_ne_nil _ room)
  exact ⟨_, inRange, own, if_pos room⟩

theorem newPagePeriod_stream_other {n m : Nat} (hm : m < 8) (other : m ≠ n) (s : State) (p : Nat) (word : Word) :
    (s.newPagePeriod n p word).stream m = s.stream m := by
  by_cases room : (s.stream n).queue.length < 4
  · obtain ⟨b, -, -, period⟩ := newPagePeriod_of_room room p word
    rw [period]
    exact (stream_setStream s n m _ hm).trans (if_neg other.symm)
  · rw [newPagePeriod_of_full (Nat.not_lt.mp room)]
    exact dropPeriod_stream_other hm other s

/-- The record `t` holds period `p` behind the slots `q`, its first sample `word` in a buffer that none of them holds; the rest of that
buffer, and the other buffers, as they were. -/
def StreamRecord.Holds (t : StreamRecord) (p : Nat) (word : Word) (q : List Slot) (buffers : Bank 4 (Bank 48 Word)) : Prop :=
  ∃ x : Slot, t.queue = q ++ [x] ∧ x.ready = false ∧ x.ringPeriod = p ∧ x.buffer < 4 ∧ (∀ y ∈ q, y.buffer ≠ x.buffer)
    ∧ (t.buffers.get x.buffer).get 0 = word
    ∧ (∀ j, 1 ≤ j → j < 48 → (t.buffers.get x.buffer).get j = (buffers.get x.buffer).get j)
    ∧ ∀ b < 4, b ≠ x.buffer → t.buffers.get b = buffers.get b

theorem capturing_holds (r : StreamRecord) (p : Nat) {b : Nat} (word : Word) (inRange : b < 4) (own : ∀ y ∈ r.queue, y.buffer ≠ b) :
    (r.capturing p b word).Holds p word r.queue r.buffers := by
  have written : (r.capturing p b word).buffers.get b = (r.buffers.get b).set 0 word := Bank.get_set_self _ _ _ inRange
  refine ⟨Slot.capturing p b, rfl, rfl, rfl, inRange, own, ?_, fun j first last => ?_, fun c hc other => ?_⟩
  · exact (congrArg (Bank.get · 0) written).trans (Bank.get_set_self _ _ _ (by decide))
  · exact (congrArg (Bank.get · j) written).trans (Bank.get_set_ne _ _ _ _ last (Nat.ne_of_lt first))
  · exact Bank.get_set_ne _ _ _ _ hc other.symm

theorem newPagePeriod_captures {s : State} {n : Nat} (hn : n < 8) (room : (s.stream n).queue.length < 4) (p : Nat) (word : Word) :
    let t := s.newPagePeriod n p word
    t.page = { s.page with capture := some p } ∧ t.control = s.control ∧ (t.stream n).droppedCount = (s.stream n).droppedCount
      ∧ (t.stream n).Holds p word (s.stream n).queue (s.stream n).buffers := by
  obtain ⟨b, inRange, own, period⟩ := newPagePeriod_of_room room p word
  have record : (s.newPagePeriod n p word).stream n = (s.stream n).capturing p b word := by
    rw [period]
    exact stream_setStream_self s n _ hn
  dsimp only
  rw [record, period]
  exact ⟨rfl, rfl, rfl, capturing_holds _ p word inRange own⟩

theorem newPagePeriod_drops {s : State} {n : Nat} (hn : n < 8) (full : 4 ≤ (s.stream n).queue.length) (p : Nat) (word : Word) :
    let t := s.newPagePeriod n p word
    t.page = { s.page with dropped := bump s.page.dropped }
      ∧ t.stream n = { s.stream n with droppedCount := bump (s.stream n).droppedCount }
      ∧ (t.control.pendingNotices.get 7 = true ↔ s.control.pendingNotices.get 7 = true ∨ s.page.dropped = 127) := by
  dsimp only
  rw [newPagePeriod_of_full full]
  exact ⟨dropPeriod_page n s, dropPeriod_stream hn, dropPeriod_posts n s⟩

theorem PageOnly.zones {s t : State} (h : PageOnly s t) : t.zones = s.zones := by
  unfold PageOnly at h
  rw [h]

/-! ## A period that another one cuts off (R96) -/

/-- The unfinished period dropped, and nothing in capture. -/
def State.uncaptured (s : State) (n : Nat) : State :=
  let t := (s.setStream n { s.stream n with queue := dropFilling (s.stream n).queue }).dropPeriod n
  { t with page := { t.page with capture := none } }

theorem uncaptured_page (s : State) (n : Nat) :
    (s.uncaptured n).page = { s.page with dropped := bump s.page.dropped, capture := none } :=
  congrArg (fun c : PageRingRecord => { c with capture := none }) (dropPeriod_page n _)

theorem uncaptured_posts (s : State) (n : Nat) : (s.uncaptured n).control.pendingNotices.get 7 = true
    ↔ s.control.pendingNotices.get 7 = true ∨ s.page.dropped = 127 :=
  dropPeriod_posts n (s.setStream n { s.stream n with queue := dropFilling (s.stream n).queue })

theorem uncaptured_stream {s : State} {n : Nat} (hn : n < 8) : (s.uncaptured n).stream n = { s.stream n with
    queue := dropFilling (s.stream n).queue, droppedCount := bump (s.stream n).droppedCount } :=
  (dropPeriod_stream hn).trans (by rw [stream_setStream_self _ _ _ hn])

theorem uncaptured_stream_other {n m : Nat} (hm : m < 8) (other : m ≠ n) (s : State) :
    (s.uncaptured n).stream m = s.stream m :=
  (dropPeriod_stream_other hm other _).trans ((stream_setStream s n m _ hm).trans (if_neg other.symm))

theorem uncaptured_zones (s : State) (n : Nat) : (s.uncaptured n).zones = s.zones := by
  have dropped := dropPeriod_frame n (s.setStream n { s.stream n with queue := dropFilling (s.stream n).queue })
  exact dropped.zones

theorem dropFilling_length_lt {q : List Slot} (filling : ∃ x ∈ q, x.ready = false) : (dropFilling q).length < q.length := by
  obtain ⟨x, hx, unready⟩ := filling
  exact List.length_filter_lt_length_iff_exists.mpr ⟨x, hx, by simp [unready]⟩

/-! ## The samples of the period in capture (R97) -/

theorem fill_written (r : StreamRecord) (i : Nat) (word : Word) : r.fill i word = { r with
    buffers := (r.queue.filter fun x => !x.ready).foldl (fun b x => b.set x.buffer ((b.get x.buffer).set i word)) r.buffers } := by
  rw [fill_eq]
  refine congrArg (fun b : Bank 4 (Bank 48 Word) => { r with buffers := b }) ?_
  exact (List.foldl_hom StreamRecord.buffers fun _ _ => rfl).symm

/-! ## A word while the window is closed (R98) -/

theorem pageStray_known {s : State} {p i : Nat} (later : i ≠ 0) (known : s.page.stray = some p) : s.pageStray p i = s :=
  if_neg (not_or.mpr ⟨later, not_not.mpr known⟩)

theorem pageStray_counts {s : State} {p i : Nat} (stray : i = 0 ∨ s.page.stray ≠ some p) (below : s.page.strayCount ≠ 127) :
    s.pageStray p i = { s with page := { s.page with stray := some p, strayCount := bump s.page.strayCount } } :=
  (if_pos stray).trans (if_neg below)

theorem pageStray_passes {s : State} {p i : Nat} (stray : i = 0 ∨ s.page.stray ≠ some p) (passes : s.page.strayCount = 127) :
    s.pageStray p i = State.post { s with page := { s.page with stray := some p, strayCount := 128 } } .counter := by
  refine ((if_pos stray).trans (if_pos passes)).trans ?_
  rw [passes]
  rfl

/-! ## The word, by the window and the capture state -/

section
variable {s : State} {n : Nat} {offset : Nat} {word : Word}

theorem offerPage_closed (closed : ∀ n < 8, ¬ s.pageOpen n) :
    s.offerPage offset word = s.pageStray (offset / 48) (offset % 48) := by
  unfold State.offerPage
  rw [openPage_eq_none closed]

variable (hn : n < 8) (opened : s.pageOpen n) (first : ∀ m < n, ¬ s.pageOpen m)
include hn opened first

theorem offerPage_start (start : offset % 48 = 0) : s.offerPage offset word = s.pageStart n (offset / 48) word := by
  unfold State.offerPage
  rw [openPage_eq_some hn opened first]
  exact if_pos start

theorem offerPage_later (later : offset % 48 ≠ 0) :
    s.offerPage offset word = s.pageSample n (offset / 48) (offset % 48) word := by
  unfold State.offerPage
  rw [openPage_eq_some hn opened first]
  exact if_neg later

/-- A later word of a period that is not in capture is not taken. -/
theorem offerPage_untaken (later : offset % 48 ≠ 0) (other : s.page.capture ≠ some (offset / 48)) :
    s.offerPage offset word = s :=
  (offerPage_later hn opened first later).trans (if_neg other)

/-- A word of the period in capture, but for its last, is its sample. -/
theorem offerPage_sample (unfinished : offset % 48 ≠ 47) (captured : s.page.capture = some (offset / 48)) :
    s.offerPage offset word = s.setStream n ((s.stream n).fill (offset % 48) word) := by
  by_cases start : offset % 48 = 0
  · rw [offerPage_start hn opened first start, start]
    exact if_pos captured
  · exact (offerPage_later hn opened first start).trans ((if_pos captured).trans (if_neg unfinished))

/-- Its last word makes its slot READY. -/
theorem offerPage_last (last : offset % 48 = 47) (captured : s.page.capture = some (offset / 48)) :
    s.offerPage offset word = { s.setStream n { (s.stream n).fill (offset % 48) word with
        queue := readyAll ((s.stream n).fill (offset % 48) word).queue } with
      page := { s.page with capture := none } } :=
  (offerPage_later hn opened first (by omega)).trans ((if_pos captured).trans (if_pos last))

theorem offerPage_begins (start : offset % 48 = 0) (free : s.page.capture = none) :
    s.offerPage offset word = s.newPagePeriod n (offset / 48) word :=
  (offerPage_start hn opened first start).trans ((if_neg (by rw [free]; exact nofun)).trans (if_pos free))

theorem offerPage_cuts {q : Nat} (start : offset % 48 = 0) (captured : s.page.capture = some q) (other : q ≠ offset / 48) :
    s.offerPage offset word = (s.uncaptured n).newPagePeriod n (offset / 48) word :=
  (offerPage_start hn opened first start).trans ((if_neg (by rw [captured]; exact fun same => other (Option.some.inj same))).trans
    (if_neg (by rw [captured]; exact nofun)))

end

/-! ## The row -/

theorem exec_pageWord {s : State} {tag addr offset : Nat} {w : WriteWord} (accepts : s.accepts tag = true)
    (region : s.classify addr = .pageRing offset) :
    exec (.writeRequest tag addr [w]) s = .next ((s.begun.offerPage offset w.data).afterWord tag addr w) := by
  have regions : s.begun.burstRegions addr 1 = [.pageRing offset] := congrArg (fun r => [r]) region
  have short : examined s.begun.transit.anchor addr [w] = false := by simp [examined]
  have unpinned : (s.begun.burstRegions addr [w].length).any Region.isPinned = false := by
    rw [List.length_singleton, regions]; rfl
  have offered : s.begun.offerBurst addr [w] = s.begun.offerPage offset w.data := by
    unfold State.offerBurst
    rw [short, List.length_singleton, regions]
    rfl
  refine (congrArg (fun t : State => Host.Outcome.next t.latch) (passWrite_queued (s := s.begun) tag addr [w] accepts unpinned)).trans ?_
  rw [offered]
  rfl

end Sys2Proof.Machine
end

section
/-! PROOFS. A page ring word. -/

namespace Sys2Proof.Machine

/-- Settles O51: the word by the window and the capture state; what a new period comes to by the room in the queue, which a cut one
always leaves. -/
theorem pageWordCapturedDroppedOrStray : Obligations.PageWordCapturedDroppedOrStray := by
  intro s tag addr offset w accepts region
  have row := exec_pageWord (w := w) accepts region
  refine ⟨fun closed => ?_, fun n hn opened first => ?_⟩
  · rw [offerPage_closed (s := s.begun) closed] at row
    refine ⟨fun later known => ?_, fun stray below => ?_, fun stray passes => ?_⟩
    · rw [pageStray_known (s := s.begun) later known] at row
      exact row
    · rw [pageStray_counts (s := s.begun) stray below] at row
      exact row
    · rw [pageStray_passes (s := s.begun) stray passes] at row
      exact row
  have fill : (s.begun.stream n).fill (offset % 48) w.data = _ := fill_written (s.stream n) (offset % 48) w.data
  refine ⟨fun later other => ?_, fun unfinished captured => ?_, fun last captured => ?_, fun start free => ?_,
    fun q start captured other short filling => ?_⟩
  · rw [offerPage_untaken (s := s.begun) hn opened first later other] at row
    exact row
  · rw [offerPage_sample (s := s.begun) hn opened first unfinished captured, fill] at row
    exact row
  · rw [offerPage_last (s := s.begun) hn opened first last captured, fill] at row
    exact row
  · rw [offerPage_begins (s := s.begun) hn opened first start free] at row
    refine ⟨_, row, ⟨fun room => ?_, fun full => ?_⟩, fun m hm other => newPagePeriod_stream_other hm other s.begun _ _, ?_⟩
    · obtain ⟨page, -, -, held⟩ := newPagePeriod_captures (s := s.begun) hn room (offset / 48) w.data
      exact ⟨congrArg PageRingRecord.capture page, (congrArg PageRingRecord.dropped page).trans rfl, held⟩
    · obtain ⟨page, record, posts⟩ := newPagePeriod_drops (s := s.begun) hn full (offset / 48) w.data
      exact ⟨(congrArg PageRingRecord.capture page).trans free, (congrArg PageRingRecord.dropped page).trans rfl,
        (congrArg StreamRecord.queue record).trans rfl, congrArg StreamRecord.droppedCount record, posts⟩
    · exact (newPagePeriod_frame s.begun n _ _).zones
  · rw [offerPage_cuts (s := s.begun) hn opened first start captured other] at row
    have record := uncaptured_stream (s := s.begun) hn
    have shorter := Nat.lt_of_lt_of_le (dropFilling_length_lt filling) short
    have room : ((s.begun.uncaptured n).stream n).queue.length < 4 := by rw [record]; exact shorter
    obtain ⟨page, control, count, held⟩ := newPagePeriod_captures hn room (offset / 48) w.data
    rw [record] at held count
    rw [uncaptured_page] at page
    refine ⟨_, row, ⟨fun _ => ⟨congrArg PageRingRecord.capture page, (congrArg PageRingRecord.dropped page).trans rfl, held⟩,
      fun full => absurd shorter (Nat.not_lt.mpr full)⟩, count, fun passes => ?_, fun m hm other => ?_, ?_⟩
    · rw [control]
      exact (uncaptured_posts s.begun n).mpr (.inr passes)
    · exact (newPagePeriod_stream_other hm other _ _ _).trans (uncaptured_stream_other hm other s.begun)
    · exact (newPagePeriod_frame (s.begun.uncaptured n) n _ _).zones.trans (uncaptured_zones s.begun n)

end Sys2Proof.Machine
end

section
/-! SUPPORT. What any work can do to the roles of the stations and to the sums of the groups (R110 to R128). -/

namespace Sys2Proof.Machine

/-! ## What the intercom's laws read -/

/-- Whether a station is active, its talk group and its listen set. -/
def StationRecord.role (r : StationRecord) : Bool × Option Nat × Bank 16 Bool := (r.active, r.talk, r.listen)

/-- Who talks and listens where, and which groups are defined. -/
structure SameRoles (s t : State) : Prop where
  role : ∀ n < 32, (t.station n).role = (s.station n).role
  defined : ∀ g < 16, (t.group g).defined = (s.group g).defined

/-- And the samples of the period in progress. -/
structure SameTalk (s t : State) : Prop extends SameRoles s t where
  own : ∀ n < 32, (t.station n).ownFilling = (s.station n).ownFilling
  filling : ∀ g < 16, (t.group g).filling = (s.group g).filling

theorem SameRoles.station {s t : State} (h : SameRoles s t) {n : Nat} (hn : n < 32) : (t.station n).active = (s.station n).active
    ∧ (t.station n).talk = (s.station n).talk ∧ (t.station n).listen = (s.station n).listen := by
  obtain ⟨active, rest⟩ := Prod.mk.inj (h.role n hn)
  exact ⟨active, Prod.mk.inj rest⟩

theorem sameTalk_of_tables {s t : State} (stations : t.stations = s.stations) (groups : t.groups = s.groups) : SameTalk s t := by
  have station : ∀ n, t.station n = s.station n := fun n => congrArg (Bank.get · n) stations
  have group : ∀ g, t.group g = s.group g := fun g => congrArg (Bank.get · g) groups
  exact ⟨⟨fun n _ => by rw [station], fun g _ => by rw [group]⟩, fun n _ => by rw [station], fun g _ => by rw [group]⟩

/-- Stations changed in other fields. -/
theorem sameTalk_stations {s : State} {stations : Bank 32 StationRecord}
    (same : ∀ n < 32, (stations.get n).role = (s.station n).role ∧ (stations.get n).ownFilling = (s.station n).ownFilling) :
    SameTalk s { s with stations := stations } :=
  ⟨⟨fun n hn => (same n hn).1, fun _ _ => rfl⟩, fun n hn => (same n hn).2, fun _ _ => rfl⟩

theorem sameTalk_setStation {s : State} {n : Nat} {r : StationRecord} (role : r.role = (s.station n).role)
    (own : r.ownFilling = (s.station n).ownFilling) : SameTalk s (s.setStation n r) :=
  sameTalk_stations fun m hm => by
    rw [Bank.get_set _ _ _ _ hm]
    split
    · next same => rw [← same]; exact ⟨role, own⟩
    · exact ⟨rfl, rfl⟩

theorem sameTalk_setGroup {s : State} {g : Nat} {r : GroupRecord} (defined : r.defined = (s.group g).defined)
    (filling : r.filling = (s.group g).filling) : SameTalk s (s.setGroup g r) := by
  have group : ∀ k < 16, ((s.setGroup g r).group k).defined = (s.group k).defined
      ∧ ((s.setGroup g r).group k).filling = (s.group k).filling := fun k hk => by
    rw [group_setGroup s g k r hk]
    split
    · next same => rw [← same]; exact ⟨defined, filling⟩
    · exact ⟨rfl, rfl⟩
  exact ⟨⟨fun _ _ => rfl, fun k hk => (group k hk).1⟩, fun _ _ => rfl, fun k hk => (group k hk).2⟩

/-- A station the part does not have is not written (log 27). -/
theorem setStation_beyond (s : State) {n : Nat} (r : StationRecord) (h : 32 ≤ n) : s.setStation n r = s :=
  congrArg (fun b => { s with stations := b }) (bank_set_beyond _ _ h)

/-! ## The effects -/

/-- A station activated or deactivated, its own buffers cleared (R112, R113). -/
def State.seat (s : State) (n : Nat) (active : Bool) (periods : Nat) : State :=
  s.setStation n { (s.station n).clearOwn with active := active, ringPeriods := periods }

/-- A group defined or undefined, its sums cleared (R115). -/
def State.redefine (s : State) (g : Nat) (defined essential : Bool) : State :=
  s.setGroup g { (s.group g).clearSums with defined := defined, essential := essential }

/-- The listen set of a station replaced (R126). -/
def State.hearGroups (s : State) (n : Nat) (groups : Word) : State :=
  s.setStation n { s.station n with listen := Bank.ofFn 16 (flag groups) }

/-- Everything an act can do to what the intercom's laws read, with the check that lets it (R112 to R119, R125, R126, R128). -/
inductive TalkEffect : State → State → Prop
  | same {s t : State} (h : SameTalk s t) : TalkEffect s t
  | swaps (s : State) : TalkEffect s s.swapIntercom
  | speaks {s : State} {n g i : Nat} (w : Word) (hn : n < 32) (talk : (s.station n).talk = some g) :
    TalkEffect s (s.takeMic n g i w)
  | moves {s : State} {n group : Nat} (accepted : s.ictRefused n group = none) : TalkEffect s (s.moveTalk n (talkOf group))
  | listens {s : State} {n : Nat} {groups : Word} (accepted : s.iclRefused n groups = none) :
    TalkEffect s (s.hearGroups n groups)
  | clears (s : State) : TalkEffect s s.clearIntercom
  | seats {s : State} {n : Nat} (active : Bool) (periods : Nat) (hn : n < 32)
    (idle : (s.station n).active = false ∨ (s.station n).talk = none) : TalkEffect s (s.seat n active periods)
  | redefines {s : State} {g : Nat} (defined essential : Bool) (idle : (s.group g).defined = false ∨ s.talkerCount g = 0) :
    TalkEffect s (s.redefine g defined essential)
  | resets (s : State) : TalkEffect s State.reset

/-- Some effects, one after the other. -/
def Talks : State → State → Prop := Relation.ReflTransGen TalkEffect

theorem Talks.refl (s : State) : Talks s s := Relation.ReflTransGen.refl

theorem Talks.trans {s t u : State} (h : Talks s t) (k : Talks t u) : Talks s u := Relation.ReflTransGen.trans h k

theorem Talks.effect {s t u : State} (h : Talks s t) (k : TalkEffect t u) : Talks s u := Relation.ReflTransGen.tail h k

theorem Talks.same {s t u : State} (h : Talks s t) (k : SameTalk t u) : Talks s u := h.effect (.same k)

/-- An act that leaves the stations and the groups. -/
theorem Talks.quiet {s t u : State} (h : Talks s t) (stations : u.stations = t.stations := by rfl)
    (groups : u.groups = t.groups := by rfl) : Talks s u := h.same (sameTalk_of_tables stations groups)

theorem Beside.talks {s t : State} (h : Beside s t) : Talks s t := (Talks.refl s).quiet h.stations h.groups

theorem SameButStreams.talks {s t : State} (h : SameButStreams s t) : Talks s t := (Talks.refl s).quiet h.stations h.groups

/-! ## The events in time (R69 to R79, R118, R119) -/

theorem swept_talks (s : State) : Talks s s.swept := ((Talks.refl s).effect (.swaps s)).quiet

theorem creditSteps_talks (s : State) (n : Nat) (order : Interleave) : Talks s (s.creditSteps n order) := by
  have credited := creditSteps_beside s n order
  split at credited
  · exact (swept_talks s).trans credited.talks
  · exact credited.talks

theorem monitorLine_talks (s : State) (gap : Nat) : Talks s (s.monitorLine gap) := by
  obtain ⟨source, offRun, goodRun, still⟩ := monitorLine_still s gap
  exact (Talks.refl s).quiet still.stations still.groups

theorem monitorReference_talks (s : State) (gap : Nat) : Talks s (s.monitorReference gap) := by
  unfold State.monitorReference State.takeLine
  repeat' split
  all_goals exact (Talks.refl s).quiet

theorem clockEdge_talks (s : State) (gap : Nat) (order : Interleave) : Talks s (s.clockEdge gap order) := by
  unfold State.clockEdge
  repeat' split
  · exact .refl s
  · exact (creditSteps_talks s 1 order).trans (monitorLine_talks _ gap)
  · exact monitorReference_talks s gap

theorem referenceStep_talks (s : State) (order : Interleave) : Talks s (s.referenceStep order) := by
  unfold State.referenceStep
  split
  · exact .refl s
  · exact creditSteps_talks s 1 order

theorem expireGap_talks (s : State) (order : Interleave) : Talks s (s.expireGap order) := by
  unfold State.expireGap
  split
  · exact .refl s
  · exact (creditSteps_talks s 3 order).quiet

/-- A mark is the show's alone (R79). -/
theorem Talks.markEvent {s t : State} (h : Talks s t) : Talks s t.markEvent :=
  h.trans (((Talks.refl t).quiet).trans (markEvent_still t).toBeside.talks)

theorem acquireMark_talks (s : State) : Talks s s.acquireMark := by
  unfold State.acquireMark
  dsimp only
  split <;> exact (Talks.refl s).quiet

theorem showPulse_talks (s : State) : Talks s s.showPulse := by
  unfold State.showPulse State.realMark
  dsimp only
  repeat' split
  · exact .refl s
  · exact ((Talks.refl s).quiet).markEvent
  · exact ((acquireMark_talks s).quiet).markEvent
  · exact ((Talks.refl s).quiet).markEvent
  · exact ((Talks.refl s).quiet).markEvent
  · exact .refl s
  · exact ((Talks.refl s).quiet).markEvent

theorem changePanel_talks (s : State) (a b : Bool) : Talks s (s.changePanel a b) := by
  unfold State.changePanel
  split <;> exact (Talks.refl s).quiet

/-! ## The commands (R27) -/

theorem clearShow_talks (s : State) : Talks s s.clearShow := by
  obtain ⟨stations, groups, -⟩ := showCleared_same s.endShowStreams
  rw [clearShow_eq]
  exact (endShowStreams_same s).talks.quiet stations groups

theorem resumeShow_talks (s : State) : Talks s s.resumeShow := by
  have levels : ∀ snap, Talks s (s.forEach (List.range 64) (State.resumeZone snap)) := fun snap =>
    forEach_keeps (fun z _ t h => by
      unfold State.resumeZone
      repeat' split
      all_goals exact h.quiet) (.refl s)
  unfold State.resumeShow
  dsimp only
  split
  · next snap _ =>
    have resumed := levels snap
    generalize s.forEach (List.range 64) (State.resumeZone snap) = u at resumed ⊢
    exact resumed.quiet
  · exact (Talks.refl s).quiet

theorem restart_talks (s : State) {t : State} (stations : t.stations = s.stations.map StationRecord.restart)
    (groups : t.groups = s.groups.map GroupRecord.clearSums) : Talks s t :=
  ((Talks.refl s).effect (.clears s)).quiet stations groups

/-- RST, by its scope (R43). -/
theorem takeRst_talks {s t : State} {scope value : Nat} (taken : s.takeRst scope = .ok (value, t)) : Talks s t := by
  unfold State.takeRst at taken
  repeat' split at taken
  all_goals cases taken
  · obtain ⟨stations, groups, -⟩ := restartAll_engines s
    exact restart_talks s stations groups
  · obtain ⟨stations, groups, -⟩ := restartIntercom_engines s
    exact restart_talks s stations groups
  · obtain ⟨-, -, -, stations, groups, -⟩ := restartShow_engines s
    exact (Talks.refl s).quiet stations groups

/-- The show's commands consider its cues (R172, R186, R189, R173). -/
theorem takeShg_talks {s t : State} {value : Nat} (taken : s.takeShg = .ok (value, t)) : Talks s t := by
  unfold State.takeShg at taken
  repeat' split at taken
  all_goals cases taken
  · exact ((Talks.refl s).quiet).trans (Still.refl _).consider.toBeside.talks
  · exact (Still.refl s).fireCue.consider.toBeside.talks

theorem takeShr_talks {s t : State} {value : Nat} (taken : s.takeShr = .ok (value, t)) : Talks s t := by
  unfold State.takeShr at taken
  repeat' split at taken
  all_goals cases taken
  exact (resumeShow_talks s).trans (Still.refl _).consider.toBeside.talks

theorem takeCnc_talks {s t : State} {zones : ZoneSet} {stations : Word} {page value : Nat}
    (taken : s.takeCnc zones stations page = .ok (value, t)) : Talks s t := by
  unfold State.takeCnc at taken
  split at taken
  · cases taken
  · cases taken
    have torn : SameTalk s { s with stations := clearMembers s.stations (flag stations) StationRecord.clearTorn } :=
      sameTalk_stations fun n hn => by
        rw [clearMembers, Bank.get_ofFn _ n hn]
        split <;> exact ⟨rfl, rfl⟩
    exact ((Talks.refl s).same torn).quiet

/-- Everything an accepted command does to the intercom's tables. -/
theorem ownRule_talks {s t : State} {cmd : Command} {value : Nat} (rule : s.ownRule cmd = .ok (value, t)) : Talks s t := by
  have start := Talks.refl s
  have ans : ∀ {priority : Nat} {source : StartSource} {zones : ZoneSet},
      s.takeAns priority source zones = .ok (value, t) → Talks s t := fun started => by
    obtain ⟨n, -, -, -, rfl⟩ := takeAns_ok started
    obtain ⟨-, stations, groups, -⟩ := startStream_same s n .announce _ _ _
    exact start.quiet stations groups
  cases cmd with
  | ansClip priority zones base periods repeats => exact ans rule
  | ansLive priority zones => exact ans rule
  | ansGroup priority zones group => exact ans rule
  | ansNone => cases rule
  | anx index =>
    simp only [State.ownRule, State.takeAnx] at rule
    repeat' split at rule
    all_goals cases rule
    exact (endStream_same _ _ s).talks
  | pgc =>
    simp only [State.ownRule, State.takePgc] at rule
    split at rule
    · cases rule
    · cases rule; exact start.quiet
  | ict station group =>
    simp only [State.ownRule, State.takeIct] at rule
    split at rule
    · cases rule
    · next accepted => cases rule; exact start.effect (.moves accepted)
  | icl station groups =>
    simp only [State.ownRule, State.takeIcl] at rule
    split at rule
    · cases rule
    · next accepted => cases rule; exact start.effect (.listens accepted)
  | als =>
    simp only [State.ownRule, State.takeAls] at rule
    split at rule
    · cases rule
    · cases rule; exact ((Still.refl s).enterSounding _).toBeside.talks
  | asi =>
    simp only [State.ownRule, State.takeAsi] at rule
    split at rule
    · cases rule; exact start.quiet
    · cases rule
  | aen =>
    simp only [State.ownRule, State.takeAen] at rule
    split at rule
    · cases rule
    · cases rule; exact start.quiet
  | svr zones =>
    simp only [State.ownRule, State.takeSvr] at rule
    split at rule
    · cases rule
    · cases rule; exact forEach_keeps (fun z _ u h => h.quiet) start
  | shg => exact takeShg_talks rule
  | shh =>
    simp only [State.ownRule, State.takeShh] at rule
    split at rule
    · cases rule; exact start.quiet
    · cases rule
  | shr => exact takeShr_talks rule
  | shs =>
    simp only [State.ownRule, State.takeShs] at rule
    split at rule
    · cases rule
    · cases rule; exact clearShow_talks s
  | pin base length =>
    simp only [State.ownRule, State.takePin] at rule
    repeat' split at rule
    all_goals cases rule
    exact start.quiet
  | unp entry =>
    simp only [State.ownRule, State.takeUnp] at rule
    repeat' split at rule
    all_goals cases rule
    exact start.quiet
  | rst scope => exact takeRst_talks rule
  | cnc zones stations page => exact takeCnc_talks rule

/-! ## The table writes (R35) -/

theorem writeZone_talks {s t : State} {z w : Nat} {data : Word} (written : s.writeZone z w data = some t) : Talks s t := by
  have start := Talks.refl s
  unfold State.writeZone State.writeZoneShape State.mapZone State.unmapZone State.writeProgram State.writeOverlay
    State.writePriority State.writePilot at written
  dsimp only at written
  repeat' split at written
  all_goals cases written
  -- Word 5 has the fallback lines evaluated (R151).
  case h_6.isTrue => exact start.quiet.trans (Still.refl _).evaluateFallback.toBeside.talks
  all_goals exact start.quiet

/-- A station is seated only where it is not active or does not talk (R112, R113). -/
theorem writeStationShape_talks {s t : State} {n : Nat} {data : Word} (written : s.writeStationShape n data = some t) :
    Talks s t := by
  have start := Talks.refl s
  by_cases hn : n < 32
  swap
  · unfold State.writeStationShape State.activateStation State.deactivateStation at written
    dsimp only at written
    repeat' split at written
    all_goals cases written
    all_goals rw [setStation_beyond s _ (Nat.not_lt.mp hn)]; exact start
  unfold State.writeStationShape State.activateStation State.deactivateStation at written
  dsimp only at written
  repeat' split at written
  all_goals cases written
  · exact start.same (sameTalk_setStation rfl rfl)
  · next inactive _ _ => exact start.effect (.seats true (field data 8 6) hn (.inl inactive))
  · next ok => exact start.effect (.seats false (field data 8 6) hn (.inr ok.2))

theorem writeStation_talks {s t : State} {n w : Nat} {data : Word} (written : s.writeStation n w data = some t) :
    Talks s t := by
  unfold State.writeStation at written
  split at written
  · exact writeStationShape_talks written
  all_goals repeat' split at written
  all_goals cases written
  all_goals exact (Talks.refl s).same (sameTalk_setStation rfl rfl)

theorem forgetGroup_same (s : State) (g : Nat) : SameTalk s { s with stations := s.stations.map (StationRecord.forgetGroup g) } :=
  sameTalk_stations fun n hn => by
    rw [Bank.get_map _ s.stations n hn]
    unfold StationRecord.forgetGroup
    split <;> exact ⟨rfl, rfl⟩

/-- A group is defined anew, or undefined where nobody talks on it (R115). -/
theorem writeGroupFlags_talks {s t : State} {g : Nat} {data : Word} (written : s.writeGroupFlags g data = some t) :
    Talks s t := by
  have start := Talks.refl s
  unfold State.writeGroupFlags State.undefineGroup at written
  dsimp only at written
  repeat' split at written
  all_goals cases written
  · exact start.same (sameTalk_setGroup rfl rfl)
  · next undefined _ => exact start.effect (.redefines true _ (.inl undefined))
  · exact start.same (sameTalk_setGroup rfl rfl)
  · next unused => exact (start.effect (.redefines false _ (.inr unused.1))).same (forgetGroup_same _ g)

theorem writeTable_talks {s t : State} {table : PortTable} {i : Nat} {data : Word} (written : s.writeTable table i data = some t) :
    Talks s t := by
  have start := Talks.refl s
  cases table with
  | config =>
    simp only [State.writeTable, State.writeConfig] at written
    repeat' split at written
    all_goals cases written
    all_goals exact start.quiet
  | zone => exact writeZone_talks written
  | station => exact writeStation_talks written
  | group =>
    simp only [State.writeTable, State.writeGroup] at written
    split at written
    · exact writeGroupFlags_talks written
    · split at written
      · cases written; exact start.same (sameTalk_setGroup rfl rfl)
      · cases written
    · cases written
  | cue =>
    simp only [State.writeTable] at written
    split at written
    · unfold State.writeLength at written
      dsimp only at written
      repeat' split at written
      all_goals cases written
      all_goals exact start.quiet
    · unfold State.writeCue at written
      split at written
      · obtain ⟨c, -, rfl⟩ := Option.map_eq_some_iff.mp written
        exact start.quiet
      · cases written
  | pattern =>
    simp only [State.writeTable, State.writePattern] at written
    repeat' split at written
    all_goals cases written
    all_goals exact start.quiet
  | pin => cases written
  | stream => cases written
  | counter => cases written

/-! ## The control window (R22) -/

theorem take_talks (s : State) : Talks s s.take := by
  have stale : Talks s s.stale := (Talks.refl s).quiet
  have judged : Talks s (s.stale.judgeTake s.control.freshHeader).after := by
    obtain same | ⟨cmd, value, rule⟩ := judgeTake_after s.stale s.control.freshHeader
    · rw [same]; exact stale
    · exact stale.trans (ownRule_talks rule)
  rw [take_eq]
  exact judged.quiet

theorem writePort_talks (s : State) (w : WriteWord) : Talks s (s.writePort w) := by
  have offered : Talks s ((s.offerTable w).getD (s.addError .portRefused)) := by
    cases offer : s.offerTable w with
    | none => exact (Talks.refl s).quiet
    | some t =>
      unfold State.offerTable at offer
      split at offer
      · cases offer
      · exact writeTable_talks offer
  exact offered.quiet

theorem writeWindow_talks (s : State) (k : Nat) (w : WriteWord) : Talks s (s.writeWindow k w) := by
  have start := Talks.refl s
  unfold State.writeWindow State.writeSlot
  dsimp only
  repeat' split
  · exact start.quiet
  · exact start.quiet
  · exact writePort_talks s w
  · exact start.quiet.trans (take_talks _)
  · exact start.quiet
  · exact start

/-! ## The words of a burst (R5, R116, R117) -/

/-- A word of a microphone ring is a station's. -/
theorem station_lt_of_classify {s : State} {addr n offset : Nat} (region : s.classify addr = .microphone n offset) : n < 32 := by
  rw [classify_labels] at region
  cases found : (s.labels addr).findSome? (labelled addr) with
  | none => rw [found] at region; cases region
  | some r =>
    obtain ⟨l, listed, label⟩ := List.exists_of_findSome?_eq_some found
    have named : l.2 = .microphone n offset := by
      rw [found] at region
      unfold labelled at label
      split at label
      · exact (Option.some.inj label).trans region
      · cases label
    rcases mem_labels.mp listed with rfl | listed | ⟨z, -, listed⟩ | ⟨m, hm, listed⟩ | ⟨e, -, listed⟩
    · cases named
    · obtain ⟨a, -, rfl | rfl⟩ := mem_anchorLabels.mp listed <;> cases named
    · obtain ⟨-, rfl | ⟨-, rfl⟩⟩ := mem_zoneLabels.mp listed <;> cases named
    · obtain ⟨-, rfl | rfl⟩ := mem_stationLabels.mp listed <;> cases named
      exact hm
    · obtain ⟨-, rfl⟩ := mem_pinLabels.mp listed
      cases named

theorem offerMic_talks (s : State) {n : Nat} (hn : n < 32) (offset : Nat) (w : WriteWord) : Talks s (s.offerMic n offset w) := by
  have start := Talks.refl s
  unfold State.offerMic
  split
  · exact start
  · next g talk =>
    split
    · exact start
    · split
      · exact start.effect (.speaks w.data hn talk)
      · unfold State.tearMic State.countedFrom
        dsimp only
        have torn := start.same (sameTalk_setStation (n := n) (r := { s.station n with torn := bump (s.station n).torn }) rfl rfl)
        split
        · exact torn.quiet
        · exact torn

/-- A word of any region; a microphone word of a station the part has. -/
theorem offerWord_talks (s : State) (r : Region) (w : WriteWord) (seated : ∀ n offset, r = .microphone n offset → n < 32) :
    Talks s (s.offerWord (r, w)) := by
  have start := Talks.refl s
  cases r with
  | window k => exact writeWindow_talks s k w
  | microphone n offset => exact offerMic_talks s (seated n offset rfl) offset w
  | sense z offset =>
    refine start.quiet ?_ ?_
    · rw [show s.offerWord (.sense z offset, w) = _ from (offerSense_frame s z offset w).1]
    · rw [show s.offerWord (.sense z offset, w) = _ from (offerSense_frame s z offset w).1]
  | pageRing offset =>
    refine start.quiet ?_ ?_
    · rw [show s.offerWord (.pageRing offset, w) = _ from offerPage_frame s offset w.data]
    · rw [show s.offerWord (.pageRing offset, w) = _ from offerPage_frame s offset w.data]
  | anchorBlock _ => exact start
  | playout _ _ => exact start
  | earpiece _ _ => exact start
  | pinned _ => exact start
  | plain => exact start

theorem offerBurst_talks (s : State) (addr : Nat) (words : List WriteWord) : Talks s (s.offerBurst addr words) := by
  unfold State.offerBurst State.examineAnchor
  split
  · split <;> exact (Talks.refl s).quiet
  · refine foldl_offerWord_keeps (fun p hp t h => ?_) (.refl s)
    refine h.trans (offerWord_talks t p.1 p.2 fun n offset region => ?_)
    obtain ⟨j, -, classified⟩ := List.mem_map.mp (List.of_mem_zip hp).1
    exact station_lt_of_classify (classified.trans region)

/-! ## The two ports -/

theorem passWrite_talks (s : State) (tag addr : Nat) (words : List WriteWord) : Talks s (s.passWrite tag addr words) := by
  unfold State.passWrite
  repeat' split
  · exact .refl s
  · exact (Talks.refl s).quiet
  · exact (Talks.refl s).quiet
  · exact (offerBurst_talks s addr words).quiet

theorem passRead_talks (s : State) (tag addr count : Nat) : Talks s (s.passRead tag addr count) := by
  unfold State.passRead
  repeat' split
  all_goals exact (Talks.refl s).quiet

theorem ownResponse_talks (s : State) (k : Nat) (r : OwnRequest) (status : MemStatus) (words : List Word) :
    Talks s (s.ownResponse k r status words) := by
  have freed : Talks s { s with transit := { s.transit with ownTags := s.transit.ownTags.set k none } } := (Talks.refl s).quiet
  unfold State.ownResponse State.ownData
  dsimp only
  repeat' split
  · exact freed.trans (endStream_same _ _ _).talks
  · exact freed.trans (((Still.refl _).setStream _ _).fetch _).toBeside.talks
  · exact (freed.trans ((Still.refl _).freeIfDrained _).toBeside.talks).quiet

theorem hostResponse_talks (s : State) (tag : Nat) (e : TagEntry) (a : MemAnswer) : Talks s (s.hostResponse tag e a) := by
  have effects : ∀ rs, Talks s ((s.clearTag tag).readEffects rs) := fun rs => by
    rw [readEffects_frame]
    exact (Talks.refl s).quiet
  unfold State.hostResponse State.hostData
  dsimp only
  repeat' split
  · exact (Talks.refl s).quiet
  · exact (Talks.refl s).quiet
  · exact (effects _).quiet
  · exact (Talks.refl s).quiet

theorem memoryReturns_talks (s : State) (tag : Nat) (a : MemAnswer) : Talks s (s.memoryReturns tag a) := by
  unfold State.memoryReturns State.ownAnswer
  repeat' split
  · exact (Talks.refl s).quiet
  · exact ownResponse_talks s _ _ _ _
  · exact .refl s
  · exact hostResponse_talks s tag _ a
  · exact .refl s

theorem arbitrate_talks (s : State) : Talks s s.arbitrate := by
  obtain ⟨-, -, idle⟩ | ⟨f, rest, -, forwards⟩ | ⟨o, rest, -, owns⟩ := arbitrate_cases s
  · rw [idle]; exact .refl s
  · rw [forwards]; exact (Talks.refl s).quiet
  · rw [owns]
    unfold State.issueOwn
    split <;> exact (Talks.refl s).quiet

/-! ## Every work and every step -/

theorem work_talks (w : Laws.Work) (s : State) : Talks s (w.act s) := by
  cases w with
  | passRead tag addr count => exact passRead_talks s tag addr count
  | passWrite tag addr words => exact passWrite_talks s tag addr words
  | arbitrate => exact arbitrate_talks s
  | memoryReturns tag answer => exact memoryReturns_talks s tag answer
  | fullReset cause => exact ((Talks.refl s).effect (.resets s)).quiet
  | releaseReset => exact (Talks.refl s).quiet
  | clockEdge gap order => exact clockEdge_talks s gap order
  | referenceStep order => exact referenceStep_talks s order
  | expireGap order => exact expireGap_talks s order
  | changePanel a b => exact changePanel_talks s a b
  | showPulse => exact showPulse_talks s

/-- A step changes what the intercom's laws read by these effects only. -/
theorem step_talks {s t : State} (stepped : step s = .next t) : Talks s t :=
  Laws.step_keeps (P := Talks s) (fun _ _ h => h.quiet) (fun _ h => h.quiet) (fun _ h => h.quiet)
    (fun w u h => h.trans (work_talks w u)) (.refl s) stepped

end Sys2Proof.Machine
end

section
/-! SUPPORT. The intercom's law (R113, R115, R124 to R126) through every effect on the roles of the stations. -/

namespace Sys2Proof.Machine

/-! ## Talkers -/

theorem talkerCount_eq (s : State) (g : Nat) :
    s.talkerCount g = ((List.range 32).filter fun n => (s.station n).talk == some g).length := count_eq_length_filter _ s.stations

theorem talkerCount_eq_zero {s : State} {g : Nat} : s.talkerCount g = 0 ↔ ∀ n < 32, (s.station n).talk ≠ some g :=
  (Bank.count_eq_zero _ _).trans (forall₂_congr fun _ _ => beq_eq_false_iff_ne)

/-- Talkers all but one of whom talked there before are at most one more. -/
theorem talkerCount_le_succ {s t : State} {g n : Nat}
    (others : ∀ m < 32, m ≠ n → (t.station m).talk = some g → (s.station m).talk = some g) :
    t.talkerCount g ≤ s.talkerCount g + 1 := by
  rw [talkerCount_eq, talkerCount_eq, ← List.length_cons (a := n)]
  refine ((List.nodup_range.filter _).subperm fun m hm => ?_).length_le
  obtain ⟨range, talks⟩ := List.mem_filter.mp hm
  by_cases same : m = n
  · exact same ▸ List.mem_cons_self
  · exact List.mem_cons_of_mem _ (List.mem_filter.mpr
      ⟨range, beq_iff_eq.mpr (others m (List.mem_range.mp range) same (beq_iff_eq.mp talks))⟩)

theorem talkerCount_le {s t : State} {g : Nat} (talked : ∀ n < 32, (t.station n).talk = some g → (s.station n).talk = some g) :
    t.talkerCount g ≤ s.talkerCount g := by
  rw [talkerCount_eq, talkerCount_eq]
  refine ((List.nodup_range.filter _).subperm fun m hm => ?_).length_le
  obtain ⟨range, talks⟩ := List.mem_filter.mp hm
  exact List.mem_filter.mpr ⟨range, beq_iff_eq.mpr (talked m (List.mem_range.mp range) (beq_iff_eq.mp talks))⟩

/-! ## Effects that let nobody talk who did not -/

/-- Every station talks as it did or not at all and listens as it did, and no group with a talker is undefined. -/
structure Hushed (s t : State) : Prop where
  talk : ∀ n < 32, (t.station n).talk = none ∨ (t.station n).role = (s.station n).role
  listen : ∀ n < 32, (t.station n).listen = (s.station n).listen
  defined : ∀ n < 32, ∀ g < 16, (t.station n).talk = some g → (s.group g).defined = true → (t.group g).defined = true

theorem Hushed.law {s t : State} (h : Hushed s t) (law : IntercomLaw s) : IntercomLaw t where
  talks n hn g talks := by
    obtain silent | role := h.talk n hn
    · rw [silent] at talks; cases talks
    · obtain ⟨active, rest⟩ := Prod.mk.inj role
      obtain ⟨talk, listen⟩ := Prod.mk.inj rest
      obtain ⟨hg, wasActive, wasDefined, listened⟩ := law.talks n hn g (talk ▸ talks)
      exact ⟨hg, active.trans wasActive, h.defined n hn g hg talks wasDefined, by rw [listen]; exact listened⟩
  talkers g hg := by
    refine Nat.le_trans (talkerCount_le fun n hn talks => ?_) (law.talkers g hg)
    obtain silent | role := h.talk n hn
    · rw [silent] at talks; cases talks
    · exact (Prod.mk.inj (Prod.mk.inj role).2).1.symm.trans talks
  listens n hn := by rw [h.listen n hn]; exact law.listens n hn

theorem SameRoles.hushed {s t : State} (h : SameRoles s t) : Hushed s t :=
  ⟨fun n hn => .inr (h.role n hn), fun _ hn => (h.station hn).2.2, fun _ _ g hg _ defined => (h.defined g hg).trans defined⟩

theorem swapStation_role (r : StationRecord) : r.swap.role = r.role := by
  unfold StationRecord.swap
  split <;> rfl

theorem station_swapIntercom (s : State) {n : Nat} (hn : n < 32) : s.swapIntercom.station n = (s.station n).swap :=
  Bank.get_map _ s.stations n hn

theorem swapIntercom_sameRoles (s : State) : SameRoles s s.swapIntercom :=
  ⟨fun n hn => by rw [station_swapIntercom s hn, swapStation_role], fun g hg => by rw [group_swapIntercom s hg, swap_defined]⟩

theorem station_takeMic (s : State) (n g i : Nat) (w : Word) {m : Nat} (hm : m < 32) : (s.takeMic n g i w).station m
    = if n = m then
        { s.station n with ownFilling := (s.station n).ownFilling.set i (sampleOf w), written := (s.station n).written.set i true }
      else s.station m := Bank.get_set _ _ _ _ hm

theorem group_takeMic (s : State) (n g i : Nat) (w : Word) {k : Nat} (hk : k < 16) : (s.takeMic n g i w).group k
    = if g = k then (s.group g).addAt i (sampleOf w - (s.station n).ownFilling.get i) else s.group k := Bank.get_set _ _ _ _ hk

theorem takeMic_sameRoles (s : State) (n g i : Nat) (w : Word) : SameRoles s (s.takeMic n g i w) where
  role m hm := by
    rw [station_takeMic s n g i w hm]
    split
    · next same => rw [← same]; rfl
    · rfl
  defined k hk := by
    rw [group_takeMic s n g i w hk]
    split
    · next same => rw [← same]; rfl
    · rfl

theorem station_clearIntercom (s : State) {n : Nat} (hn : n < 32) : s.clearIntercom.station n = (s.station n).restart :=
  Bank.get_map _ s.stations n hn

theorem group_clearIntercom (s : State) {g : Nat} (hg : g < 16) : s.clearIntercom.group g = (s.group g).clearSums :=
  Bank.get_map _ s.groups g hg

theorem clearIntercom_hushed (s : State) : Hushed s s.clearIntercom where
  talk n hn := .inl (by rw [station_clearIntercom s hn]; rfl)
  listen n hn := by rw [station_clearIntercom s hn]; rfl
  defined n hn g hg _ defined := by rw [group_clearIntercom s hg]; exact defined

theorem station_seat (s : State) (n : Nat) (active : Bool) (periods : Nat) {m : Nat} (hm : m < 32) :
    (s.seat n active periods).station m = if n = m then { (s.station n).clearOwn with active := active, ringPeriods := periods }
      else s.station m := station_setStation _ _ _ _ hm

/-- A station that is not active does not talk (R113). -/
theorem IntercomLaw.silent {s : State} (law : IntercomLaw s) {n : Nat} (hn : n < 32)
    (idle : (s.station n).active = false ∨ (s.station n).talk = none) : (s.station n).talk = none := by
  obtain rests | silent := idle
  · refine Option.eq_none_iff_forall_ne_some.mpr fun g talks => ?_
    obtain ⟨-, active, -⟩ := law.talks n hn g talks
    exact Bool.false_ne_true (rests.symm.trans active)
  · exact silent

theorem seat_hushed {s : State} {n : Nat} (active : Bool) (periods : Nat) (silent : (s.station n).talk = none) :
    Hushed s (s.seat n active periods) where
  talk m hm := by
    rw [station_seat s n active periods hm]
    split
    · exact .inl silent
    · exact .inr rfl
  listen m hm := by
    rw [station_seat s n active periods hm]
    split
    · next same => rw [← same]; rfl
    · rfl
  defined _ _ _ _ _ := id

theorem group_redefine (s : State) (g : Nat) (defined essential : Bool) {k : Nat} (hk : k < 16) :
    (s.redefine g defined essential).group k
      = if g = k then { (s.group g).clearSums with defined := defined, essential := essential } else s.group k :=
  group_setGroup _ _ _ _ hk

/-- Nobody talks on a group that is not defined (R115). -/
theorem IntercomLaw.untalked {s : State} (law : IntercomLaw s) {g : Nat} (idle : (s.group g).defined = false ∨ s.talkerCount g = 0)
    (n : Nat) (hn : n < 32) : (s.station n).talk ≠ some g := fun talks => by
  obtain undefined | none := idle
  · obtain ⟨-, -, defined, -⟩ := law.talks n hn g talks
    exact Bool.false_ne_true (undefined.symm.trans defined)
  · exact talkerCount_eq_zero.mp none n hn talks

theorem redefine_hushed {s : State} {g : Nat} (defined essential : Bool) (untalked : ∀ n < 32, (s.station n).talk ≠ some g) :
    Hushed s (s.redefine g defined essential) where
  talk _ _ := .inr rfl
  listen _ _ := rfl
  defined n hn k hk talks was := by
    have other : g ≠ k := fun same => untalked n hn (talks.trans (congrArg some same.symm))
    rw [group_redefine s g defined essential hk, if_neg other]
    exact was

/-! ## Talk and listen (R125, R126) -/

/-- What an accepted ICT has passed (R125). -/
theorem ict_accepted {s : State} {n group : Nat} (accepted : s.ictRefused n group = none) : n < 32
    ∧ (s.station n).active = true ∧ ∀ g, talkOf group = some g → g < 16 ∧ (s.group g).defined = true
      ∧ (s.station n).listen.get g = true ∧ ((s.station n).talk ≠ some g → s.talkerCount g < 6) := by
  unfold State.ictRefused at accepted
  split at accepted; · cases accepted
  next range =>
  split at accepted; · cases accepted
  next active =>
  refine ⟨by omega, by simpa using active, fun g names => ?_⟩
  unfold talkOf at names
  split at names; · cases names
  next some =>
  cases names
  rw [if_neg some] at accepted
  split at accepted; · cases accepted
  next heard =>
  split at accepted; · cases accepted
  next room =>
  simp only [Bool.not_eq_true', not_or, Bool.not_eq_false] at heard
  exact ⟨by omega, heard.1, heard.2, fun other => Nat.lt_of_not_le fun full => room ⟨other, full⟩⟩

/-- The talk group moves: it stands, begins, or takes the station's share out of the old group (R125). -/
theorem moveTalk_cases (s : State) (n : Nat) (new : Option Nat) :
    ((s.station n).talk = new ∧ s.moveTalk n new = s)
    ∨ ((s.station n).talk = none ∧ new ≠ none ∧ s.moveTalk n new = s.setStation n { s.station n with talk := new })
    ∨ ∃ old, (s.station n).talk = some old ∧ new ≠ some old ∧ s.moveTalk n new
      = (s.setGroup old ((s.group old).subtract (s.station n).ownFilling)).setStation n
        { s.station n with talk := new, ownFilling := Bank.fill 48 0, written := Bank.fill 48 false } := by
  unfold State.moveTalk
  dsimp only
  split
  · next stands => exact .inl ⟨stands, rfl⟩
  · next moves =>
    cases talk : (s.station n).talk with
    | none => exact .inr (.inl ⟨rfl, fun silent => moves (talk.trans silent.symm), rfl⟩)
    | some old => exact .inr (.inr ⟨old, rfl, fun same => moves (talk.trans same.symm), rfl⟩)

theorem station_moveTalk (s : State) (n : Nat) (new : Option Nat) {m : Nat} (hm : m < 32) :
    ((s.moveTalk n new).station m).active = (s.station m).active
    ∧ ((s.moveTalk n new).station m).talk = (if n = m then new else (s.station m).talk)
    ∧ ((s.moveTalk n new).station m).listen = (s.station m).listen := by
  obtain ⟨talk, same⟩ | ⟨-, -, moved⟩ | ⟨old, -, -, moved⟩ := moveTalk_cases s n new
  · rw [same]
    split
    · next here => rw [← here]; exact ⟨rfl, talk, rfl⟩
    · exact ⟨rfl, rfl, rfl⟩
  all_goals
    rw [moved, station_setStation _ _ _ _ hm]
    split
    · next here => rw [← here]; exact ⟨rfl, rfl, rfl⟩
    · exact ⟨rfl, rfl, rfl⟩

theorem moveTalk_defined (s : State) (n : Nat) (new : Option Nat) {g : Nat} (hg : g < 16) :
    ((s.moveTalk n new).group g).defined = (s.group g).defined := by
  obtain ⟨-, same⟩ | ⟨-, -, moved⟩ | ⟨old, -, -, moved⟩ := moveTalk_cases s n new
  · rw [same]
  · rw [moved]; rfl
  · have group := group_setGroup s old g ((s.group old).subtract (s.station n).ownFilling) hg
    rw [moved, show ((s.setGroup old _).setStation n _).group g = _ from group]
    split
    · next here => rw [← here]; rfl
    · rfl

theorem moveTalk_law {s : State} (law : IntercomLaw s) {n group : Nat} (accepted : s.ictRefused n group = none) :
    IntercomLaw (s.moveTalk n (talkOf group)) := by
  obtain ⟨hn, active, room⟩ := ict_accepted accepted
  have station := fun m (hm : m < 32) => station_moveTalk s n (talkOf group) hm
  refine ⟨fun m hm g talks => ?_, fun g hg => ?_, fun m hm => by rw [(station m hm).2.2]; exact law.listens m hm⟩
  · obtain ⟨actives, talk, listen⟩ := station m hm
    rw [talk] at talks
    rw [actives, listen]
    split at talks
    · next here =>
      subst here
      obtain ⟨hg, defined, listened, -⟩ := room g talks
      exact ⟨hg, active, (moveTalk_defined s n _ hg).trans defined, listened⟩
    · obtain ⟨hg, wasActive, defined, listened⟩ := law.talks m hm g talks
      exact ⟨hg, wasActive, (moveTalk_defined s n _ hg).trans defined, listened⟩
  · have others : ∀ m < 32, m ≠ n → ((s.moveTalk n (talkOf group)).station m).talk = some g → (s.station m).talk = some g :=
      fun m hm other talks => by
        rw [(station m hm).2.1, if_neg other.symm] at talks
        exact talks
    by_cases joins : talkOf group = some g ∧ (s.station n).talk ≠ some g
    · obtain ⟨-, -, -, below⟩ := room g joins.1
      exact Nat.le_trans (talkerCount_le_succ others) (below joins.2)
    · refine Nat.le_trans (talkerCount_le fun m hm talks => ?_) (law.talkers g hg)
      by_cases here : m = n
      · rw [(station m hm).2.1, if_pos here.symm] at talks
        by_contra new
        exact joins ⟨talks, here ▸ new⟩
      · exact others m hm here talks

/-- What an accepted ICL has passed (R126). -/
theorem icl_accepted {s : State} {n : Nat} {groups : Word} (accepted : s.iclRefused n groups = none) : n < 32
    ∧ (groupsOf groups).length ≤ 4 ∧ ∀ g, (s.station n).talk = some g → flag groups g = true := by
  unfold State.iclRefused at accepted
  split at accepted; · cases accepted
  next range =>
  split at accepted; · cases accepted
  split at accepted; · cases accepted
  next fits =>
  refine ⟨by omega, by omega, fun g talks => ?_⟩
  rw [talks] at accepted
  dsimp only at accepted
  split at accepted
  · next member => exact member
  · cases accepted

theorem station_hearGroups (s : State) (n : Nat) (groups : Word) {m : Nat} (hm : m < 32) : (s.hearGroups n groups).station m
    = if n = m then { s.station n with listen := Bank.ofFn 16 (flag groups) } else s.station m := station_setStation _ _ _ _ hm

theorem hearGroups_talk (s : State) (n : Nat) (groups : Word) {m : Nat} (hm : m < 32) :
    ((s.hearGroups n groups).station m).talk = (s.station m).talk := by
  rw [station_hearGroups s n groups hm]
  split
  · next same => rw [← same]
  · rfl

theorem hearGroups_law {s : State} (law : IntercomLaw s) {n : Nat} {groups : Word} (accepted : s.iclRefused n groups = none) :
    IntercomLaw (s.hearGroups n groups) := by
  obtain ⟨hn, few, kept⟩ := icl_accepted accepted
  have talk := fun m (hm : m < 32) => hearGroups_talk s n groups hm
  refine ⟨fun m hm g talks => ?_, fun g hg => ?_, fun m hm => ?_⟩
  · obtain ⟨hg, active, defined, listened⟩ := law.talks m hm g ((talk m hm).symm.trans talks)
    rw [station_hearGroups s n groups hm]
    split
    · next same =>
      subst same
      exact ⟨hg, active, defined, (Bank.get_ofFn _ g hg).trans (kept g ((talk n hm).symm.trans talks))⟩
    · exact ⟨hg, active, defined, listened⟩
  · exact Nat.le_trans (talkerCount_le fun m hm talks => (talk m hm).symm.trans talks) (law.talkers g hg)
  · rw [station_hearGroups s n groups hm]
    split
    · have members : ((List.range 16).filter (Bank.ofFn 16 (flag groups)).get) = groupsOf groups :=
        List.filter_congr fun g hg => Bank.get_ofFn _ g (List.mem_range.mp hg)
      rw [show ((List.range 16).filter ({ s.station n with listen := Bank.ofFn 16 (flag groups) } : StationRecord).listen.get)
        = groupsOf groups from members]
      exact few
    · exact law.listens m hm

/-! ## Every effect -/

theorem IntercomLaw.effect {s t : State} (law : IntercomLaw s) (h : TalkEffect s t) : IntercomLaw t := by
  cases h with
  | same h => exact h.toSameRoles.hushed.law law
  | swaps => exact (swapIntercom_sameRoles s).hushed.law law
  | speaks w => exact (takeMic_sameRoles s _ _ _ w).hushed.law law
  | moves accepted => exact moveTalk_law law accepted
  | listens accepted => exact hearGroups_law law accepted
  | clears => exact (clearIntercom_hushed s).law law
  | seats active periods hn idle => exact (seat_hushed active periods (law.silent hn idle)).law law
  | redefines defined essential idle => exact (redefine_hushed defined essential (law.untalked idle)).law law
  | resets => exact intercomLaw_reset

theorem Talks.law {s t : State} (h : Talks s t) (law : IntercomLaw s) : IntercomLaw t := by
  induction h with
  | refl => exact law
  | tail _ k before => exact before.effect k

end Sys2Proof.Machine
end

section
/-! PROOFS. The intercom's law at every step. -/

namespace Sys2Proof.Machine

/-- Settles O20: a step is some effects on the roles of the stations (`step_talks`), and each keeps the law. -/
theorem intercomLawHoldsAtEveryStep : Obligations.IntercomLawHoldsAtEveryStep :=
  fun _ _ law stepped => (step_talks stepped).law law

end Sys2Proof.Machine
end

section
/-! SUPPORT. The groups' filling sums (R110, R116, R118, R119, R125) through every effect on the talkers. -/

namespace Sys2Proof.Machine

/-! ## A group's sum as its stations' voices -/

/-- What station `n` gives to the sum of group `g` at position `i` (R110). -/
def State.voice (s : State) (g i n : Nat) : Int := if (s.station n).talk = some g then (s.station n).ownFilling.get i else 0

/-- The sum of the talkers' own-filling samples (R110). -/
def State.voices (s : State) (g i : Nat) : Int := ((List.range 32).map (s.voice g i)).sum

theorem GroupSumLaw.sums {s : State} (law : GroupSumLaw s) {g i : Nat} (hg : g < 16) (hi : i < 48) :
    (s.group g).filling.get i = s.voices g i := law.filling g hg i hi

/-- A sum in which one term changes. -/
theorem sum_map_change {l : List Nat} {f f' : Nat → Int} {n : Nat} (once : l.Nodup) (mem : n ∈ l)
    (others : ∀ m ∈ l, m ≠ n → f' m = f m) : (l.map f').sum = (l.map f).sum + (f' n - f n) := by
  induction l with
  | nil => exact absurd mem List.not_mem_nil
  | cons m l ih =>
    obtain ⟨fresh, once⟩ := List.nodup_cons.mp once
    rw [List.map_cons, List.sum_cons, List.map_cons, List.sum_cons]
    by_cases here : m = n
    · subst here
      have rest : l.map f' = l.map f := List.map_congr_left fun k hk =>
        others k (List.mem_cons_of_mem _ hk) fun same => fresh (same ▸ hk)
      rw [rest]
      omega
    · have rest := ih once (List.mem_of_ne_of_mem (Ne.symm here) mem) fun k hk => others k (List.mem_cons_of_mem _ hk)
      rw [others m List.mem_cons_self here, rest]
      omega

theorem voices_congr {s t : State} {g i : Nat} (same : ∀ n < 32, t.voice g i n = s.voice g i n) : t.voices g i = s.voices g i :=
  congrArg List.sum (List.map_congr_left fun n hn => same n (List.mem_range.mp hn))

theorem voices_change {s t : State} {g i n : Nat} (hn : n < 32)
    (others : ∀ m < 32, m ≠ n → t.voice g i m = s.voice g i m) :
    t.voices g i = s.voices g i + (t.voice g i n - s.voice g i n) :=
  sum_map_change List.nodup_range (List.mem_range.mpr hn) fun m hm => others m (List.mem_range.mp hm)

theorem voices_eq_zero {s : State} {g i : Nat} (silent : ∀ n < 32, s.voice g i n = 0) : s.voices g i = 0 :=
  List.sum_eq_zero fun v hv => by
    obtain ⟨n, hn, rfl⟩ := List.mem_map.mp hv
    exact silent n (List.mem_range.mp hn)

theorem voice_of_talk {s : State} {g n : Nat} (i : Nat) (talk : (s.station n).talk = some g) :
    s.voice g i n = (s.station n).ownFilling.get i := if_pos talk

theorem voice_of_other {s : State} {g n : Nat} (i : Nat) (talk : (s.station n).talk ≠ some g) : s.voice g i n = 0 := if_neg talk

/-- Equal records have equal voices. -/
theorem voice_same {s t : State} {n : Nat} (talk : (t.station n).talk = (s.station n).talk)
    (own : (t.station n).ownFilling = (s.station n).ownFilling) (g i : Nat) : t.voice g i n = s.voice g i n := by
  unfold State.voice
  rw [talk, own]

/-- A station whose samples are all 0 adds nothing. -/
theorem voice_of_cleared {s : State} {n : Nat} (cleared : (s.station n).ownFilling = Bank.fill 48 0) (g : Nat) {i : Nat}
    (hi : i < 48) : s.voice g i n = 0 := by
  unfold State.voice
  rw [cleared, Bank.get_fill _ i hi, ite_self]

/-- A change of one station, where every group's sum changes by what the station's voice does. -/
theorem GroupSumLaw.change {s t : State} (law : GroupSumLaw s) {n : Nat} (hn : n < 32)
    (others : ∀ m < 32, m ≠ n → t.station m = s.station m)
    (filling : ∀ g < 16, ∀ i < 48, (t.group g).filling.get i = (s.group g).filling.get i + (t.voice g i n - s.voice g i n))
    (untalked : (t.station n).talk = none → ∀ i < 48, (t.station n).ownFilling.get i = 0) : GroupSumLaw t where
  filling g hg i hi := by
    rw [filling g hg i hi, law.sums hg hi]
    exact (voices_change hn fun m hm other => by unfold State.voice; rw [others m hm other]).symm
  untalked m hm silent i hi := by
    by_cases here : m = n
    · subst here; exact untalked silent i hi
    · rw [others m hm here] at silent ⊢
      exact law.untalked m hm silent i hi

/-! ## Effects on the talkers -/

theorem SameTalk.sums {s t : State} (h : SameTalk s t) (law : GroupSumLaw s) : GroupSumLaw t where
  filling g hg i hi := by
    rw [h.filling g hg, law.sums hg hi]
    exact (voices_congr fun n hn => voice_same (h.station hn).2.1 (h.own n hn) g i).symm
  untalked n hn silent i hi := by
    rw [h.own n hn]
    exact law.untalked n hn ((h.station hn).2.1.symm.trans silent) i hi

section acts

variable {s : State} (crew : IntercomLaw s) (law : GroupSumLaw s)

include crew in
/-- A group on which nobody talks has no voices (R115). -/
theorem IntercomLaw.voiceless {g : Nat} (idle : (s.group g).defined = false ∨ s.talkerCount g = 0) (i : Nat) :
    s.voices g i = 0 := voices_eq_zero fun n hn => voice_of_other i (crew.untalked idle n hn)

include crew law

/-- At the swap the talkers, all active, and the defined groups begin a period of zeros; the other groups have no talkers
(R118, R119). -/
theorem swapIntercom_sums : GroupSumLaw s.swapIntercom := by
  have own : ∀ n < 32, (s.swapIntercom.station n).talk = (s.station n).talk ∧ (s.swapIntercom.station n).ownFilling
      = if (s.station n).active = true then Bank.fill 48 0 else (s.station n).ownFilling := fun n hn => by
    rw [station_swapIntercom s hn]
    unfold StationRecord.swap
    split <;> exact ⟨rfl, rfl⟩
  have filling : ∀ g < 16, (s.swapIntercom.group g).filling
      = if (s.group g).defined = true then Bank.fill 48 0 else (s.group g).filling := fun g hg => by
    rw [group_swapIntercom s hg]
    unfold GroupRecord.swap
    split <;> rfl
  refine ⟨fun g hg i hi => ?_, fun n hn silent i hi => ?_⟩
  · have voiceless : s.swapIntercom.voices g i = 0 := voices_eq_zero fun n hn => by
      by_cases talks : (s.swapIntercom.station n).talk = some g
      · obtain ⟨-, active, -⟩ := crew.talks n hn g ((own n hn).1.symm.trans talks)
        exact voice_of_cleared ((own n hn).2.trans (if_pos active)) g hi
      · exact voice_of_other i talks
    refine Eq.trans ?_ voiceless.symm
    rw [filling g hg]
    split
    · exact Bank.get_fill _ i hi
    · next undefined => exact (law.sums hg hi).trans (crew.voiceless (.inl (Bool.eq_false_iff.mpr undefined)) i)
  · rw [(own n hn).2]
    split
    · exact Bank.get_fill _ i hi
    · exact law.untalked n hn ((own n hn).1.symm.trans silent) i hi

omit crew in
/-- A microphone word takes its station's old sample out of the sum and puts the new one in (R116). -/
theorem takeMic_sums {n g i : Nat} (w : Word) (hn : n < 32) (talk : (s.station n).talk = some g) :
    GroupSumLaw (s.takeMic n g i w) := by
  have here : (s.takeMic n g i w).station n = _ := (station_takeMic s n g i w hn).trans (if_pos rfl)
  have talks : ((s.takeMic n g i w).station n).talk = some g := by rw [here]; exact talk
  refine law.change hn (fun m hm other => (station_takeMic s n g i w hm).trans (if_neg other.symm)) (fun k hk j hj => ?_)
    fun silent => nomatch silent.symm.trans talks
  rw [group_takeMic s n g i w hk]
  split
  · next same =>
    subst same
    rw [voice_of_talk j talks, voice_of_talk j talk, here]
    dsimp only [GroupRecord.addAt]
    rw [Bank.get_set _ _ _ _ hj, Bank.get_set _ _ _ _ hj]
    split
    · next position => rw [position]
    · omega
  · next differ =>
    have apart : some g ≠ some k := fun same => differ (Option.some.inj same)
    rw [voice_of_other j (talks ▸ apart), voice_of_other j (talk ▸ apart)]
    omega

omit crew in
/-- A move takes the station's share of the period out of the old group; it brings none to the new one (R125). -/
theorem moveTalk_sums {n : Nat} (hn : n < 32) (new : Option Nat) : GroupSumLaw (s.moveTalk n new) := by
  obtain ⟨-, same⟩ | ⟨talk, -, moved⟩ | ⟨old, talk, -, moved⟩ := moveTalk_cases s n new
  · rw [same]; exact law
  · have share := law.untalked n hn talk
    have here := station_setStation_self s n { s.station n with talk := new } hn
    rw [moved]
    refine law.change hn (fun m hm other => (station_setStation s n m _ hm).trans (if_neg other.symm)) (fun g hg i hi => ?_)
      fun _ => by rw [here]; exact share
    have none : s.voice g i n = 0 := voice_of_other i (by rw [talk]; exact nofun)
    have still : (s.setStation n { s.station n with talk := new }).voice g i n = 0 := by
      unfold State.voice
      rw [here, share i hi, ite_self]
    rw [none, still]
    exact (add_zero _).symm
  · rw [moved]
    generalize left : s.setGroup old ((s.group old).subtract (s.station n).ownFilling) = u
    have here := station_setStation_self u n
      { s.station n with talk := new, ownFilling := Bank.fill 48 0, written := Bank.fill 48 false } hn
    refine law.change hn (fun m hm other => ?_) (fun g hg i hi => ?_) fun _ i hi => by rw [here]; exact Bank.get_fill _ i hi
    · exact (station_setStation u n m _ hm).trans ((if_neg other.symm).trans (by rw [← left]; rfl))
    · have group : u.group g = if old = g then (s.group old).subtract (s.station n).ownFilling else s.group g :=
        left ▸ group_setGroup s old g _ hg
      rw [voice_of_cleared (by rw [here]) g hi, show (u.setStation n _).group g = _ from group]
      split
      · next same =>
        subst same
        rw [voice_of_talk i talk]
        exact (Bank.get_ofFn _ i hi).trans (by omega)
      · next differ =>
        rw [voice_of_other i (by rw [talk]; exact fun same => differ (Option.some.inj same))]
        omega

omit crew in
theorem hearGroups_sums {n : Nat} (hn : n < 32) (groups : Word) : GroupSumLaw (s.hearGroups n groups) := by
  have here : (s.hearGroups n groups).station n = _ := (station_hearGroups s n groups hn).trans (if_pos rfl)
  refine law.change hn (fun m hm other => (station_hearGroups s n groups hm).trans (if_neg other.symm)) (fun g hg i hi => ?_)
    fun silent => by rw [here] at silent ⊢; exact law.untalked n hn silent
  rw [voice_same (s := s) (by rw [here]) (by rw [here])]
  exact (by omega : ∀ v w : Int, v = v + (w - w)) _ _

omit crew in
/-- A station that is seated does not talk, before or after (R112, R113). -/
theorem seat_sums {n : Nat} (hn : n < 32) (active : Bool) (periods : Nat) (silent : (s.station n).talk = none) :
    GroupSumLaw (s.seat n active periods) := by
  have here : (s.seat n active periods).station n = _ := (station_seat s n active periods hn).trans (if_pos rfl)
  refine law.change hn (fun m hm other => (station_seat s n active periods hm).trans (if_neg other.symm)) (fun g hg i hi => ?_)
    fun _ i hi => by rw [here]; exact Bank.get_fill _ i hi
  rw [voice_of_other (s := s) i (by rw [silent]; exact nofun), voice_of_cleared (by rw [here]; rfl) g hi]
  exact (add_zero _).symm

omit crew law in
theorem clearIntercom_sums : GroupSumLaw s.clearIntercom := by
  have cleared : ∀ n < 32, (s.clearIntercom.station n).ownFilling = Bank.fill 48 0 := fun n hn => by
    rw [station_clearIntercom s hn]; rfl
  refine ⟨fun g hg i hi => ?_, fun n hn _ i hi => by rw [cleared n hn]; exact Bank.get_fill _ i hi⟩
  rw [group_clearIntercom s hg]
  exact (Bank.get_fill _ i hi).trans (voices_eq_zero fun n hn => voice_of_cleared (cleared n hn) g hi).symm

theorem redefine_sums {g : Nat} (defined essential : Bool) (idle : (s.group g).defined = false ∨ s.talkerCount g = 0) :
    GroupSumLaw (s.redefine g defined essential) := by
  refine ⟨fun k hk i hi => ?_, law.untalked⟩
  rw [group_redefine s g defined essential hk]
  split
  · next same =>
    subst same
    exact (Bank.get_fill _ i hi).trans (crew.voiceless idle i).symm
  · exact law.sums hk hi

/-! ## Every effect -/

theorem GroupSumLaw.effect {t : State} (h : TalkEffect s t) : GroupSumLaw t := by
  cases h with
  | same h => exact h.sums law
  | swaps => exact swapIntercom_sums crew law
  | speaks w hn talk => exact takeMic_sums law w hn talk
  | moves accepted => exact moveTalk_sums law (ict_accepted accepted).1 _
  | listens accepted => exact hearGroups_sums law (icl_accepted accepted).1 _
  | clears => exact clearIntercom_sums
  | seats active periods hn idle => exact seat_sums law hn active periods (crew.silent hn idle)
  | redefines defined essential idle => exact redefine_sums crew law defined essential idle
  | resets => exact groupSumLaw_reset

end acts

theorem Talks.sums {s t : State} (h : Talks s t) (crew : IntercomLaw s) (law : GroupSumLaw s) : GroupSumLaw t := by
  induction h with
  | refl => exact law
  | tail before k sums => exact sums.effect (Talks.law before crew) k

end Sys2Proof.Machine
end

section
/-! PROOFS. The groups' sums at every step. -/

namespace Sys2Proof.Machine

/-- Settles O25: each effect on the talkers changes a group's sum by what it changes of its talkers' samples; the intercom's law, kept
beside it, leaves an undefined group without talkers and lets only active stations talk. -/
theorem groupSumsAreTheirTalkers : Obligations.GroupSumsAreTheirTalkers :=
  fun _ _ crew law stepped => (step_talks stepped).sums crew law

end Sys2Proof.Machine
end

section
/-! SUPPORT. The own rules of ICT and ICL (R125, R126). -/

namespace Sys2Proof.Machine

/-! ## ICT (R125) -/

section ict

variable {s : State} {station group : Nat}

theorem ictRefused_of_range (outside : 31 < station ∨ (15 < group ∧ group ≠ 31)) :
    s.ictRefused station group = some .argument := if_pos outside

variable (inside : ¬ (31 < station ∨ (15 < group ∧ group ≠ 31)))
include inside

theorem ictRefused_of_inactive (rests : (s.station station).active = false) :
    s.ictRefused station group = some .state := (if_neg inside).trans (if_pos (by simp [rests]))

variable (active : (s.station station).active = true)
include active

theorem ictRefused_of_active : s.ictRefused station group =
    if group = 31 then none
    else if (s.group group).defined = false ∨ (s.station station).listen.get group = false then some .argument
    else if (s.station station).talk ≠ some group ∧ 6 ≤ s.talkerCount group then some .contention else none := by
  unfold State.ictRefused
  rw [if_neg inside, if_neg (by simp [active])]
  simp only [Bool.not_eq_true']

theorem ictRefused_of_unheard (some' : group ≠ 31)
    (unheard : (s.group group).defined = false ∨ (s.station station).listen.get group = false) :
    s.ictRefused station group = some .argument :=
  (ictRefused_of_active inside active).trans ((if_neg some').trans (if_pos unheard))

theorem ictRefused_of_crowded (some' : group ≠ 31)
    (heard : ¬ ((s.group group).defined = false ∨ (s.station station).listen.get group = false))
    (crowded : (s.station station).talk ≠ some group ∧ 6 ≤ s.talkerCount group) :
    s.ictRefused station group = some .contention :=
  (ictRefused_of_active inside active).trans ((if_neg some').trans ((if_neg heard).trans (if_pos crowded)))

theorem ictRefused_of_room
    (heard : ¬ (group ≠ 31 ∧ ((s.group group).defined = false ∨ (s.station station).listen.get group = false)))
    (room : ¬ (group ≠ 31 ∧ (s.station station).talk ≠ some group ∧ 6 ≤ s.talkerCount group)) :
    s.ictRefused station group = none := by
  rw [ictRefused_of_active inside active]
  by_cases none : group = 31
  · exact if_pos none
  · rw [if_neg none, if_neg fun unheard => heard ⟨none, unheard⟩, if_neg fun crowded => room ⟨none, crowded⟩]

end ict

theorem takeIct_of_refused {s : State} {station group : Nat} {reason : Reason}
    (refused : s.ictRefused station group = some reason) : s.takeIct station group = .error reason := by
  unfold State.takeIct
  rw [refused]

theorem takeIct_of_accepted {s t : State} {station group : Nat} (accepted : s.ictRefused station group = none)
    (moved : s.moveTalk station (talkOf group) = t) :
    s.takeIct station group = .ok (if group = 31 then 0 else t.talkerCount group, t) := by
  unfold State.takeIct
  rw [accepted, ← moved]

theorem moveTalk_same {s : State} {n : Nat} {new : Option Nat} (stands : (s.station n).talk = new) : s.moveTalk n new = s :=
  if_pos stands

theorem moveTalk_begins {s : State} {n : Nat} {new : Option Nat} (talk : (s.station n).talk = none) (some' : new ≠ none) :
    s.moveTalk n new = s.setStation n { s.station n with talk := new } := by
  obtain ⟨stands, -⟩ | ⟨-, -, moved⟩ | ⟨old, talks, -⟩ := moveTalk_cases s n new
  · exact absurd (stands.symm.trans talk) some'
  · exact moved
  · cases talk.symm.trans talks

theorem moveTalk_leaves {s : State} {n old : Nat} {new : Option Nat} (talk : (s.station n).talk = some old)
    (other : new ≠ some old) : s.moveTalk n new
      = (s.setGroup old ((s.group old).subtract (s.station n).ownFilling)).setStation n
        { s.station n with talk := new, ownFilling := Bank.fill 48 0, written := Bank.fill 48 false } := by
  obtain ⟨stands, -⟩ | ⟨silent, -⟩ | ⟨old', talks, -, moved⟩ := moveTalk_cases s n new
  · exact absurd (stands.symm.trans talk) other
  · cases silent.symm.trans talk
  · cases talk.symm.trans talks
    exact moved

/-! ## ICL (R126) -/

/-- The reserved half of a group set holds something. -/
theorem reserved_ne_zero_iff (groups : Word) : field groups 16 16 ≠ 0 ↔ 65536 ≤ groups.toNat := by
  have := groups.isLt
  unfold field
  omega

section icl

variable {s : State} {station : Nat} {groups : Word}

theorem iclRefused_of_range (outside : 31 < station ∨ 65536 ≤ groups.toNat) : s.iclRefused station groups = some .argument :=
  if_pos (outside.imp_right (reserved_ne_zero_iff groups).mpr)

variable (inside : ¬ (31 < station ∨ 65536 ≤ groups.toNat))
include inside

theorem iclRefused_of_inactive (rests : (s.station station).active = false) : s.iclRefused station groups = some .state :=
  (if_neg fun outside => inside (outside.imp_right (reserved_ne_zero_iff groups).mp)).trans (if_pos (by simp [rests]))

/-- The set is too large, holds an undefined group, or leaves out the talk group. -/
def State.badSet (s : State) (station : Nat) (groups : Word) : Prop :=
  4 < (groupsOf groups).length ∨ (∃ g ∈ groupsOf groups, (s.group g).defined = false)
    ∨ ∃ g, (s.station station).talk = some g ∧ flag groups g = false

theorem iclRefused_of_active (active : (s.station station).active = true) :
    (s.badSet station groups → s.iclRefused station groups = some .argument)
    ∧ (¬ s.badSet station groups → s.iclRefused station groups = none) := by
  have content : (4 < (groupsOf groups).length ∨ (!(groupsOf groups).all fun g => (s.group g).defined) = true)
      ↔ 4 < (groupsOf groups).length ∨ ∃ g ∈ groupsOf groups, (s.group g).defined = false := by simp
  unfold State.iclRefused State.badSet
  rw [if_neg fun outside => inside (outside.imp_right (reserved_ne_zero_iff groups).mp), if_neg (by simp [active])]
  by_cases bad : 4 < (groupsOf groups).length ∨ ∃ g ∈ groupsOf groups, (s.group g).defined = false
  · exact ⟨fun _ => if_pos (content.mpr bad), fun good => absurd (or_assoc.mp (.inl bad)) good⟩
  · rw [if_neg (mt content.mp bad), ← or_assoc, or_iff_right bad]
    cases talk : (s.station station).talk with
    | none => simp
    | some g => cases member : flag groups g <;> simp [member]

end icl

theorem takeIcl_of_refused {s : State} {station : Nat} {groups : Word} {reason : Reason}
    (refused : s.iclRefused station groups = some reason) : s.takeIcl station groups = .error reason := by
  unfold State.takeIcl
  rw [refused]

theorem takeIcl_of_accepted {s : State} {station : Nat} {groups : Word} (accepted : s.iclRefused station groups = none) :
    s.takeIcl station groups = .ok ((groupsOf groups).length, s.hearGroups station groups) := by
  unfold State.takeIcl
  rw [accepted]
  rfl

end Sys2Proof.Machine
end

section
/-! PROOFS. ICT and ICL. -/

namespace Sys2Proof.Machine

/-- Settles O32: each refusal by its check in the order of the checks; the accepted ICT by how the talk group moves. -/
theorem talkAndListen : Obligations.TalkAndListen := by
  refine ⟨fun s h station group heard hs hg idle => ?_, fun s h station groups heard hs idle => ?_⟩
  · have ict : Taken s h (.ict station group) := taken_of_fits heard (by simp [Command.fits, hs, hg]) idle
    have refused {reason : Reason} (check : (s.atTake h (.ict station group)).ictRefused station group = some reason) :=
      ict.refused (takeIct_of_refused check)
    refine ⟨fun outside => refused (ictRefused_of_range outside), fun inside => ⟨fun rests => ?_, fun active unheard => ?_,
      fun active heard' crowded => ?_, fun active heard' room => ?_⟩⟩
    · exact refused (ictRefused_of_inactive inside rests)
    · exact refused (ictRefused_of_unheard inside active unheard.1 unheard.2)
    · exact refused (ictRefused_of_crowded inside active crowded.1 (fun unheard => heard' ⟨crowded.1, unheard⟩) crowded.2)
    · have accepted : (s.atTake h (.ict station group)).ictRefused station group = none :=
        ictRefused_of_room inside active heard' room
      exact ⟨fun stands => ict.accepted (takeIct_of_accepted accepted (moveTalk_same stands)),
        fun silent some' => ict.accepted (takeIct_of_accepted accepted (moveTalk_begins silent some')),
        fun old _ talks other => ict.accepted (takeIct_of_accepted accepted (moveTalk_leaves talks other))⟩
  · have icl : Taken s h (.icl station groups) := taken_of_fits heard (by simp [Command.fits, hs]) idle
    refine ⟨fun outside => icl.refused (takeIcl_of_refused (iclRefused_of_range outside)), fun inside rests => ?_,
      fun inside active bad => ?_, fun inside active good => ?_⟩
    · exact icl.refused (takeIcl_of_refused (iclRefused_of_inactive inside rests))
    · exact icl.refused (takeIcl_of_refused ((iclRefused_of_active inside active).1 bad))
    · exact icl.accepted (takeIcl_of_accepted ((iclRefused_of_active inside active).2 good))

end Sys2Proof.Machine
end

section
/-! SUPPORT. A word written to one region (R5), and a microphone word by the talk group and the lanes (R116, R117, R127). -/

namespace Sys2Proof.Machine

/-- The WRITE of one word into a region whose words are not pinned: the region's listener, and the request queued (R5). -/
theorem exec_regionWord {s : State} {tag addr : Nat} {r : Region} {w : WriteWord} (accepts : s.accepts tag = true)
    (region : s.classify addr = r) (unpinned : r.isPinned = false) :
    exec (.writeRequest tag addr [w]) s = .next ((s.begun.offerWord (r, w)).afterWord tag addr w) := by
  have regions : s.begun.burstRegions addr [w].length = [r] := congrArg (fun r => [r]) region
  have short : examined s.begun.transit.anchor addr [w] = false := by simp [examined]
  have offered : s.begun.offerBurst addr [w] = s.begun.offerWord (r, w) := by
    unfold State.offerBurst
    rw [short, regions]
    rfl
  have passed := passWrite_queued (s := s.begun) tag addr [w] accepts (by rw [regions]; simp [unpinned])
  rw [offered] at passed
  exact congrArg (fun t : State => Host.Outcome.next t.latch) passed

section

variable {s : State} {n : Nat} {w : WriteWord} (offset : Nat)

theorem offerMic_untaken (untaken : (s.station n).talk = none ∨ s.control.busyIntercom = true) : s.offerMic n offset w = s := by
  unfold State.offerMic
  split
  · rfl
  · next talks =>
    obtain silent | busy := untaken
    · rw [silent] at talks; cases talks
    · exact if_pos busy

variable (idle : s.control.busyIntercom = false)
include idle

theorem offerMic_torn (talks : (s.station n).talk ≠ none) (cut : w.lanes ≠ 15#4) : s.offerMic n offset w = s.tearMic n := by
  obtain ⟨g, talk⟩ := Option.ne_none_iff_exists'.mp talks
  unfold State.offerMic
  rw [talk, idle]
  exact if_neg cut

theorem offerMic_taken {g : Nat} (talk : (s.station n).talk = some g) (whole : w.lanes = 15#4) :
    s.offerMic n offset w = s.takeMic n g (offset % 48) w.data := by
  unfold State.offerMic
  rw [talk, idle]
  exact if_pos whole

end

/-- A torn word is counted, with COUNTER where the counter passes from 127 to 128 (R37, R117). -/
theorem tearMic_of_passing {s : State} {n : Nat} (passes : (s.station n).torn = 127) :
    s.tearMic n = (s.setStation n { s.station n with torn := 128 }).post .counter := by
  unfold State.tearMic
  dsimp only
  rw [passes]
  rfl

theorem tearMic_of_other {s : State} {n : Nat} (other : (s.station n).torn ≠ 127) :
    s.tearMic n = s.setStation n { s.station n with torn := bump (s.station n).torn } := if_neg other

end Sys2Proof.Machine
end

section
/-! PROOFS. A microphone word. -/

namespace Sys2Proof.Machine

/-- Settles O50: the word by the talk group, the busy set and the lanes. -/
theorem microphoneWordReplacesItsShare : Obligations.MicrophoneWordReplacesItsShare := by
  intro s tag addr n offset w accepts region r i v answer
  have row : answer (s.begun.offerMic n offset w) := exec_regionWord accepts region rfl
  refine ⟨fun untaken => ?_, fun talks idle cut => ⟨fun passes => ?_, fun other => ?_⟩, fun g _ talk idle whole => ?_⟩
  · rw [offerMic_untaken (s := s.begun) offset untaken] at row
    exact row
  · rw [offerMic_torn (s := s.begun) offset idle talks cut, tearMic_of_passing (s := s.begun) passes] at row
    exact row
  · rw [offerMic_torn (s := s.begun) offset idle talks cut, tearMic_of_other (s := s.begun) other] at row
    exact row
  · rw [offerMic_taken (s := s.begun) offset idle talk whole] at row
    exact row

end Sys2Proof.Machine
end

section
/-! SUPPORT. The terms of an earpiece word (R121, R122). -/

namespace Sys2Proof.Machine

/-- A sum of terms that are 0 outside a set is the sum over the set. -/
theorem sum_map_filter {l : List Nat} {p : Nat → Bool} {f f' : Nat → Int} (inside : ∀ x, p x = true → f' x = f x)
    (outside : ∀ x, p x = false → f' x = 0) : (l.map f').sum = ((l.filter p).map f).sum := by
  induction l with
  | nil => rfl
  | cons x l ih =>
    rw [List.map_cons, List.sum_cons, ih]
    cases member : p x with
    | true => rw [List.filter_cons_of_pos member, List.map_cons, List.sum_cons, inside x member]
    | false => rw [List.filter_cons_of_neg (by simp [member]), outside x member, zero_add]

/-- The group is heard: listened to, defined, not muted, and the engine not BUSY (R121, R122). -/
def State.hearsGroup (s : State) (n g : Nat) : Bool :=
  (s.station n).listen.get g && (s.group g).defined && !s.muted g && !s.control.busyIntercom

theorem conferenceTerm_of_heard {s : State} {n g : Nat} (i : Nat) (heard : s.hearsGroup n g = true) :
    s.conferenceTerm n i g = gained (s.conference n g i) (s.group g).gain := by
  unfold State.hearsGroup at heard
  unfold State.conferenceTerm
  simp only [Bool.and_eq_true, Bool.not_eq_true'] at heard
  obtain ⟨⟨⟨listens, defined⟩, audible⟩, idle⟩ := heard
  rw [listens, defined, audible, idle]
  rfl

theorem conferenceTerm_of_unheard {s : State} {n g : Nat} (i : Nat) (unheard : s.hearsGroup n g = false) :
    s.conferenceTerm n i g = 0 := by
  have barred : (!(s.station n).listen.get g || !(s.group g).defined || s.muted g || s.control.busyIntercom)
      = !s.hearsGroup n g := by simp [State.hearsGroup]
  exact if_pos (by rw [barred, unheard]; rfl)

/-- The group's ready sum less the station's own share of it (R122). -/
theorem conference_eq (s : State) (n g i : Nat) : s.conference n g i
    = (s.group g).ready.get i - if (s.station n).readyGroup = some g then (s.station n).ownReady.get i else 0 := by
  unfold State.conference
  split
  · rfl
  · exact (Int.sub_zero _).symm

end Sys2Proof.Machine
end

section
/-! PROOFS. The earpiece word. -/

namespace Sys2Proof.Machine

/-- Settles O53: the conference terms are 0 but for the groups that are heard, and the clamp is the nearest sample. -/
theorem earpieceWordIsMixedMinusSelf : Obligations.EarpieceWordIsMixedMinusSelf := by
  intro s n i word r times muted heard own tone
  have terms : ((List.range 16).map (s.conferenceTerm n i)).sum
      = (((List.range 16).filter heard).map fun g => times ((s.group g).ready.get i - own g) (s.group g).gain).sum :=
    sum_map_filter
      (fun g hears => (conferenceTerm_of_heard i hears).trans (congrArg (gained · (s.group g).gain) (conference_eq s n g i)))
      fun g unheard => conferenceTerm_of_unheard i unheard
  rw [State.earpieceWord, sampleWord, clamp_eq, terms]
  rfl

end Sys2Proof.Machine
end

section
/-! SUPPORT. What the alarm unit heeds at a tick, and the works that leave all of it: a zone changes only in its binding and its
level (R84, R184), and the alarm unit's own work stands among works it does not heed (R71, R194). -/

namespace Sys2Proof.Machine

/-! ## A zone but for its binding and its level -/

/-- The zone changed in nothing but its binding and its level: what the stream engine and the show engine change (R84, R184). -/
def ZoneEntry.SameButSound (e e' : ZoneEntry) : Prop :=
  e' = { e with bound := e'.bound, level := e'.level, levelTarget := e'.levelTarget, ramp := e'.ramp }

theorem ZoneEntry.SameButSound.refl (e : ZoneEntry) : e.SameButSound e := rfl

theorem ZoneEntry.SameButSound.trans {e f g : ZoneEntry} (h : e.SameButSound f) (k : f.SameButSound g) : e.SameButSound g := by
  unfold SameButSound at *
  rw [k, h]

/-- What the watch and the fallback evaluation read of a zone is none of it (R149, R151). -/
theorem ZoneEntry.SameButSound.watch {e e' : ZoneEntry} (h : e.SameButSound e') : e'.mapped = e.mapped ∧ e'.watch = e.watch
    ∧ e'.silent = e.silent ∧ e'.silentEvents = e.silentEvents ∧ e'.fallbackGroup = e.fallbackGroup := by
  rw [show e' = _ from h]
  exact ⟨rfl, rfl, rfl, rfl, rfl⟩

theorem startRamp_sameButSound (e : ZoneEntry) (target r : Nat) : e.SameButSound (e.startRamp target r) := by
  unfold ZoneEntry.startRamp
  split <;> rfl

theorem holdRamp_sameButSound (e : ZoneEntry) : e.SameButSound e.holdRamp := by
  unfold ZoneEntry.holdRamp
  split
  · exact startRamp_sameButSound e 0 24
  · exact .refl e

theorem stepRamp_sameButSound (e : ZoneEntry) : e.SameButSound e.stepRamp := by
  unfold ZoneEntry.stepRamp
  repeat' split
  all_goals rfl

theorem houseLevel_sameButSound (e : ZoneEntry) : e.SameButSound e.houseLevel := by
  unfold ZoneEntry.houseLevel
  split <;> rfl

/-! ## Every zone but for that -/

/-- An act that changes no zone but in its binding and its level. -/
structure ZonesKept (s t : State) : Prop where
  zone : ∀ z < 64, (s.zone z).SameButSound (t.zone z)

theorem ZonesKept.refl (s : State) : ZonesKept s s := ⟨fun _ _ => .refl _⟩

theorem ZonesKept.trans {s t u : State} (h : ZonesKept s t) (k : ZonesKept t u) : ZonesKept s u :=
  ⟨fun z hz => (h.zone z hz).trans (k.zone z hz)⟩

section acts

variable {s t : State} (h : ZonesKept s t)
include h

theorem ZonesKept.same {u : State} (zones : u.zones = t.zones) : ZonesKept s u := ⟨fun z hz => by
  have kept := h.zone z hz
  unfold State.zone at kept ⊢
  rw [zones]
  exact kept⟩

theorem ZonesKept.setStream (n : Nat) (r : StreamRecord) : ZonesKept s (t.setStream n r) := h.same rfl

theorem ZonesKept.setShow (r : ShowRecord) : ZonesKept s (t.setShow r) := h.same rfl

theorem ZonesKept.post (k : NoticeKind) : ZonesKept s (t.post k) := h.same rfl

theorem ZonesKept.mapZones {f : ZoneEntry → ZoneEntry} (kept : ∀ e : ZoneEntry, e.SameButSound (f e)) :
    ZonesKept s { t with zones := t.zones.map f } :=
  h.trans ⟨fun z hz => by
    have cell : (t.zones.map f).get z = f (t.zone z) := Bank.get_map f t.zones z hz
    unfold State.zone at cell ⊢
    rw [cell]
    exact kept _⟩

theorem ZonesKept.setZone {z : Nat} {e : ZoneEntry} (kept : (t.zone z).SameButSound e) : ZonesKept s (t.setZone z e) :=
  h.trans ⟨fun y hy => by
    rw [zone_setZone t z y e hy]
    split
    · next here => exact here ▸ kept
    · exact .refl _⟩

theorem ZonesKept.forEach {f : Nat → State → State} {ns : List Nat} (turns : ∀ n u, ZonesKept s u → ZonesKept s (f n u)) :
    ZonesKept s (t.forEach ns f) :=
  forEach_keeps (fun n _ u hu => turns n u hu) h

theorem ZonesKept.endStream (cause : EndCause) (n : Nat) : ZonesKept s (t.endStream cause n) :=
  h.same (endStream_same cause n t).zones

theorem ZonesKept.endMany (cause : EndCause) (p : Nat → State → Prop) [∀ n s, Decidable (p n s)] :
    ZonesKept s (t.forEach (List.range 8) fun n s => if p n s then s.endStream cause n else s) :=
  h.same (endMany_same cause p t).zones

theorem ZonesKept.fetch (n : Nat) : ZonesKept s (t.fetch n) := h.same (fetch_zones t n)

/-! ## The stream engine -/

theorem ZonesKept.startClip (n : Nat) (owner : StreamOwner) (priority base periods repeats : Nat) (zs : List Nat) :
    ZonesKept s (t.startStream n owner priority (.clip base periods repeats) zs) := by
  have bound := (h.setStream n ((t.stream n).setUp owner priority (.clip base periods repeats))).forEach (ns := zs)
    (f := State.bindZone n) fun z u hu => hu.setZone (by rfl)
  exact (bound.endMany .preempted fun m u => m ≠ n ∧ u.zoneSetOf m = []).fetch n

theorem ZonesKept.pageWatch (n : Nat) : ZonesKept s (t.pageWatch n) := by
  unfold State.pageWatch
  dsimp only
  repeat' split
  · exact (h.setStream _ _).endStream _ n
  · exact h.setStream _ _
  · exact h

theorem ZonesKept.freeIfDrained (n : Nat) : ZonesKept s (t.freeIfDrained n) := h.same (freeIfDrained_zones t n)

theorem ZonesKept.unbindAll (n : Nat) : ZonesKept s (t.unbindAll n) := h.mapZones fun e => by split <;> rfl

theorem ZonesKept.tickRecord (before : State) (n : Nat) : ZonesKept s (State.tickRecord before n t) := by
  unfold State.tickRecord
  split
  · exact h
  · split
    · unfold State.tickStarting
      dsimp only
      split
      · exact (h.setStream _ _).endStream _ n
      · exact (h.setStream _ _).pageWatch n
    · exact h
  · unfold State.tickPlaying
    dsimp only
    split
    · exact (h.setStream _ _).endStream _ n
    · exact (((h.setStream _ _).setStream _ _).pageWatch n).fetch n
  · exact h
  · split
    · exact ((h.setStream _ _).unbindAll n).freeIfDrained n
    · exact h

/-! ## The show engine -/

theorem ZonesKept.cueAction (n : Nat) (c : Cue) : ZonesKept s (t.cueAction n c).1 := by
  unfold State.cueAction
  cases c.action with
  | note => exact h
  | endShow => exact h
  | fade =>
    dsimp only [State.fade]
    split
    · exact h
    · exact h.forEach fun z u hu => hu.setZone (startRamp_sameButSound _ _ _)
  | play =>
    dsimp only [State.play]
    repeat' split
    · exact h
    · exact h
    · exact h
    · next u started =>
      obtain ⟨m, -, -, rfl⟩ := startRequest_some started
      exact h.startClip m (.showCue n) 2 _ _ _ _
  | halt =>
    dsimp only
    exact h.same (endCueStream_same t _).zones

theorem ZonesKept.passCue (n : Nat) (notify : Bool) (st : CueState) : ZonesKept s (t.passCue n notify st) := by
  unfold State.passCue
  dsimp only
  split
  · exact ((h.setShow _).setShow _).post _
  · exact h.setShow _

theorem ZonesKept.houseLevels : ZonesKept s t.houseLevels := h.mapZones houseLevel_sameButSound

theorem ZonesKept.endShow : ZonesKept s t.endShow :=
  ((h.endMany .stopped fun n u => (u.stream n).showOwned = true).houseLevels.setShow _).post _

theorem ZonesKept.fireCue : ZonesKept s t.fireCue := by
  have passed := (h.cueAction t.theatre.pointer (t.theatre.cue t.theatre.pointer)).passCue t.theatre.pointer
    (t.theatre.cue t.theatre.pointer).notify (t.cueAction t.theatre.pointer (t.theatre.cue t.theatre.pointer)).2
  unfold State.fireCue
  dsimp only
  split
  · exact passed.endShow
  · exact passed

theorem ZonesKept.consider : ZonesKept s t.consider :=
  consider_keeps (fun _ hu => hu.fireCue) (fun _ hu => hu.passCue _ _ _) h

theorem ZonesKept.showTick : ZonesKept s t.showTick := ((h.mapZones stepRamp_sameButSound).setShow _).consider

theorem ZonesKept.alarmHold : ZonesKept s t.alarmHold := by
  unfold State.alarmHold
  split
  · exact ((h.mapZones holdRamp_sameButSound).setShow _).post _
  · exact (h.setShow _).post _
  · exact h
  · exact h
  · exact h

theorem ZonesKept.enterSounding (source : AlarmSource) : ZonesKept s (t.enterSounding source) := by
  rw [enterSounding_eq]
  refine ZonesKept.alarmHold (h.same ?_)
  rw [(endAll_same _ _).zones, alarmRaised_eq]

end acts

/-! ## Works that the alarm unit does not heed -/

/-- An act that leaves the alarm unit, the lines, and of the zones all but their binding and their level, and withdraws no
notice. -/
structure Unheeded (s t : State) : Prop where
  alarm : t.alarm = s.alarm
  lines : t.lines = s.lines
  zones : ZonesKept s t
  posted : ∀ k < 9, s.control.pendingNotices.get k = true → t.control.pendingNotices.get k = true

theorem Unheeded.refl (s : State) : Unheeded s s := ⟨rfl, rfl, .refl s, fun _ _ => id⟩

theorem Unheeded.trans {s t u : State} (h : Unheeded s t) (k : Unheeded t u) : Unheeded s u :=
  ⟨k.alarm.trans h.alarm, k.lines.trans h.lines, h.zones.trans k.zones, fun n hn => k.posted n hn ∘ h.posted n hn⟩

/-- An act whose effect on the lines and the notices is known. -/
theorem Unheeded.of_beside {s s' t : State} (h : Beside s' t) (alarm : t.alarm = s.alarm) (zones : ZonesKept s t)
    (lines : s'.lines = s.lines) (control : s'.control = s.control) : Unheeded s t :=
  ⟨alarm, h.lines.trans lines, zones, fun k hk posted => h.posted k hk (by rw [control]; exact posted)⟩

theorem consider_unheeded (s : State) : Unheeded s s.consider :=
  .of_beside (Still.refl s).consider.toBeside (consider_alarm s) (ZonesKept.refl s).consider rfl rfl

theorem clock_unheeded (s : State) (c : ClockUnit) : Unheeded s { s with clock := c } :=
  ⟨rfl, rfl, (ZonesKept.refl s).same rfl, fun _ _ => id⟩

theorem post_unheeded (s : State) (k : NoticeKind) : Unheeded s (s.post k) :=
  ⟨rfl, rfl, (ZonesKept.refl s).same rfl, fun _ hn => post_posted s.control k hn⟩

theorem markEvent_unheeded (s : State) : Unheeded s s.markEvent := (clock_unheeded s _).trans (consider_unheeded _)

theorem setLock_unheeded (s : State) (lock : LockState) : Unheeded s (s.setLock lock) :=
  (clock_unheeded s { s.clock with lock := lock }).trans (post_unheeded _ _)

theorem measureStep_unheeded (s : State) : Unheeded s s.measureStep := by
  have counted := clock_unheeded s s.clock.countStep
  have marked (t : State) (c : ClockUnit) : Unheeded t (State.markEvent { t with clock := c }) :=
    (clock_unheeded t c).trans (markEvent_unheeded _)
  rw [measureStep_eq]
  dsimp only
  cases s.clock.lock with
  | free => exact counted
  | acquiring => exact counted
  | locked =>
    dsimp only
    split
    · exact (counted.trans (setLock_unheeded _ _)).trans (marked _ _)
    · exact counted
  | holdover =>
    dsimp only
    split
    · unfold State.closeWindow
      split
      · exact (counted.trans (setLock_unheeded _ _)).trans (marked _ _)
      · exact counted.trans (marked _ _)
    · exact counted

theorem measure_unheeded (s : State) (n : Nat) : Unheeded s (s.measure n) :=
  forEach_keeps (P := Unheeded s) (fun _ _ t ht => ht.trans (measureStep_unheeded t)) (.refl s)

/-! ## The blocks but the alarm unit -/

theorem streamTick_unheeded (before s : State) : Unheeded s (State.streamTick before s) := by
  refine .of_beside (streamTick_beside before s) (streamTick_apart before s).alarm ?_ rfl rfl
  have ticked := (ZonesKept.refl s).forEach (ns := List.range 8) fun n _ hu => hu.tickRecord before n
  have released (t : State) : t.releaseBusy.zones = t.zones := rfl
  unfold State.streamTick
  exact ticked.same (released _)

theorem intercomTick_unheeded (s : State) : Unheeded s s.intercomTick := by
  refine .of_beside (intercomTick_still s).toBeside (intercomTick_alarm s) ?_ rfl rfl
  have offered (g : Nat) (t : State) : (State.offerGroup g t).zones = t.zones := by
    rw [show State.offerGroup g t = _ from offerGroup_frame g t]
  have loop := forEach_same State.zones (ns := List.range 16) (fun g _ t => offered g t) s.swapIntercom
  have released (t : State) : State.zones { t with control := { t.control with busyIntercom := false } } = t.zones := rfl
  unfold State.intercomTick
  exact (ZonesKept.refl s).same ((released _).trans loop)

theorem showTick_unheeded (s : State) : Unheeded s s.showTick := by
  have same : s.showTick.alarm = s.alarm := consider_alarm _
  exact .of_beside (Still.refl s).showTick.toBeside same (ZonesKept.refl s).showTick rfl rfl

theorem blockTick_unheeded (before s : State) {b : TickBlock} (other : b ≠ .alarm) : Unheeded s (State.blockTick before s b) := by
  cases b with
  | stream => exact streamTick_unheeded before s
  | intercom => exact intercomTick_unheeded s
  | alarm => exact absurd rfl other
  | showEngine => exact showTick_unheeded s

theorem foldl_blockTick_unheeded (before : State) {bs : List TickBlock} (others : .alarm ∉ bs) (s : State) :
    Unheeded s (bs.foldl (State.blockTick before) s) := by
  induction bs generalizing s with
  | nil => exact .refl s
  | cons b bs ih =>
    rw [List.mem_cons, not_or] at others
    exact (blockTick_unheeded before s (Ne.symm others.1)).trans (ih others.2 _)

/-! ## The tick and the event -/

/-- Every order takes the alarm unit once (R71, R194). -/
theorem tickBlocks_alarm (o : TickOrder) : ∃ first last, tickBlocks o = first ++ .alarm :: last
    ∧ .alarm ∉ first ∧ .alarm ∉ last := by
  refine ⟨(tickBlocks o).takeWhile (· != .alarm), ((tickBlocks o).dropWhile (· != .alarm)).tail, ?_⟩
  cases o <;> decide

/-- The alarm unit's work at a tick, among works it does not heed. -/
def AlarmEvent (s t : State) : Prop := ∃ u, Unheeded s u ∧ Unheeded u.alarmTick t

theorem AlarmEvent.widen {s s' t t' : State} (h : AlarmEvent s t) (first : Unheeded s' s) (last : Unheeded t t') :
    AlarmEvent s' t' := by
  obtain ⟨u, found, left⟩ := h
  exact ⟨u, first.trans found, left.trans last⟩

theorem makeTick_alarmEvent (s : State) (order : TickOrder) : AlarmEvent s (s.makeTick order) := by
  obtain ⟨first, last, blocks, early, late⟩ := tickBlocks_alarm order
  let c := s.tickCounted
  have whole : s.makeTick order
      = last.foldl (State.blockTick c) (first.foldl (State.blockTick c) c).alarmTick := by
    have taken : s.makeTick order = (tickBlocks order).foldl (State.blockTick c) c := rfl
    rw [taken, blocks, List.foldl_append, List.foldl_cons]
    rfl
  rw [whole]
  exact ⟨_, (clock_unheeded s _).trans (foldl_blockTick_unheeded c early c), foldl_blockTick_unheeded c late _⟩

theorem creditSteps_alarmEvent {s : State} {n : Nat} (order : Interleave) (due : s.clock.tickDue n = true) :
    AlarmEvent s (s.creditSteps n order) := by
  have phased := clock_unheeded s (s.clock.advancePhase n)
  obtain ⟨early, -⟩ | ⟨-, credited | credited⟩ := creditSteps_cases s n order
  · rw [due] at early
    cases early
  · rw [credited]
    exact (makeTick_alarmEvent _ _).widen (phased.trans (measure_unheeded _ n)) (.refl _)
  · rw [credited]
    exact (makeTick_alarmEvent _ _).widen phased (measure_unheeded _ n)

theorem loseLine_unheeded (s : State) : Unheeded s s.loseLine :=
  (clock_unheeded s { s.clock with source := .reference, offRun := 0, goodRun := 0 }).trans (post_unheeded _ _)

theorem monitorLine_unheeded (s : State) (gap : Nat) : Unheeded s (s.monitorLine gap) := by
  obtain ⟨-, monitored⟩ | ⟨-, -, lost⟩ | ⟨-, -, monitored⟩ := monitorLine_cases s gap
  · rw [monitored]
    exact clock_unheeded s _
  · rw [lost]
    exact loseLine_unheeded s
  · rw [monitored]
    exact clock_unheeded s _

theorem passTime_alarmEvent {s : State} {e : TimeEvent} (ticks : s.ticksAt e = true) : AlarmEvent s (s.passTime e) := by
  cases e with
  | nextStep gap order =>
    unfold State.ticksAt at ticks
    rw [Bool.and_eq_true, Bool.not_eq_true', beq_iff_eq] at ticks
    obtain ⟨released, phase⟩ := ticks
    have credited := creditSteps_alarmEvent (s := s) (n := 1) order (by simp [ClockUnit.tickDue, phase])
    unfold State.passTime
    cases source : s.clock.source with
    | line =>
      dsimp only
      rw [clockEdge_of_line released gap order source]
      exact credited.widen (.refl s) (monitorLine_unheeded _ gap)
    | reference =>
      dsimp only
      rw [referenceStep_of_reference released order source]
      exact credited
  | gapExpiry order =>
    unfold State.ticksAt at ticks
    rw [Bool.and_eq_true, Bool.and_eq_true, Bool.not_eq_true', beq_iff_eq] at ticks
    obtain ⟨⟨released, line⟩, due⟩ := ticks
    rw [State.passTime, expireGap_of_line released order line]
    exact (creditSteps_alarmEvent order due).widen (.refl s) (loseLine_unheeded _)

/-- The event of a tick, as the alarm unit sees it. -/
theorem run_alarmEvent {s : State} {e : TimeEvent} (ticks : s.ticksAt e = true) : AlarmEvent s (s.run fun s => s.passTime e) := by
  have begun : Unheeded s s.begun := ⟨rfl, rfl, (ZonesKept.refl s).same rfl, fun _ _ => id⟩
  have latched (t : State) : Unheeded t t.latch := ⟨rfl, rfl, (ZonesKept.refl t).same rfl, (latch_still t).posted⟩
  exact (passTime_alarmEvent (s := s.begun) ticks).widen begun (latched _)

end Sys2Proof.Machine
end

section
/-! SUPPORT. The alarm unit's three stages at a tick, each by what it makes of the unit and the zones: the pattern (R145), the
playout watch (R149 to R151), the panel decoder (R136 to R142). -/

namespace Sys2Proof.Machine

/-! ## The pattern (R145) -/

theorem patternStep_alarm (s : State) :
    s.patternStep.alarm = if s.alarm.state = .sounding then s.alarm.stepPattern else s.alarm := by
  unfold State.patternStep
  split <;> rfl

theorem patternStep_frame (s : State) : s.patternStep = { s with alarm := s.patternStep.alarm } := by
  unfold State.patternStep
  split <;> rfl

theorem stepPattern_frame (a : AlarmUnit) : a.stepPattern = { a with
    segment := a.stepPattern.segment, elapsed := a.stepPattern.elapsed, phase := a.stepPattern.phase } := by
  unfold AlarmUnit.stepPattern
  dsimp only
  split <;> rfl

theorem patternStep_alarm_frame (s : State) : s.patternStep.alarm = { s.alarm with
    segment := s.patternStep.alarm.segment, elapsed := s.patternStep.alarm.elapsed, phase := s.patternStep.alarm.phase } := by
  rw [patternStep_alarm]
  split
  · exact stepPattern_frame s.alarm
  · rfl

/-! ## The playout watch (R149 to R151) -/

theorem postSilents_frame (es : List ZoneEntry) (s : State) : es.foldl (fun t e => State.postSilent e t) s
    = { s with control := (es.foldl (fun t e => State.postSilent e t) s).control } := by
  have one (e : ZoneEntry) (t : State) : State.postSilent e t = { t with control := (State.postSilent e t).control } := by
    unfold State.postSilent State.countedFrom
    repeat' split
    all_goals rfl
  induction es generalizing s with
  | nil => rfl
  | cons e es ih =>
    rw [List.foldl_cons, ih, one]

/-- The watch step changes the zones, the notices and, by the fallback evaluation, the alarm unit. -/
theorem watchStep_frame (s : State) : s.watchStep = { s with
    zones := s.zones.map ZoneEntry.stepWatch, control := s.watchStep.control,
    alarm := { s.alarm with fallback := s.watchStep.alarm.fallback } } := by
  unfold State.watchStep
  dsimp only
  split
  · unfold State.evaluateFallback
    split
    · rw [postSilents_frame]
    · rw [postSilents_frame]
  · rw [postSilents_frame]

/-- A zone that falls silent posts SILENT, and COUNTER where its count passes 127 (R37, R149, R150). -/
theorem postSilent_posts {e : ZoneEntry} (s : State) (falls : e.fallsSilent = true) :
    (State.postSilent e s).control.pendingNotices.get 1 = true
      ∧ (e.silentEvents = 127 → (State.postSilent e s).control.pendingNotices.get 7 = true) := by
  have posts := post_posts s .silent
  unfold State.postSilent
  rw [if_pos falls]
  unfold State.countedFrom
  split
  · exact ⟨post_posted _ .counter (by decide) posts, fun _ => post_posts _ .counter⟩
  · next other => exact ⟨posts, fun passes => absurd passes other⟩

theorem postSilents_post {e : ZoneEntry} {es : List ZoneEntry} (mem : e ∈ es) (s : State) (falls : e.fallsSilent = true) :
    let t := es.foldl (fun t e => State.postSilent e t) s
    t.control.pendingNotices.get 1 = true ∧ (e.silentEvents = 127 → t.control.pendingNotices.get 7 = true) := by
  induction es generalizing s with
  | nil => cases mem
  | cons e' es ih =>
    rw [List.foldl_cons]
    obtain rfl | later := List.mem_cons.mp mem
    · obtain ⟨silent, counter⟩ := postSilent_posts s falls
      have kept := ((Still.refl (State.postSilent e s)).postSilents es).posted
      exact ⟨kept 1 (by decide) silent, fun passes => kept 7 (by decide) (counter passes)⟩
    · exact ih later _

theorem stepWatch_of_falls {e : ZoneEntry} (falls : e.fallsSilent = true) :
    e.stepWatch = { e with watch := 0, silent := true, silentEvents := bump e.silentEvents } := if_pos falls

/-- A watch that does not reach 0 changes nothing of the zone's silence. -/
theorem stepWatch_of_stays {e : ZoneEntry} (stays : e.fallsSilent = false) :
    e.stepWatch.silent = e.silent ∧ e.stepWatch.silentEvents = e.silentEvents := by
  unfold ZoneEntry.stepWatch
  rw [if_neg (Bool.eq_false_iff.mp stays)]
  split <;> exact ⟨rfl, rfl⟩

theorem fallsSilent_iff (e : ZoneEntry) : e.fallsSilent = true ↔ e.mapped = true ∧ e.watch = 1 := by
  rw [ZoneEntry.fallsSilent, Bool.and_eq_true, beq_iff_eq]

/-- What a zone that falls silent brings about: its notices, and outside QUIET the line of its group (R149 to R151). -/
theorem watchStep_falls {s : State} {z : Nat} (hz : z < 64) (falls : (s.zone z).fallsSilent = true) :
    s.watchStep.control.pendingNotices.get 1 = true
      ∧ ((s.zone z).silentEvents = 127 → s.watchStep.control.pendingNotices.get 7 = true)
      ∧ ∀ g < 8, s.alarm.state ≠ .quiet → (s.zone z).fallbackGroup = some g → s.watchStep.alarm.fallback.get g = true := by
  have mem : s.zone z ∈ s.zones.cells := by
    rw [State.zone, Bank.get_eq_getElem _ _ hz]
    exact List.getElem_mem _
  let t := s.zones.cells.foldl (fun t e => State.postSilent e t) s.watchFallen
  have stepped : s.watchStep = t.evaluateFallback := if_pos (List.any_eq_true.mpr ⟨_, mem, falls⟩)
  have frame : t = { s.watchFallen with control := t.control } := postSilents_frame s.zones.cells s.watchFallen
  obtain ⟨silent, counter⟩ := postSilents_post mem s.watchFallen falls
  have kept := (Still.refl t).evaluateFallback.posted
  rw [stepped]
  refine ⟨kept 1 (by decide) silent, fun passes => kept 7 (by decide) (counter passes), fun g hg alarmed named => ?_⟩
  have zone : t.zone z = (s.zone z).stepWatch := by
    rw [frame]
    exact Bank.get_map _ s.zones z hz
  have unheard : t.groupUnheard g = true := by
    obtain ⟨mapped, -⟩ := (fallsSilent_iff _).mp falls
    refine (groupUnheard_iff t g).mpr ⟨z, hz, ?_⟩
    rw [zone, stepWatch_of_falls falls]
    exact ⟨mapped, .inl rfl, named⟩
  rw [evaluateFallback_alarm (by rw [frame]; exact alarmed)]
  dsimp only
  rw [Bank.get_ofFn _ g hg, unheard, Bool.or_true]

/-! ## The requests of the decoder (R141) -/

/-- The alarm unit after a silence request. -/
def AlarmUnit.silenced (a : AlarmUnit) : AlarmUnit := { a with state := if a.state = .sounding then .muster else a.state }

theorem silenceRequest_eq (s : State) : s.silenceRequest = { s with alarm := s.alarm.silenced } := by
  unfold State.silenceRequest AlarmUnit.silenced
  split
  · rfl
  · rfl

theorem soundRequest_of_sounding {s : State} (sounds : s.alarm.state = .sounding) :
    s.soundRequest = { s with alarm := { s.alarm with panelAbort := false } } := if_pos sounds

/-- A sound request from QUIET or MUSTER is an entry into SOUNDING (R131, R141). -/
theorem soundRequest_of_other {s : State} (other : s.alarm.state ≠ .sounding) :
    s.soundRequest.alarm = { s.alarm with
        panelAbort := false, segment := 0, elapsed := 0, phase := 0, state := .sounding, source := some .panel,
        entryTick := s.clock.tickCount, fallback := Bank.ofFn 8 fun g => s.alarm.fallback.get g || s.groupUnheard g }
      ∧ s.soundRequest.control.pendingNotices.get 0 = true := by
  let u : State := { s with alarm := { s.alarm with panelAbort := false } }
  have entry : s.soundRequest = u.enterSounding .panel := if_neg other
  rw [entry]
  refine ⟨?_, ?_⟩
  · rw [enterSounding_alarm, alarmRaised_eq]
    rfl
  · rw [enterSounding_eq]
    exact alarmHold_posted (by decide) (endAll_raised u .panel).notice

/-! ## The seen line state (R138 to R140) -/

section seen

variable {s : State}

theorem seeLine_idle (idle : s.alarm.decoder = .idle) :
    (s.lineState = .attention → s.seeLine = s.setDecoder .attended attentionWindow)
      ∧ (s.lineState = .silence → s.seeLine = s.silenceRequest)
      ∧ (s.lineState = .sound ∨ s.lineState = .rest → s.seeLine = s) := by
  unfold State.seeLine
  rw [idle]
  refine ⟨fun line => by rw [line], fun line => by rw [line], ?_⟩
  rintro (line | line) <;> rw [line]

theorem seeLine_attended (attended : s.alarm.decoder = .attended) :
    (s.lineState = .sound → s.seeLine = (s.setDecoder .latched 0).soundRequest)
      ∧ (s.lineState = .rest → s.seeLine = (s.setDecoder .idle 0).abortPanel)
      ∧ (s.lineState = .silence → s.seeLine = s.silenceRequest)
      ∧ (s.lineState = .attention → s.seeLine = s) := by
  unfold State.seeLine
  rw [attended]
  exact ⟨fun line => by rw [line], fun line => by rw [line], fun line => by rw [line], fun line => by rw [line]⟩

theorem seeLine_latched (latched : s.alarm.decoder = .latched) :
    (s.lineState = .rest → s.seeLine = s.setDecoder .idle 0)
      ∧ (s.lineState = .silence → s.seeLine = s.silenceRequest)
      ∧ (s.lineState = .sound ∨ s.lineState = .attention → s.seeLine = s) := by
  unfold State.seeLine
  rw [latched]
  refine ⟨fun line => by rw [line], fun line => by rw [line], ?_⟩
  rintro (line | line) <;> rw [line]

theorem seeLine_silence (line : s.lineState = .silence) : s.seeLine = s.silenceRequest := by
  unfold State.seeLine
  rw [line]
  cases s.alarm.decoder <;> rfl

end seen

/-! ## What the decoder leaves of the pattern and the lines -/

/-- The unit's table stands, no line is released, and in SOUNDING the pattern stands. -/
structure AlarmUnit.Steady (a b : AlarmUnit) : Prop where
  holdCount : b.holdCount = a.holdCount
  segments : b.segments = a.segments
  patternLength : b.patternLength = a.patternLength
  fallback : ∀ g < 8, a.fallback.get g = true → b.fallback.get g = true
  pattern : a.state = .sounding → b.segment = a.segment ∧ b.elapsed = a.elapsed ∧ b.phase = a.phase

/-- A change of the decoder, the window, the flag and the state alone. -/
theorem AlarmUnit.Steady.quiet {a b : AlarmUnit} (same : b = { a with
    decoder := b.decoder, window := b.window, panelAbort := b.panelAbort, state := b.state }) : a.Steady b := by
  rw [same]
  exact ⟨rfl, rfl, rfl, fun _ _ => id, fun _ => ⟨rfl, rfl, rfl⟩⟩

theorem soundRequest_steady (s : State) : s.alarm.Steady s.soundRequest.alarm := by
  by_cases sounds : s.alarm.state = .sounding
  · rw [soundRequest_of_sounding sounds]
    exact .quiet rfl
  · rw [(soundRequest_of_other sounds).1]
    refine ⟨rfl, rfl, rfl, fun g hg asserted => ?_, fun sounds' => absurd sounds' sounds⟩
    dsimp only
    rw [Bank.get_ofFn _ g hg, asserted, Bool.true_or]

theorem seeLine_steady (s : State) : s.alarm.Steady s.seeLine.alarm := by
  have silenced : s.alarm.Steady s.silenceRequest.alarm := by
    rw [silenceRequest_eq]
    exact .quiet rfl
  unfold State.seeLine
  split
  · exact .quiet rfl
  · exact silenced
  · exact .quiet rfl
  · exact .quiet rfl
  · have sounded := soundRequest_steady (s.setDecoder .latched 0)
    exact ⟨sounded.holdCount, sounded.segments, sounded.patternLength, sounded.fallback, sounded.pattern⟩
  · exact .quiet rfl
  · exact silenced
  · exact .quiet rfl
  · exact .quiet rfl
  · exact silenced
  · exact .quiet rfl
  · exact .quiet rfl

theorem seeLine_zonesKept (s : State) : ZonesKept s s.seeLine := by
  have same {t : State} (zones : t.zones = s.zones) : ZonesKept s t := (ZonesKept.refl s).same zones
  have silenced : ZonesKept s s.silenceRequest := same (by rw [silenceRequest_eq])
  unfold State.seeLine
  split
  · exact same rfl
  · exact silenced
  · exact same rfl
  · exact same rfl
  · unfold State.soundRequest
    dsimp only
    split
    · exact same rfl
    · refine ZonesKept.enterSounding ?_ _
      exact same rfl
  · exact same rfl
  · exact silenced
  · exact same rfl
  · exact same rfl
  · exact silenced
  · exact same rfl
  · exact same rfl

/-! ## The hold count (R137) -/

/-- The 20th tick of a line state: it is seen. -/
def State.heldOut (s : State) : State := { s with alarm := { s.alarm with holdCount := 20 } }

theorem countHold_of_due {s : State} (due : s.alarm.holdCount = 19) : s.countHold = s.heldOut.seeLine := by
  unfold State.countHold State.heldOut
  dsimp only
  rw [due]
  rfl

/-- The hold count after a tick. -/
def AlarmUnit.held (a : AlarmUnit) : Nat := if a.holdCount < 20 then a.holdCount + 1 else a.holdCount

theorem countHold_alarm_of_rests {s : State} (rests : s.panelRests = true) :
    s.countHold.alarm = { s.alarm with holdCount := s.alarm.held } := by
  rw [countHold_of_rests (by simpa [State.panelRests] using rests)]
  unfold AlarmUnit.held
  split <;> rfl

theorem countHold_holdCount (s : State) : s.countHold.alarm.holdCount = s.alarm.held := by
  cases rests : s.panelRests with
  | true => rw [countHold_alarm_of_rests rests]
  | false =>
    have due : s.alarm.holdCount = 19 := by simpa [State.panelRests] using rests
    rw [countHold_of_due due, (seeLine_steady _).holdCount, AlarmUnit.held, due]
    rfl

/-- ATTENDED goes on with its window as it is, unless a SOUND or a REST is seen (R139). -/
theorem countHold_attended {s : State} (attended : s.alarm.decoder = .attended)
    (unended : s.panelRests = true ∨ s.lines.panelA ≠ s.lines.panelB) :
    s.countHold.alarm.decoder = .attended ∧ s.countHold.alarm.window = s.alarm.window := by
  cases rests : s.panelRests with
  | true =>
    rw [countHold_alarm_of_rests rests]
    exact ⟨attended, rfl⟩
  | false =>
    have apart := unended.resolve_left (by rw [rests]; exact nofun)
    have due : s.alarm.holdCount = 19 := by simpa [State.panelRests] using rests
    obtain ⟨-, -, silence, attention⟩ := seeLine_attended (s := s.heldOut) attended
    rw [countHold_of_due due]
    have line : s.heldOut.lineState = lineStateOf s.lines.panelA s.lines.panelB := rfl
    cases a : s.lines.panelA <;> cases b : s.lines.panelB <;> rw [a, b] at line
    · exact absurd (a.trans b.symm) apart
    · rw [attention line]
      exact ⟨attended, rfl⟩
    · rw [silence line, silenceRequest_eq]
      exact ⟨attended, rfl⟩
    · exact absurd (a.trans b.symm) apart

/-! ## The decoder step (R137, R139) -/

/-- The alarm unit after a tick of the attention window. -/
def AlarmUnit.windowCounted (a : AlarmUnit) : AlarmUnit :=
  if a.window ≤ 1 then { a with decoder := .idle, window := 0, panelAbort := true } else { a with window := a.window - 1 }

theorem countWindow_eq (s : State) : s.countWindow = { s with alarm := s.alarm.windowCounted } := by
  unfold State.countWindow AlarmUnit.windowCounted
  split <;> rfl

theorem windowCounted_frame (a : AlarmUnit) : a.windowCounted = { a with
    decoder := a.windowCounted.decoder, window := a.windowCounted.window, panelAbort := a.windowCounted.panelAbort } := by
  unfold AlarmUnit.windowCounted
  split <;> rfl

theorem decoderStep_of_attended {s : State} (before : s.alarm.decoder = .attended)
    (after : s.countHold.alarm.decoder = .attended) :
    s.decoderStep = { s.countHold with alarm := s.countHold.alarm.windowCounted } :=
  (if_pos ⟨before, after⟩).trans (countWindow_eq _)

theorem decoderStep_of_other {s : State} (other : ¬ (s.alarm.decoder = .attended ∧ s.countHold.alarm.decoder = .attended)) :
    s.decoderStep = s.countHold := if_neg other

/-- The decoder step is the hold count's, then at most the window's. -/
theorem decoderStep_alarm_cases (s : State) : s.decoderStep = s.countHold
    ∨ s.decoderStep = { s.countHold with alarm := s.countHold.alarm.windowCounted } := by
  by_cases both : s.alarm.decoder = .attended ∧ s.countHold.alarm.decoder = .attended
  · exact .inr (decoderStep_of_attended both.1 both.2)
  · exact .inl (decoderStep_of_other both)

theorem decoderStep_alarm_frame (s : State) : s.decoderStep.alarm = { s.countHold.alarm with
    decoder := s.decoderStep.alarm.decoder, window := s.decoderStep.alarm.window,
    panelAbort := s.decoderStep.alarm.panelAbort } := by
  obtain same | counted := decoderStep_alarm_cases s
  · rw [same]
  · rw [counted]
    exact windowCounted_frame _

theorem decoderStep_zonesKept (s : State) : ZonesKept s s.decoderStep := by
  have held : ZonesKept s s.countHold := by
    unfold State.countHold
    dsimp only
    have counted (n : Nat) : ZonesKept s { s with alarm := { s.alarm with holdCount := n } } := (ZonesKept.refl s).same rfl
    repeat' split
    · exact (counted _).trans (seeLine_zonesKept _)
    · exact counted _
    · exact .refl s
  obtain same | counted := decoderStep_alarm_cases s
  · rw [same]
    exact held
  · rw [counted]
    exact held.same rfl

end Sys2Proof.Machine
end

section
/-! PROOFS. The panel, the pattern and the watch at a tick. -/

namespace Sys2Proof.Machine

/-! ## The alarm unit as the decoder finds it -/

/-- The state the decoder's stage finds at the tick: of the alarm unit, only the pattern's place and the fallback lines have
moved. -/
structure AtDecoder (s w : State) : Prop where
  alarm : w.alarm = { s.alarm with
    segment := w.alarm.segment, elapsed := w.alarm.elapsed, phase := w.alarm.phase, fallback := w.alarm.fallback }
  lines : w.lines = s.lines

theorem atDecoder {s u : State} (found : Unheeded s u) : AtDecoder s u.patternStep.watchStep := by
  have watch := watchStep_frame u.patternStep
  have pattern := patternStep_frame u
  refine ⟨?_, ?_⟩
  · rw [watch, patternStep_alarm_frame u, found.alarm]
  · rw [watch, pattern]
    exact found.lines

/-- The event of a tick ends with the decoder's stage, as far as the alarm unit heeds. -/
theorem run_atDecoder {s : State} {e : TimeEvent} (ticks : s.ticksAt e = true) :
    ∃ w, AtDecoder s w ∧ Unheeded w.decoderStep (s.run fun s => s.passTime e) := by
  obtain ⟨u, found, left⟩ := run_alarmEvent ticks
  exact ⟨_, atDecoder found, left⟩

section

variable {s w : State} (reached : AtDecoder s w)
include reached

theorem AtDecoder.fields : w.alarm.decoder = s.alarm.decoder ∧ w.alarm.holdCount = s.alarm.holdCount
    ∧ w.alarm.window = s.alarm.window ∧ w.alarm.state = s.alarm.state ∧ w.alarm.source = s.alarm.source
    ∧ w.alarm.entryTick = s.alarm.entryTick ∧ w.alarm.panelAbort = s.alarm.panelAbort := by
  rw [reached.alarm]
  exact ⟨rfl, rfl, rfl, rfl, rfl, rfl, rfl⟩

theorem AtDecoder.panelRests (rests : s.panelRests = true) : w.panelRests = true := by
  obtain ⟨-, hold, -⟩ := reached.fields
  unfold State.panelRests
  rw [hold]
  exact rests

theorem AtDecoder.unended (unended : s.panelRests = true ∨ s.lines.panelA ≠ s.lines.panelB) :
    w.panelRests = true ∨ w.lines.panelA ≠ w.lines.panelB := by
  rw [reached.lines]
  exact unended.imp_left reached.panelRests

end

/-- The 20th tick of a line state. -/
theorem lineSeen_of_due {s t : State} (due : s.alarm.holdCount = 19) (held : t.alarm.holdCount = 20) : lineSeen s t = true := by
  unfold lineSeen
  rw [due, held]
  rfl

/-- The tick takes the window from 1 to 0, and neither a SOUND nor a REST is seen at it (R139). -/
theorem windowExpired_of {s : State} {e : TimeEvent} (ticks : s.ticksAt e = true) (attended : s.alarm.decoder = .attended)
    (one : s.alarm.window = 1) (unended : s.alarm.holdCount ≠ 19 ∨ s.lines.panelA ≠ s.lines.panelB) :
    windowExpired s (s.run fun s => s.passTime e) = true := by
  have unseen : ¬ (lineSeen s (s.run fun s => s.passTime e) = true ∧ (s.lineState = .rest ∨ s.lineState = .sound)) := by
    rintro ⟨seen, ends⟩
    obtain unheld | apart := unended
    · rw [lineSeen, Bool.and_eq_true, beq_iff_eq] at seen
      exact unheld seen.1
    · unfold State.lineState at ends
      cases a : s.lines.panelA <;> cases b : s.lines.panelB <;> rw [a, b] at ends apart
      · exact apart rfl
      · exact absurd ends (by decide)
      · exact absurd ends (by decide)
      · exact apart rfl
  unfold windowExpired
  simpa [attended, one, tickMade_of_ticks ticks, imp_iff_not_or] using unseen

/-! ## A seen line state, by the decoder's state (R138 to R140) -/

theorem seen_of_unattended {w : State} (due : w.alarm.holdCount = 19) (unattended : w.alarm.decoder ≠ .attended) :
    w.decoderStep = w.heldOut.seeLine :=
  (decoderStep_of_other fun both => unattended both.1).trans (countHold_of_due due)

/-- A SOUND or a REST ends ATTENDED, and its window with it (R139). -/
theorem seen_of_ended {w : State} (due : w.alarm.holdCount = 19) (ended : w.heldOut.seeLine.alarm.decoder ≠ .attended) :
    w.decoderStep = w.heldOut.seeLine := by
  rw [← countHold_of_due due] at ended ⊢
  exact decoderStep_of_other fun both => ended both.2

theorem soundRequest_decoder (s : State) :
    s.soundRequest.alarm.decoder = s.alarm.decoder ∧ s.soundRequest.alarm.window = s.alarm.window
      ∧ s.soundRequest.alarm.state = .sounding ∧ s.soundRequest.alarm.panelAbort = false := by
  by_cases sounds : s.alarm.state = .sounding
  · rw [soundRequest_of_sounding sounds]
    exact ⟨rfl, rfl, sounds, rfl⟩
  · rw [(soundRequest_of_other sounds).1]
    exact ⟨rfl, rfl, rfl, rfl⟩

/-- A SOUND seen in ATTENDED (R139, R141). -/
theorem seen_sound {w : State} (due : w.alarm.holdCount = 19) (attended : w.alarm.decoder = .attended)
    (line : w.lineState = .sound) : let t := w.decoderStep
    t.alarm.decoder = .latched ∧ t.alarm.window = 0 ∧ t.alarm.state = .sounding ∧ t.alarm.panelAbort = false
      ∧ (w.alarm.state ≠ .sounding → t.alarm.source = some .panel ∧ t.control.pendingNotices.get 0 = true)
      ∧ (w.alarm.state = .sounding → t.alarm.source = w.alarm.source ∧ t.alarm.entryTick = w.alarm.entryTick) := by
  let u := w.heldOut.setDecoder .latched 0
  have seen : w.heldOut.seeLine = u.soundRequest := (seeLine_attended (s := w.heldOut) attended).1 line
  obtain ⟨decoder, window, state, abort⟩ := soundRequest_decoder u
  have stepped : w.decoderStep = u.soundRequest := by
    rw [← seen]
    refine seen_of_ended due ?_
    rw [seen, decoder]
    exact nofun
  dsimp only
  rw [stepped]
  refine ⟨decoder, window, state, abort, fun other => ?_, fun sounds => ?_⟩
  · obtain ⟨alarm, posted⟩ := soundRequest_of_other (s := u) other
    rw [alarm]
    exact ⟨rfl, posted⟩
  · rw [soundRequest_of_sounding (s := u) sounds]
    exact ⟨rfl, rfl⟩

/-- A REST seen in ATTENDED (R139). -/
theorem seen_rest {w : State} (due : w.alarm.holdCount = 19) (attended : w.alarm.decoder = .attended)
    (line : w.lineState = .rest) : w.decoderStep = (w.heldOut.setDecoder .idle 0).abortPanel := by
  obtain ⟨-, rest, -⟩ := seeLine_attended (s := w.heldOut) attended
  have seen := rest line
  rw [← seen]
  refine seen_of_ended due ?_
  rw [seen]
  exact nofun

/-- A SILENCE seen in any decoder state is a silence request, and leaves the decoder but for ATTENDED's window (R138 to R141). -/
theorem seen_silence {w : State} (due : w.alarm.holdCount = 19) (line : w.lineState = .silence) :
    w.decoderStep.alarm.state = w.alarm.silenced.state
      ∧ (w.alarm.decoder ≠ .attended → w.decoderStep.alarm.decoder = w.alarm.decoder) := by
  have seen := seeLine_silence (s := w.heldOut) line
  refine ⟨?_, fun unattended => ?_⟩
  · rw [decoderStep_alarm_frame, countHold_of_due due, seen, silenceRequest_eq]
    rfl
  · rw [seen_of_unattended due unattended, seen, silenceRequest_eq]
    rfl

theorem seen_idle {w : State} (due : w.alarm.holdCount = 19) (idle : w.alarm.decoder = .idle) :
    let a := w.decoderStep.alarm
    (w.lineState = .attention → a.decoder = .attended ∧ a.window = 3000 ∧ a.state = w.alarm.state)
      ∧ (w.lineState = .silence → a.decoder = .idle ∧ a.state = w.alarm.silenced.state)
      ∧ (w.lineState = .sound ∨ w.lineState = .rest → a.decoder = .idle ∧ a.state = w.alarm.state) := by
  have unattended : w.alarm.decoder ≠ .attended := by rw [idle]; exact nofun
  obtain ⟨attention, -, others⟩ := seeLine_idle (s := w.heldOut) idle
  dsimp only
  refine ⟨fun line => ?_, fun line => ?_, fun line => ?_⟩
  · rw [seen_of_unattended due unattended, attention line]
    exact ⟨rfl, rfl, rfl⟩
  · obtain ⟨state, decoder⟩ := seen_silence due line
    exact ⟨(decoder unattended).trans idle, state⟩
  · rw [seen_of_unattended due unattended, others line]
    exact ⟨idle, rfl⟩

theorem seen_latched {w : State} (due : w.alarm.holdCount = 19) (latched : w.alarm.decoder = .latched) :
    let a := w.decoderStep.alarm
    (w.lineState = .rest → a.decoder = .idle ∧ a.state = w.alarm.state)
      ∧ (w.lineState = .silence → a.decoder = .latched ∧ a.state = w.alarm.silenced.state)
      ∧ (w.lineState = .sound ∨ w.lineState = .attention → a.decoder = .latched ∧ a.state = w.alarm.state) := by
  have unattended : w.alarm.decoder ≠ .attended := by rw [latched]; exact nofun
  obtain ⟨rest, -, others⟩ := seeLine_latched (s := w.heldOut) latched
  dsimp only
  refine ⟨fun line => ?_, fun line => ?_, fun line => ?_⟩
  · rw [seen_of_unattended due unattended, rest line]
    exact ⟨rfl, rfl⟩
  · obtain ⟨state, decoder⟩ := seen_silence due line
    exact ⟨(decoder unattended).trans latched, state⟩
  · rw [seen_of_unattended due unattended, others line]
    exact ⟨latched, rfl⟩

/-- An ATTENTION seen in ATTENDED asks for nothing (R139). -/
theorem seen_attention {w : State} (due : w.alarm.holdCount = 19) (attended : w.alarm.decoder = .attended)
    (line : w.lineState = .attention) : w.decoderStep.alarm.state = w.alarm.state := by
  obtain ⟨-, -, -, attention⟩ := seeLine_attended (s := w.heldOut) attended
  rw [decoderStep_alarm_frame, countHold_of_due due, attention line]
  rfl

/-! ## The unit after the event of a tick (R137, R139) -/

section event

variable {s : State} {e : TimeEvent} (ticks : s.ticksAt e = true)
include ticks

theorem run_held : (s.run fun s => s.passTime e).alarm.holdCount = s.alarm.held := by
  obtain ⟨w, reached, left⟩ := run_atDecoder ticks
  obtain ⟨-, hold, -⟩ := reached.fields
  rw [left.alarm, decoderStep_alarm_frame, countHold_holdCount, AlarmUnit.held, hold]
  rfl

/-- With no SOUND and no REST seen, ATTENDED counts its window. -/
theorem run_attended (attended : s.alarm.decoder = .attended)
    (unended : s.panelRests = true ∨ s.lines.panelA ≠ s.lines.panelB) : let t := s.run fun s => s.passTime e
    (s.alarm.window ≤ 1 → t.alarm.decoder = .idle ∧ t.alarm.window = 0 ∧ t.alarm.panelAbort = true)
      ∧ (1 < s.alarm.window → t.alarm.decoder = .attended ∧ t.alarm.window = s.alarm.window - 1) := by
  obtain ⟨w, reached, left⟩ := run_atDecoder ticks
  obtain ⟨decoder, -, window, -⟩ := reached.fields
  obtain ⟨stays, same⟩ := countHold_attended (decoder.trans attended) (reached.unended unended)
  rw [window] at same
  dsimp only
  rw [left.alarm, decoderStep_of_attended (decoder.trans attended) stays]
  dsimp only
  unfold AlarmUnit.windowCounted
  rw [same]
  refine ⟨fun last => ?_, fun more => ?_⟩
  · rw [if_pos last]
    exact ⟨rfl, rfl, rfl⟩
  · rw [if_neg (Nat.not_le.mpr more)]
    exact ⟨stays, rfl⟩

/-- At a tick at which nothing is seen the decoder's stage moves the hold count, and in ATTENDED the window. -/
theorem run_rests (rests : s.panelRests = true) : let t := s.run fun s => s.passTime e
    t.alarm.state = s.alarm.state ∧ t.alarm.source = s.alarm.source ∧ t.alarm.entryTick = s.alarm.entryTick
      ∧ (s.alarm.decoder ≠ .attended → t.alarm.decoder = s.alarm.decoder ∧ t.alarm.window = s.alarm.window)
      ∧ (¬ (s.alarm.decoder = .attended ∧ s.alarm.window ≤ 1) → t.alarm.panelAbort = s.alarm.panelAbort) := by
  obtain ⟨w, reached, left⟩ := run_atDecoder ticks
  obtain ⟨decoder, -, window, state, source, entryTick, abort⟩ := reached.fields
  have counted := countHold_alarm_of_rests (reached.panelRests rests)
  have unattended (other : s.alarm.decoder ≠ .attended) : w.decoderStep = w.countHold :=
    decoderStep_of_other fun both => other (decoder.symm.trans both.1)
  dsimp only
  rw [left.alarm]
  refine ⟨?_, ?_, ?_, fun other => ?_, fun more => ?_⟩
  · rw [decoderStep_alarm_frame, counted]
    exact state
  · rw [decoderStep_alarm_frame, counted]
    exact source
  · rw [decoderStep_alarm_frame, counted]
    exact entryTick
  · rw [unattended other, counted]
    exact ⟨decoder, window⟩
  · obtain same | goes := decoderStep_alarm_cases w
    · rw [same, counted]
      exact abort
    · by_cases attended : s.alarm.decoder = .attended
      · rw [goes, counted]
        have more : ¬ w.alarm.window ≤ 1 := fun last => more ⟨attended, window ▸ last⟩
        exact (congrArg AlarmUnit.panelAbort (if_neg more)).trans abort
      · rw [unattended attended, counted]
        exact abort

end event

/-- Settles O44: the event of a tick ends with the decoder's stage as far as the alarm unit heeds (`run_atDecoder`), and the stage
goes by the seen line state, the hold count and the window. -/
theorem panelDecoderByItsTables : Obligations.PanelDecoderByItsTables := by
  refine ⟨fun s a b => ?_, fun s e ticks due => ?_, fun s e ticks attended one unended => ?_, fun s e ticks => ?_⟩
  · have same : lineStateOf a b = s.lineState ↔ a = s.lines.panelA ∧ b = s.lines.panelB := by
      unfold State.lineState
      cases a <;> cases b <;> cases s.lines.panelA <;> cases s.lines.panelB <;> decide
    have event {t : State} (changed : s.begun.changePanel a b = t) : exec (.panelLineChange a b) s = .next t.latch :=
      congrArg (fun t : State => Host.Outcome.next t.latch) changed
    exact ⟨fun stands => event (if_pos (same.mpr stands)), fun moves => event (if_neg (mt same.mp moves))⟩
  · obtain ⟨w, reached, left⟩ := run_atDecoder ticks
    obtain ⟨decoder, hold, -, state, source, entryTick, -⟩ := reached.fields
    have dueW := hold.trans due
    have line : w.lineState = lineStateOf s.lines.panelA s.lines.panelB := by rw [State.lineState, reached.lines]
    have held : (s.run fun s => s.passTime e).alarm.holdCount = 20 := by
      rw [run_held ticks, AlarmUnit.held, due]
      rfl
    refine ⟨_, congrArg Host.Outcome.next (runIf_of_due (lineSeen_of_due due held)), held, ?_⟩
    rw [left.alarm, ← source, ← entryTick, ← state]
    cases was : s.alarm.decoder with
    | idle =>
      obtain ⟨attention, silence, others⟩ := seen_idle dueW (decoder.trans was)
      cases a : s.lines.panelA <;> cases b : s.lines.panelB <;> rw [a, b] at line
      · exact others (.inl line)
      · exact attention line
      · exact silence line
      · exact others (.inr line)
    | attended =>
      have attendedW := decoder.trans was
      cases a : s.lines.panelA <;> cases b : s.lines.panelB <;> rw [a, b] at line
      · obtain ⟨latched, window, sounds, abort, entered, stood⟩ := seen_sound dueW attendedW line
        exact ⟨latched, window, sounds, abort, fun other => (entered other).imp_right (left.posted 0 (by decide)), stood⟩
      · exact seen_attention dueW attendedW line
      · exact (seen_silence dueW line).1
      · rw [seen_rest dueW attendedW line]
        exact ⟨rfl, rfl, rfl, rfl⟩
    | latched =>
      obtain ⟨rest, silence, others⟩ := seen_latched dueW (decoder.trans was)
      cases a : s.lines.panelA <;> cases b : s.lines.panelB <;> rw [a, b] at line
      · exact others (.inl line)
      · exact others (.inr line)
      · exact silence line
      · exact rest line
  · have expires := (run_attended ticks attended (unended.imp_left bne_iff_ne.mpr)).1 one.le
    exact ⟨_, congrArg Host.Outcome.next (runIf_of_due (windowExpired_of ticks attended one unended)), expires⟩
  · have held := run_held ticks
    refine ⟨_, congrArg Host.Outcome.next (runIf_of_due (tickMade_of_ticks ticks)), fun below => held.trans (if_pos below),
      fun above => held.trans (if_neg (Nat.not_lt.mpr above)),
      fun attended more unended => (run_attended ticks attended unended).2 more,
      fun rests other => ?_, fun rests more => ?_, fun rests => ?_⟩
    · obtain ⟨-, -, -, stands, -⟩ := run_rests ticks rests
      exact stands other
    · obtain ⟨-, -, -, -, stands⟩ := run_rests ticks rests
      exact stands more
    · obtain ⟨state, source, entryTick, -, -⟩ := run_rests ticks rests
      exact ⟨state, source, entryTick⟩

end Sys2Proof.Machine
end

section
/-! PROOFS. The pattern and the zones that fall silent, at a tick. -/

namespace Sys2Proof.Machine

/-! ## The pattern after the event of a tick (R145) -/

/-- The decoder's stage leaves the pattern's table, releases no line, and in SOUNDING leaves the pattern's place (R141). -/
theorem decoderStep_steady (s : State) :
    ({ s.alarm with holdCount := s.alarm.held } : AlarmUnit).Steady s.decoderStep.alarm := by
  have held : ({ s.alarm with holdCount := s.alarm.held } : AlarmUnit).Steady s.countHold.alarm := by
    cases rests : s.panelRests with
    | true =>
      rw [countHold_alarm_of_rests rests]
      exact .quiet rfl
    | false =>
      have due : s.alarm.holdCount = 19 := by simpa [State.panelRests] using rests
      have twenty : s.alarm.held = 20 := by rw [AlarmUnit.held, due]; rfl
      rw [countHold_of_due due, twenty]
      exact seeLine_steady s.heldOut
  rw [decoderStep_alarm_frame]
  exact ⟨held.holdCount, held.segments, held.patternLength, held.fallback, held.pattern⟩

theorem decoderStep_pattern_of_rests {s : State} (rests : s.panelRests = true) :
    s.decoderStep.alarm.segment = s.alarm.segment ∧ s.decoderStep.alarm.elapsed = s.alarm.elapsed
      ∧ s.decoderStep.alarm.phase = s.alarm.phase := by
  rw [decoderStep_alarm_frame, countHold_alarm_of_rests rests]
  exact ⟨rfl, rfl, rfl⟩

/-- The place in the pattern as the decoder's stage finds it. -/
theorem atDecoder_pattern {s u : State} (found : Unheeded s u) :
    let w := u.patternStep.watchStep
    let a := if s.alarm.state = .sounding then s.alarm.stepPattern else s.alarm
    w.alarm.segment = a.segment ∧ w.alarm.elapsed = a.elapsed ∧ w.alarm.phase = a.phase := by
  rw [watchStep_frame u.patternStep, patternStep_alarm u, found.alarm]
  exact ⟨rfl, rfl, rfl⟩

section event

variable {s : State} {e : TimeEvent} (ticks : s.ticksAt e = true)
include ticks

/-- In SOUNDING the pattern steps; where nothing is seen it else stands; its table always stands. -/
theorem run_pattern : let t := s.run fun s => s.passTime e
    (s.alarm.state = .sounding → t.alarm.segment = s.alarm.stepPattern.segment
        ∧ t.alarm.elapsed = s.alarm.stepPattern.elapsed ∧ t.alarm.phase = s.alarm.stepPattern.phase)
      ∧ (s.alarm.state ≠ .sounding → s.panelRests = true → t.alarm.segment = s.alarm.segment
        ∧ t.alarm.elapsed = s.alarm.elapsed ∧ t.alarm.phase = s.alarm.phase)
      ∧ t.alarm.segments = s.alarm.segments ∧ t.alarm.patternLength = s.alarm.patternLength := by
  obtain ⟨u, found, left⟩ := run_alarmEvent ticks
  let w := u.patternStep.watchStep
  have reached : AtDecoder s w := atDecoder found
  have steady := decoderStep_steady w
  have alarm : (s.run fun s => s.passTime e).alarm = w.decoderStep.alarm := left.alarm
  dsimp only
  rw [alarm]
  refine ⟨fun sounds => ?_, fun other rests => ?_, ?_, ?_⟩
  · obtain ⟨segment, elapsed, phase⟩ := steady.pattern (by rw [reached.alarm]; exact sounds)
    obtain ⟨stepped, risen, advanced⟩ := atDecoder_pattern found
    rw [if_pos sounds] at stepped risen advanced
    exact ⟨segment.trans stepped, elapsed.trans risen, phase.trans advanced⟩
  · obtain ⟨segment, elapsed, phase⟩ := decoderStep_pattern_of_rests (reached.panelRests rests)
    obtain ⟨segment', elapsed', phase'⟩ := atDecoder_pattern found
    rw [if_neg other] at segment' elapsed' phase'
    exact ⟨segment.trans segment', elapsed.trans elapsed', phase.trans phase'⟩
  · rw [steady.segments, reached.alarm]
  · rw [steady.patternLength, reached.alarm]

/-! ## A zone after the event of a tick (R149 to R151) -/

/-- A zone's watch steps, among changes of its binding and its level. -/
theorem run_zone {z : Nat} (hz : z < 64) :
    ∃ x, (s.zone z).SameButSound x ∧ x.stepWatch.SameButSound ((s.run fun s => s.passTime e).zone z) := by
  obtain ⟨u, found, left⟩ := run_alarmEvent ticks
  have stepped : u.patternStep.watchStep.zone z = (u.zone z).stepWatch := by
    rw [watchStep_frame u.patternStep, patternStep_frame u]
    exact Bank.get_map _ u.zones z hz
  refine ⟨u.zone z, found.zones.zone z hz, ?_⟩
  rw [← stepped]
  exact ((decoderStep_zonesKept _).zone z hz).trans (left.zones.zone z hz)

/-- What a zone brings about that falls silent at the tick. -/
theorem run_falls {z : Nat} (hz : z < 64) (mapped : (s.zone z).mapped = true) (one : (s.zone z).watch = 1) :
    let t := s.run fun s => s.passTime e
    t.control.pendingNotices.get 1 = true
      ∧ ((s.zone z).silentEvents = 127 → t.control.pendingNotices.get 7 = true)
      ∧ ∀ g < 8, s.alarm.state ≠ .quiet → (s.zone z).fallbackGroup = some g → t.alarm.fallback.get g = true := by
  obtain ⟨u, found, left⟩ := run_alarmEvent ticks
  obtain ⟨mapped', watch, -, events, group⟩ := (found.zones.zone z hz).watch
  have zone : u.patternStep.zone z = u.zone z := by rw [patternStep_frame u]; rfl
  have state : u.patternStep.alarm.state = s.alarm.state := by rw [patternStep_alarm_frame u, found.alarm]
  obtain ⟨silent, counter, lines⟩ := watchStep_falls (s := u.patternStep) hz (by
    rw [zone, fallsSilent_iff, mapped', watch]
    exact ⟨mapped, one⟩)
  rw [zone, events] at counter
  rw [zone, group, state] at lines
  have posted := (Still.refl u.patternStep.watchStep).decoderStep.posted
  refine ⟨left.posted 1 (by decide) (posted 1 (by decide) silent),
    fun passes => left.posted 7 (by decide) (posted 7 (by decide) (counter passes)), fun g hg alarmed named => ?_⟩
  rw [left.alarm]
  exact (decoderStep_steady _).fallback g hg (lines g hg alarmed named)

end event

/-- Settles O45: the pattern's place and the zone after the event of a tick (`run_pattern`, `run_zone`), and what a zone that falls
silent brings about (`run_falls`). -/
theorem segmentAdvancesAndZonesFallSilent : Obligations.SegmentAdvancesAndZonesFallSilent := by
  intro s e ticks
  obtain ⟨steps, stands, segments, patternLength⟩ := run_pattern ticks
  refine ⟨fun sounds ends => ?_, ⟨_, congrArg Host.Outcome.next (runIf_of_due (tickMade_of_ticks ticks)), fun sounds goes => ?_,
    stands, segments, patternLength, fun z hz stays => ?_⟩, fun z hz mapped one heard => ?_⟩
  · have due : segmentEnds s (s.run fun s => s.passTime e) = true := by
      unfold segmentEnds
      rw [sounds, ends, tickMade_of_ticks ticks, beq_self_eq_true, beq_self_eq_true]
      rfl
    obtain ⟨segment, elapsed, phase⟩ := steps sounds
    have next : s.alarm.stepPattern = _ := if_pos ends
    rw [next] at segment elapsed phase
    exact ⟨_, congrArg Host.Outcome.next (runIf_of_due due), elapsed, phase, segment⟩
  · have next : s.alarm.stepPattern = _ := if_neg goes
    have stepped := steps sounds
    rw [next] at stepped
    exact stepped
  · obtain ⟨x, before, after⟩ := run_zone ticks hz
    obtain ⟨mapped, watch, silent, events, -⟩ := before.watch
    obtain ⟨-, -, silent', events', -⟩ := after.watch
    obtain ⟨silentStays, eventsStay⟩ := stepWatch_of_stays (e := x) (Bool.eq_false_iff.mpr fun falls => by
      rw [fallsSilent_iff, mapped, watch] at falls
      obtain unmapped | more := stays
      · rw [unmapped] at falls
        exact nomatch falls.1
      · exact more falls.2)
    exact ⟨silent'.trans (silentStays.trans silent), events'.trans (eventsStay.trans events)⟩
  · obtain ⟨x, before, after⟩ := run_zone ticks hz
    obtain ⟨mapped', watch, -, events, -⟩ := before.watch
    obtain ⟨-, watch', silent', events', -⟩ := after.watch
    rw [stepWatch_of_falls ((fallsSilent_iff x).mpr ⟨mapped'.trans mapped, watch.trans one⟩)] at watch' silent' events'
    have due : becameSilent z s (s.run fun s => s.passTime e) = true := by
      unfold becameSilent
      rw [heard, silent']
      rfl
    obtain ⟨posted, counter, lines⟩ := run_falls ticks hz mapped one
    exact ⟨_, congrArg Host.Outcome.next (runIf_of_due due), watch', silent', events'.trans (congrArg bump events), posted,
      counter, lines⟩

end Sys2Proof.Machine
end

section
/-! SUPPORT. The sine series of the tone (R146): how far its nine terms are from the sine at every phase of a quarter cycle, and
that no tone but that of a twelfth cycle comes so near a half that it matters (log 19). -/

namespace Sys2Proof.Machine

/-! ## The series -/

/-- The terms of the sine series, their signs aside. -/
noncomputable def sineTerm (x : ℝ) (k : ℕ) : ℝ := x ^ (2 * k + 1) / (2 * k + 1).factorial

/-- Up to 2 the terms fall: each is the one before it by at most 4 sixths. -/
theorem sineTerm_antitone {x : ℝ} (nonneg : 0 ≤ x) (le_two : x ≤ 2) : Antitone (sineTerm x) := by
  refine antitone_nat_of_succ_le fun k => ?_
  have factorial : ((2 * (k + 1) + 1).factorial : ℝ) = (2 * k + 3) * (2 * k + 2) * (2 * k + 1).factorial := by
    rw [show 2 * (k + 1) + 1 = (2 * k + 1) + 1 + 1 by ring, Nat.factorial_succ, Nat.factorial_succ]
    push_cast
    ring
  have square : x ^ 2 ≤ (2 * k + 3) * (2 * k + 2) := by
    have k_nonneg : (0 : ℝ) ≤ k := Nat.cast_nonneg k
    nlinarith
  have positive : (0 : ℝ) < (2 * k + 1).factorial := Nat.cast_pos.mpr (Nat.factorial_pos _)
  unfold sineTerm
  rw [factorial, div_le_div_iff₀ (by positivity) positive, show 2 * (k + 1) + 1 = (2 * k + 1) + 2 by ring, pow_add]
  have scaled := mul_le_mul_of_nonneg_left square (mul_nonneg (pow_nonneg nonneg (2 * k + 1)) positive.le)
  linarith

/-- The sine is within the first term left out of its series. -/
theorem abs_sin_sub_series_le {x : ℝ} (nonneg : 0 ≤ x) (le_two : x ≤ 2) (n : ℕ) :
    |Real.sin x - ∑ k ∈ Finset.range n, (-1) ^ k * sineTerm x k| ≤ sineTerm x n := by
  have summable : Summable (sineTerm x) :=
    (Real.summable_pow_div_factorial x).comp_injective (i := fun k => 2 * k + 1) fun a b same => by
      have same : 2 * a + 1 = 2 * b + 1 := same
      omega
  have sum : ∑' k, (-1) ^ k * sineTerm x k = Real.sin x :=
    (tsum_congr fun k => (mul_div_assoc _ _ _).symm).trans (Real.hasSum_sin x).tsum_eq
  rw [← sum]
  exact alternating_series_error_bound (sineTerm x) (sineTerm_antitone nonneg le_two) summable n

/-- The model's quotient is the series' first nine terms. -/
theorem series_eq_quotient (n : ℕ) {d : ℕ} (positive : 0 < d) :
    ∑ k ∈ Finset.range 9, (-1 : ℝ) ^ k * sineTerm (n / d) k
      = ((sinePositive n d : ℝ) - sineNegative n d) / sineDenominator d := by
  have nonzero : (d : ℝ) ≠ 0 := Nat.cast_ne_zero.mpr positive.ne'
  simp only [Finset.sum_range_succ, Finset.sum_range_zero, sineTerm, sinePositive, sineNegative, sineDenominator,
    Nat.factorial]
  push_cast
  field_simp
  ring

/-! ## The angle -/

/-- The angle of the model, its π taken from above (log 19). -/
noncomputable def seriesAngle (q : ℕ) : ℝ := (angleNumerator q : ℝ) / angleDenominator

theorem seriesAngle_eq (q : ℕ) : seriesAngle q = 3.14159265358979323847 * (q / 24000) := by
  unfold seriesAngle angleNumerator angleDenominator piNumerator
  push_cast
  ring

theorem quarterCycle_le_half {q : ℕ} (quarter : q ≤ 12000) : (q / 24000 : ℝ) ≤ 1 / 2 := by
  have le : (q : ℝ) ≤ 12000 := by exact_mod_cast quarter
  linarith

theorem seriesAngle_near {q : ℕ} (quarter : q ≤ 12000) : |seriesAngle q - Real.pi * q / 24000| ≤ 1 / 10 ^ 20 := by
  have share_nonneg : (0 : ℝ) ≤ q / 24000 := by positivity
  have share_le := quarterCycle_le_half quarter
  have excess : seriesAngle q - Real.pi * q / 24000 = (3.14159265358979323847 - Real.pi) * (q / 24000) := by
    rw [seriesAngle_eq]
    ring
  have above := Real.pi_lt_d20
  have below := Real.pi_gt_d20
  rw [excess, abs_of_nonneg (mul_nonneg (by linarith) share_nonneg)]
  calc (3.14159265358979323847 - Real.pi) * (q / 24000)
      ≤ 1 / 10 ^ 20 * 1 := mul_le_mul (by linarith) (by linarith) share_nonneg (by norm_num)
    _ = 1 / 10 ^ 20 := mul_one _

/-! ## The model's sine -/

/-- The sine as the model has it: the quotient that the tone is rounded from. -/
noncomputable def seriesSine (q : ℕ) : ℝ :=
  ((sinePositive (angleNumerator q) angleDenominator : ℝ) - sineNegative (angleNumerator q) angleDenominator)
    / sineDenominator angleDenominator

theorem seriesSine_near {q : ℕ} (quarter : q ≤ 12000) :
    |Real.sin (Real.pi * q / 24000) - seriesSine q| ≤ 1 / 10 ^ 12 := by
  let x := seriesAngle q
  have nonneg : 0 ≤ x := div_nonneg (Nat.cast_nonneg _) (Nat.cast_nonneg _)
  have le : x ≤ 1.6 := by
    have share_le := quarterCycle_le_half quarter
    rw [show x = _ from seriesAngle_eq q]
    linarith
  have series : |Real.sin x - seriesSine q| ≤ sineTerm x 9 := by
    have sum := abs_sin_sub_series_le nonneg (le.trans (by norm_num)) 9
    rwa [show ∑ k ∈ Finset.range 9, (-1) ^ k * sineTerm x k = seriesSine q from
      series_eq_quotient (angleNumerator q) (d := angleDenominator) (by decide)] at sum
  have leftOut : sineTerm x 9 ≤ 1.6 ^ 19 / (19).factorial := by
    unfold sineTerm
    gcongr
  have angle := (Real.abs_sin_sub_sin_le (Real.pi * q / 24000) x).trans_eq (abs_sub_comm _ _)
  calc |Real.sin (Real.pi * q / 24000) - seriesSine q|
      ≤ |Real.sin (Real.pi * q / 24000) - Real.sin x| + |Real.sin x - seriesSine q| := abs_sub_le _ _ _
    _ ≤ 1 / 10 ^ 20 + 1.6 ^ 19 / (19).factorial :=
      add_le_add (angle.trans (seriesAngle_near quarter)) (series.trans leftOut)
    _ ≤ 1 / 10 ^ 12 := by norm_num [Nat.factorial]

/-! ## The distance from a half -/

/-- The dividend and the divisor of the tone: twice 8,388,607 times the series, and one, in halves. -/
def toneDividend (q : ℕ) : ℕ :=
  2 * 8388607 * (sinePositive (angleNumerator q) angleDenominator - sineNegative (angleNumerator q) angleDenominator)
    + sineDenominator angleDenominator

def toneDivisor : ℕ := 2 * sineDenominator angleDenominator

theorem quarterTone_eq (q : ℕ) : quarterTone q = toneDividend q / toneDivisor := rfl

/-- The series is no less than 0, and the remainder of the tone's division is at least a hundred-thousandth of the divisor away
from 0 and from the divisor: 8,388,607 times the series is that far from every half. -/
def clearOfHalf (q : ℕ) : Bool :=
  sineNegative (angleNumerator q) angleDenominator ≤ sinePositive (angleNumerator q) angleDenominator
    && toneDivisor ≤ 100000 * (toneDividend q % toneDivisor)
    && 100000 * (toneDividend q % toneDivisor) ≤ 99999 * toneDivisor

/-- Found by the kernel, phase by phase (log 19). -/
theorem clearOfHalf_below : (List.range' 0 4000).all clearOfHalf = true := by decide +kernel

theorem clearOfHalf_above : (List.range' 4001 8000).all clearOfHalf = true := by decide +kernel

theorem clearOfHalf_of_ne {q : ℕ} (quarter : q ≤ 12000) (other : q ≠ 4000) : clearOfHalf q = true := by
  obtain below | above := Nat.lt_or_gt_of_ne other
  · exact List.all_eq_true.mp clearOfHalf_below q (List.mem_range'_1.mpr ⟨Nat.zero_le q, below⟩)
  · exact List.all_eq_true.mp clearOfHalf_above q (List.mem_range'_1.mpr ⟨above, by omega⟩)

/-- The tone is within a half of 8,388,607 times the series, by a hundred-thousandth to spare. -/
theorem quarterTone_near_series {q : ℕ} (clear : clearOfHalf q = true) :
    |8388607 * seriesSine q - quarterTone q| ≤ 1 / 2 - 1 / 100000 := by
  unfold clearOfHalf at clear
  rw [Bool.and_eq_true, Bool.and_eq_true, decide_eq_true_eq, decide_eq_true_eq, decide_eq_true_eq] at clear
  obtain ⟨⟨signs, least⟩, most⟩ := clear
  have positive : (0 : ℝ) < toneDivisor := Nat.cast_pos.mpr (by decide +kernel)
  have division : (toneDivisor : ℝ) * quarterTone q + (toneDividend q % toneDivisor : ℕ) = toneDividend q := by
    rw [quarterTone_eq]
    exact_mod_cast Nat.div_add_mod (toneDividend q) toneDivisor
  have dividend : (toneDividend q : ℝ) = (8388607 * seriesSine q + 1 / 2) * toneDivisor := by
    unfold toneDividend toneDivisor seriesSine
    have nonzero : (sineDenominator angleDenominator : ℝ) ≠ 0 := Nat.cast_ne_zero.mpr (by decide +kernel)
    push_cast [Nat.cast_sub signs]
    field_simp
    ring
  have least : (toneDivisor : ℝ) ≤ 100000 * (toneDividend q % toneDivisor : ℕ) := by exact_mod_cast least
  have most : 100000 * ((toneDividend q % toneDivisor : ℕ) : ℝ) ≤ 99999 * toneDivisor := by exact_mod_cast most
  rw [dividend] at division
  rw [abs_le]
  constructor
  · refine le_of_mul_le_mul_right ?_ positive
    linarith
  · refine le_of_mul_le_mul_right ?_ positive
    linarith

end Sys2Proof.Machine
end

section
/-! PROOFS. The tone is the rounded sine (R146). -/

namespace Sys2Proof.Machine

/-! ## Rounding, halves away from zero -/

/-- The integer nearest to a real; of two, the one further from zero. -/
def RoundsTo (r : ℝ) (t : ℤ) : Prop := |r - t| ≤ 1 / 2 ∧ (|r - t| = 1 / 2 → |r| < |(t : ℝ)|)

theorem roundsTo_of_lt {r : ℝ} {t : ℤ} (near : |r - t| < 1 / 2) : RoundsTo r t :=
  ⟨near.le, fun tie => absurd tie near.ne⟩

theorem RoundsTo.neg {r : ℝ} {t : ℤ} (h : RoundsTo r t) : RoundsTo (-r) (-t) := by
  have distance : |-r - ((-t : ℤ) : ℝ)| = |r - t| := by
    rw [Int.cast_neg, ← abs_neg]
    congr 1
    ring
  unfold RoundsTo
  rw [distance, abs_neg, Int.cast_neg, abs_neg]
  exact h

/-! ## The quarter cycle -/

/-- At a twelfth of a cycle the value is a half, and rounds up. -/
theorem quarterTone_twelfth : RoundsTo (8388607 * Real.sin (Real.pi * (4000 : ℕ) / 24000)) (quarterTone 4000) := by
  have tone : quarterTone 4000 = 4194304 := by decide +kernel
  have sine : Real.sin (Real.pi * (4000 : ℕ) / 24000) = 1 / 2 := by
    rw [← Real.sin_pi_div_six]
    congr 1
    push_cast
    ring
  rw [tone, sine]
  constructor <;> norm_num [abs_of_nonneg, abs_of_neg]

theorem quarterTone_rounds {q : ℕ} (quarter : q ≤ 12000) :
    RoundsTo (8388607 * Real.sin (Real.pi * q / 24000)) (quarterTone q) := by
  by_cases twelfth : q = 4000
  · rw [twelfth]
    exact quarterTone_twelfth
  · refine roundsTo_of_lt ?_
    have series := quarterTone_near_series (clearOfHalf_of_ne quarter twelfth)
    have sine : |8388607 * Real.sin (Real.pi * q / 24000) - 8388607 * seriesSine q| ≤ 8388607 * (1 / 10 ^ 12) := by
      rw [← mul_sub, abs_mul, abs_of_nonneg (by norm_num : (0 : ℝ) ≤ 8388607)]
      exact mul_le_mul_of_nonneg_left (seriesSine_near quarter) (by norm_num)
    rw [Int.cast_natCast]
    calc |8388607 * Real.sin (Real.pi * q / 24000) - quarterTone q|
        ≤ |8388607 * Real.sin (Real.pi * q / 24000) - 8388607 * seriesSine q| + |8388607 * seriesSine q - quarterTone q| :=
          abs_sub_le _ _ _
      _ ≤ 8388607 * (1 / 10 ^ 12) + (1 / 2 - 1 / 100000) := add_le_add sine series
      _ < 1 / 2 := by norm_num

/-! ## The whole cycle -/

/-- The four quarters, by the symmetries of the sine. -/
theorem toneOfPhase_rounds {phase : ℕ} (cycle : phase < 48000) :
    RoundsTo (8388607 * Real.sin (2 * Real.pi * phase / 48000)) (toneOfPhase phase) := by
  have angle : 2 * Real.pi * phase / 48000 = Real.pi * phase / 24000 := by ring
  rw [angle]
  unfold toneOfPhase
  split
  · next quarter => exact quarterTone_rounds quarter
  split
  · next half =>
    have mirrored : Real.pi * (24000 - phase : ℕ) / 24000 = Real.pi - Real.pi * phase / 24000 := by
      rw [Nat.cast_sub half]
      push_cast
      ring
    have rounds := quarterTone_rounds (q := 24000 - phase) (by omega)
    rwa [mirrored, Real.sin_pi_sub] at rounds
  split
  · have shifted : Real.pi * (phase - 24000 : ℕ) / 24000 = Real.pi * phase / 24000 - Real.pi := by
      rw [Nat.cast_sub (by omega)]
      push_cast
      ring
    have rounds := (quarterTone_rounds (q := phase - 24000) (by omega)).neg
    rwa [shifted, Real.sin_sub_pi, mul_neg, neg_neg] at rounds
  · have reflected : Real.pi * (48000 - phase : ℕ) / 24000 = 2 * Real.pi - Real.pi * phase / 24000 := by
      rw [Nat.cast_sub cycle.le]
      push_cast
      ring
    have rounds := (quarterTone_rounds (q := 48000 - phase) (by omega)).neg
    rwa [reflected, Real.sin_two_pi_sub, mul_neg, neg_neg] at rounds

/-- Settles O54: a rest has the tone 0, and any other segment the rounded sine of its phase (`toneOfPhase_rounds`). -/
theorem toneIsTheRoundedSine : Obligations.ToneIsTheRoundedSine := by
  intro a i f phase value
  refine ⟨fun rest => if_pos rest, fun sounds => ?_⟩
  have tone : a.tone i = toneOfPhase phase := if_neg (Nat.pos_iff_ne_zero.mp sounds)
  rw [tone]
  exact toneOfPhase_rounds (Nat.mod_lt _ (by decide))

end Sys2Proof.Machine
end

section
/-! SUPPORT. A sense word scored (R156, R157), and the close of a sense period: the runs, the verdict, what it posts (R158 to R163). -/

namespace Sys2Proof.Machine

/-! ## Scoring -/

theorem signMatches_iff (positive : Bool) (w : Word) : signMatches positive w = true ↔ (positive = true ↔ 0 ≤ sampleOf w) := by
  rw [signMatches, beq_iff_eq, Bool.eq_iff_iff, decide_eq_true_iff]

section

variable {e : ZoneEntry} {i : Nat} {w : WriteWord}

theorem score_of_seen (seen : e.seen.get i = true) : e.score i w = e := if_pos seen

/-- The first write of a position counts a match, which has all lanes enabled and the element's sign (R157). -/
theorem score_of_first (first : e.seen.get i = false) : e.score i w = { e with
    seen := e.seen.set i true,
    tally := if w.lanes = 15#4
        ∧ (pilotPositive e.pilotPattern ((i + 48 - e.senseLag) % 48) = true ↔ 0 ≤ sampleOf w.data)
      then e.tally + 1 else e.tally } := by
  unfold ZoneEntry.score
  rw [if_neg (Bool.eq_false_iff.mp first)]
  simp only [signMatches_iff]

end

theorem setZone_zone (s : State) (z : Nat) : s.setZone z (s.zone z) = s :=
  congrArg (fun zones => { s with zones := zones }) (Bank.set_get s.zones z)

section

variable {s : State} {z : Nat} (offset : Nat) (w : WriteWord)

theorem offerSense_of_noPilot (noPilot : (s.zone z).pilotLevel = 0) : s.offerSense z offset w = s :=
  if_pos noPilot

/-- A sense word under a pilot is scored, and the one at position 47 closes the period (R156, R158). -/
theorem offerSense_of_pilot (pilot : 0 < (s.zone z).pilotLevel) {e : ZoneEntry}
    (scored : (s.zone z).score (offset % 48) w = e) : s.offerSense z offset w
      = if offset % 48 = 47 then (s.setZone z e).closeSense z else s.setZone z e := by
  rw [← scored]
  exact if_neg pilot.ne'

end

/-! ## The zone after its period -/

/-- The runs of a period by its tally (R158, R159). -/
theorem runs_passes (e : ZoneEntry) (threshold : Nat) : e.runs (e.passes threshold) = { e with
    passRun := if threshold ≤ e.tally then min 8 (e.passRun + 1) else 0,
    failRun := if threshold ≤ e.tally then 0 else min 16 (e.failRun + 1) } := by
  unfold ZoneEntry.runs ZoneEntry.passes
  by_cases pass : threshold ≤ e.tally
  · simp only [pass, decide_true, if_true]
  · simp only [pass, decide_false, if_false, Bool.false_eq_true]

theorem closePeriod_verdict (e : ZoneEntry) (threshold : Nat) :
    (e.closePeriod threshold).verdict = (e.runs (e.passes threshold)).judged := rfl

/-- A failed period is counted where the verdict it leads to is FAILING; the count stays at 255 (R37, R163). -/
theorem closePeriod_failingPeriods (e : ZoneEntry) (threshold : Nat) : (e.closePeriod threshold).failingPeriods
    = if (¬ threshold ≤ e.tally ∧ (e.closePeriod threshold).verdict = .failing) ∧ e.failingPeriods < 255
      then e.failingPeriods + 1 else e.failingPeriods := by
  have counted : (e.closePeriod threshold).failingPeriods
      = if (!e.passes threshold) = true ∧ (e.closePeriod threshold).verdict = .failing
        then bump e.failingPeriods else e.failingPeriods := rfl
  rw [counted, ite_and _ (e.failingPeriods < 255)]
  simp only [ZoneEntry.passes, Bool.not_eq_true', decide_eq_false_iff_not]
  rfl

/-- The zone after its period: but for what the verdict and the count come to, the runs of the tally and a new period (R158, R159). -/
theorem closePeriod_eq (e : ZoneEntry) (threshold : Nat) : e.closePeriod threshold = { e with
    tally := 0, seen := Bank.fill 48 false,
    passRun := if threshold ≤ e.tally then min 8 (e.passRun + 1) else 0,
    failRun := if threshold ≤ e.tally then 0 else min 16 (e.failRun + 1),
    verdict := (e.closePeriod threshold).verdict, failingPeriods := (e.closePeriod threshold).failingPeriods } := by
  have fresh : e.closePeriod threshold = { e.runs (e.passes threshold) with
    tally := 0, seen := Bank.fill 48 false,
    verdict := (e.closePeriod threshold).verdict, failingPeriods := (e.closePeriod threshold).failingPeriods } := rfl
  rw [runs_passes] at fresh
  exact fresh

/-! ## What the close posts -/

theorem countedFrom_frame (s : State) (before : Nat) :
    s.countedFrom before = { s with control := (s.countedFrom before).control } := by
  unfold State.countedFrom
  split <;> rfl

theorem evaluateFallback_frame (s : State) : s.evaluateFallback = { s with alarm := s.evaluateFallback.alarm } := by
  unfold State.evaluateFallback
  split <;> rfl

/-- The fallback evaluation reads the alarm unit and the zones alone (R151). -/
theorem evaluateFallback_congr {s t : State} (alarm : t.alarm = s.alarm) (zones : t.zones = s.zones) :
    t.evaluateFallback.alarm = s.evaluateFallback.alarm := by
  unfold State.evaluateFallback State.groupUnheard
  rw [alarm, zones]
  split
  · exact alarm
  · rfl

/-- The state with the closed period stored and a failing one counted, before the verdict's own notice (R158, R163). -/
def State.periodClosed (s : State) (z : Nat) : State :=
  let e := s.zone z
  let t := s.setZone z (e.closePeriod s.control.passThreshold)
  if (e.closePeriod s.control.passThreshold).failingPeriods ≠ e.failingPeriods then t.countedFrom e.failingPeriods else t

theorem periodClosed_frame (s : State) (z : Nat) : s.periodClosed z
    = { s.setZone z ((s.zone z).closePeriod s.control.passThreshold) with control := (s.periodClosed z).control } := by
  unfold State.periodClosed
  dsimp only
  split
  · exact countedFrom_frame _ _
  · rfl

theorem periodClosed_zones (s : State) (z : Nat) :
    (s.periodClosed z).zones = s.zones.set z ((s.zone z).closePeriod s.control.passThreshold) := by
  rw [periodClosed_frame]
  rfl

theorem periodClosed_alarm (s : State) (z : Nat) : (s.periodClosed z).alarm = s.alarm := by
  rw [periodClosed_frame]
  rfl

/-- The count of failing periods posts COUNTER and no other kind (R37). -/
theorem periodClosed_supervision (s : State) (z : Nat) :
    (s.periodClosed z).control.pendingNotices.get 2 = s.control.pendingNotices.get 2 := by
  unfold State.periodClosed State.countedFrom
  dsimp only
  split
  · split
    · exact Bank.get_set_ne _ _ _ _ (by decide) (by decide)
    · rfl
  · rfl

theorem periodClosed_counter {s : State} {z : Nat} (passes : (s.zone z).failingPeriods = 127)
    (counted : ((s.zone z).closePeriod s.control.passThreshold).failingPeriods = 128) :
    (s.periodClosed z).control.pendingNotices.get 7 = true := by
  have rises : s.periodClosed z
      = (s.setZone z ((s.zone z).closePeriod s.control.passThreshold)).countedFrom (s.zone z).failingPeriods :=
    if_pos (by rw [counted, passes]; decide)
  rw [rises, State.countedFrom, if_pos passes]
  exact post_posts _ .counter

section

variable {s : State} {z : Nat}

/-- A period that makes the zone FAILING posts SUPERVISION and has the fallback lines evaluated (R160). -/
theorem closeSense_of_becomes (failing : ((s.zone z).closePeriod s.control.passThreshold).verdict = .failing)
    (fresh : (s.zone z).verdict ≠ .failing) :
    s.closeSense z = ((s.periodClosed z).post .supervision).evaluateFallback := if_pos ⟨failing, fresh⟩

/-- Any other verdict, PASSING among them, posts no notice of its own (R161). -/
theorem closeSense_of_other (other : ¬ (((s.zone z).closePeriod s.control.passThreshold).verdict = .failing
    ∧ (s.zone z).verdict ≠ .failing)) : s.closeSense z = s.periodClosed z := if_neg other

end

theorem closeSense_zones (s : State) (z : Nat) :
    (s.closeSense z).zones = s.zones.set z ((s.zone z).closePeriod s.control.passThreshold) := by
  by_cases becomes : ((s.zone z).closePeriod s.control.passThreshold).verdict = .failing ∧ (s.zone z).verdict ≠ .failing
  · rw [closeSense_of_becomes becomes.1 becomes.2, evaluateFallback_frame]
    exact periodClosed_zones s z
  · rw [closeSense_of_other becomes]
    exact periodClosed_zones s z

/-- A notice that the count has posted stays posted. -/
theorem closeSense_keeps_notice (s : State) (z : Nat) {k : Nat} (hk : k < 9)
    (posted : (s.periodClosed z).control.pendingNotices.get k = true) :
    (s.closeSense z).control.pendingNotices.get k = true := by
  by_cases becomes : ((s.zone z).closePeriod s.control.passThreshold).verdict = .failing ∧ (s.zone z).verdict ≠ .failing
  · rw [closeSense_of_becomes becomes.1 becomes.2]
    exact ((Still.refl (s.periodClosed z)).post .supervision).evaluateFallback.posted k hk posted
  · rwa [closeSense_of_other becomes]

end Sys2Proof.Machine
end

section
/-! PROOFS. Line supervision. -/

namespace Sys2Proof.Machine

/-- Settles O49: the word by the pilot level and the first write of its position; the period by the zone it leaves, and by whether the
verdict becomes FAILING. -/
theorem senseWordsAndVerdict : Obligations.SenseWordsAndVerdict := by
  refine ⟨?word, ?close⟩
  case word =>
    intro s tag addr z offset w accepts region e i good scored close answer
    have row : answer (s.begun.offerSense z offset w) := exec_regionWord accepts region rfl
    refine ⟨fun noPilot => ?_, fun pilot => ?_⟩
    · rw [offerSense_of_noPilot (s := s.begun) offset w noPilot] at row
      exact row
    have taken {e' : ZoneEntry} (scored : e.score i w = e') := offerSense_of_pilot (s := s.begun) offset w pilot scored
    refine ⟨fun seen => ?_, fun first matched => ?_, fun first missed => ?_⟩
    · have kept : s.begun.setZone z e = s.begun := setZone_zone s.begun z
      rw [taken (score_of_seen seen), kept] at row
      exact row
    · rw [taken ((score_of_first first).trans (by rw [if_pos matched]))] at row
      exact row
    · rw [taken ((score_of_first first).trans (by rw [if_neg missed]))] at row
      exact row
  case close =>
    intro s z hz e pass passRun failRun verdict counts becomes t
    have judged : (e.closePeriod s.control.passThreshold).verdict = verdict := by
      rw [closePeriod_verdict, runs_passes]
      rfl
    have count := closePeriod_failingPeriods e s.control.passThreshold
    rw [judged] at count
    have fresh := closePeriod_eq e s.control.passThreshold
    rw [judged, count] at fresh
    have zone : t.zone z = e.closePeriod s.control.passThreshold := by
      rw [State.zone, closeSense_zones, Bank.get_set_self _ _ _ hz]
    refine ⟨zone.trans fresh, (closeSense_frame s z).2, fun ⟨failing, before⟩ => ?_, fun other => ?_, fun counted passes => ?_⟩
    · have posts : t = ((s.periodClosed z).post .supervision).evaluateFallback :=
        closeSense_of_becomes (judged.trans failing) before
      refine ⟨?_, ?_⟩
      · rw [posts, evaluateFallback_frame]
        exact post_posts _ .supervision
      · refine (congrArg State.alarm posts).trans (evaluateFallback_congr (periodClosed_alarm s z) ?_)
        exact (periodClosed_zones s z).trans (closeSense_zones s z).symm
    · have rests : t = s.periodClosed z := closeSense_of_other (by rw [judged]; exact other)
      rw [rests]
      exact ⟨periodClosed_alarm s z, periodClosed_supervision s z⟩
    · refine closeSense_keeps_notice s z (by decide) (periodClosed_counter passes ?_)
      exact count.trans (by rw [passes]; exact if_pos ⟨counted, by decide⟩)

end Sys2Proof.Machine
end

section
/-! SUPPORT. The parts of a zone that levels and ramps are read from (R184, R185), and the works that leave them and the show: the
stream engine's, the intercom engine's, the words offered to the engines. -/

namespace Sys2Proof.Machine

/-! ## The relation -/

/-- What the levels of a zone are read from: whether it is a mapped THEATRE zone, its program gain, its level and its ramp. -/
def ZoneEntry.levels (e : ZoneEntry) : Bool × ZoneKind × Nat × Nat × Nat × Option Ramp :=
  (e.mapped, e.kind, e.programGain, e.level, e.levelTarget, e.ramp)

/-- An act that leaves the show record, and of every zone what its levels are read from. -/
structure SameLevels (s t : State) : Prop where
  theatre : t.theatre = s.theatre
  zone : ∀ z < 64, (t.zone z).levels = (s.zone z).levels

theorem SameLevels.refl (s : State) : SameLevels s s := ⟨rfl, fun _ _ => rfl⟩

theorem SameLevels.trans {s t u : State} (h : SameLevels s t) (k : SameLevels t u) : SameLevels s u :=
  ⟨k.theatre.trans h.theatre, fun z hz => (k.zone z hz).trans (h.zone z hz)⟩

/-- An act on the other parts of the state. -/
theorem SameLevels.quiet {s t : State} (zones : t.zones = s.zones := by rfl) (theatre : t.theatre = s.theatre := by rfl) :
    SameLevels s t := ⟨theatre, fun z _ => by unfold State.zone; rw [zones]⟩

theorem SameLevels.mapZones {s : State} {f : ZoneEntry → ZoneEntry} (same : ∀ e : ZoneEntry, (f e).levels = e.levels) :
    SameLevels s { s with zones := s.zones.map f } :=
  ⟨rfl, fun z hz => (congrArg ZoneEntry.levels (Bank.get_map f s.zones z hz)).trans (same _)⟩

theorem SameLevels.setZone {s : State} {z : Nat} {e : ZoneEntry} (same : e.levels = (s.zone z).levels) :
    SameLevels s (s.setZone z e) :=
  ⟨rfl, fun y hy => by
    rw [zone_setZone s z y e hy]
    split
    · next here => exact here ▸ same
    · rfl⟩

theorem SameLevels.forEach {f : Nat → State → State} {ns : List Nat} (turns : ∀ n t, SameLevels t (f n t)) (s : State) :
    SameLevels s (s.forEach ns f) :=
  forEach_keeps (P := SameLevels s) (fun n _ t ht => ht.trans (turns n t)) (.refl s)

theorem SameButStreams.levels {s t : State} (h : SameButStreams s t) : SameLevels s t := .quiet h.zones h.theatre

/-! ## The stream engine -/

theorem startStream_levels (s : State) (n : Nat) (owner : StreamOwner) (priority : Nat) (source : StartSource) (zs : List Nat) :
    SameLevels s (s.startStream n owner priority source zs) where
  theatre := (startStream_same s n owner priority source zs).2.2.2.1
  zone z hz := by
    have seated : (s.startStream n owner priority source zs).zone z = (s.seated n owner priority source zs).zone z := by
      rw [startStream_frame]; rfl
    rw [seated, seated_zone s owner priority source zs hz]
    split <;> rfl

theorem setStream_levels (s : State) (n : Nat) (r : StreamRecord) : SameLevels s (s.setStream n r) := .quiet

theorem endStream_levels (cause : EndCause) (n : Nat) (s : State) : SameLevels s (s.endStream cause n) :=
  (endStream_same cause n s).levels

theorem fetch_levels (n : Nat) (s : State) : SameLevels s (s.fetch n) := by
  rw [fetch_frame]
  exact .quiet

theorem freeIfDrained_levels (n : Nat) (s : State) : SameLevels s (s.freeIfDrained n) := by
  rw [freeIfDrained_frame]
  exact .quiet

theorem pageWatch_levels (n : Nat) (s : State) : SameLevels s (s.pageWatch n) := by
  unfold State.pageWatch
  dsimp only
  repeat' split
  · exact (setStream_levels s n _).trans (endStream_levels _ n _)
  · exact setStream_levels s n _
  · exact .refl s

theorem unbindAll_levels (n : Nat) (s : State) : SameLevels s (s.unbindAll n) := .mapZones fun e => by split <;> rfl

theorem tickRecord_levels (before : State) (n : Nat) (s : State) : SameLevels s (State.tickRecord before n s) := by
  have set := setStream_levels s n
  unfold State.tickRecord
  split
  · exact .refl s
  · split
    · unfold State.tickStarting
      dsimp only
      split
      · exact (set _).trans (endStream_levels _ n _)
      · exact (set _).trans (pageWatch_levels n _)
    · exact .refl s
  · unfold State.tickPlaying
    dsimp only
    split
    · exact (set _).trans (endStream_levels _ n _)
    · exact (((set _).trans (setStream_levels _ n _)).trans (pageWatch_levels n _)).trans (fetch_levels n _)
  · exact .refl s
  · split
    · exact ((set _).trans (unbindAll_levels n _)).trans (freeIfDrained_levels n _)
    · exact .refl s

theorem streamTick_levels (before s : State) : SameLevels s (State.streamTick before s) := by
  have released (t : State) : SameLevels t t.releaseBusy := .quiet
  unfold State.streamTick
  exact (SameLevels.forEach (tickRecord_levels before) s).trans (released _)

theorem ownResponse_levels (s : State) (k : Nat) (r : OwnRequest) (status : MemStatus) (words : List Word) :
    SameLevels s (s.ownResponse k r status words) := by
  have freed : SameLevels s { s with transit := { s.transit with ownTags := s.transit.ownTags.set k none } } := .quiet
  have released (t : State) : SameLevels t t.releaseBusy := .quiet
  unfold State.ownResponse State.ownData
  dsimp only
  repeat' split
  · exact freed.trans (endStream_levels _ _ _)
  · exact freed.trans ((setStream_levels _ _ _).trans (fetch_levels _ _))
  · exact freed.trans ((freeIfDrained_levels _ _).trans (released _))

/-! ## The intercom engine, and the words of the rings -/

theorem intercomTick_levels (s : State) : SameLevels s s.intercomTick := by
  have offered (g : Nat) (t : State) : SameLevels t (State.offerGroup g t) := by
    rw [show State.offerGroup g t = _ from offerGroup_frame g t]
    exact .quiet
  have swapped : SameLevels s s.swapIntercom := .quiet
  have released (t : State) : SameLevels t { t with control := { t.control with busyIntercom := false } } := .quiet
  unfold State.intercomTick
  exact (swapped.trans (.forEach offered _)).trans (released _)

theorem score_levels (e : ZoneEntry) (i : Nat) (w : WriteWord) : (e.score i w).levels = e.levels := by
  unfold ZoneEntry.score
  split <;> rfl

theorem closePeriod_levels (e : ZoneEntry) (threshold : Nat) : (e.closePeriod threshold).levels = e.levels := by
  unfold ZoneEntry.closePeriod ZoneEntry.runs
  cases e.passes threshold <;> rfl

/-- The supervision of a zone leaves its levels. -/
theorem offerSense_levels (s : State) (z offset : Nat) (w : WriteWord) : SameLevels s (s.offerSense z offset w) := by
  have closed (t : State) : SameLevels t (t.closeSense z) := by
    have stored : SameLevels t (t.setZone z ((t.zone z).closePeriod t.control.passThreshold)) :=
      .setZone (closePeriod_levels _ _)
    refine stored.trans (.quiet ?_ ?_)
    all_goals
      unfold State.closeSense State.evaluateFallback State.countedFrom
      dsimp only
      repeat' split
      all_goals rfl
  have scored : SameLevels s (s.setZone z ((s.zone z).score (offset % 48) w)) := .setZone (score_levels _ _ _)
  unfold State.offerSense
  dsimp only
  repeat' split
  · exact .refl s
  · exact scored.trans (closed _)
  · exact scored

/-- A word offered to any listener but the control window's (R5). -/
theorem offerWord_levels (s : State) (r : Region) (w : WriteWord) (other : ∀ k, r ≠ .window k) :
    SameLevels s (s.offerWord (r, w)) := by
  cases r with
  | window k => exact absurd rfl (other k)
  | sense z offset => exact offerSense_levels s z offset w
  | microphone n offset =>
    rw [show s.offerWord (.microphone n offset, w) = _ from (offerMic_frame s n offset w).1]
    exact .quiet
  | pageRing offset =>
    rw [show s.offerWord (.pageRing offset, w) = _ from offerPage_frame s offset w.data]
    exact .quiet
  | anchorBlock _ => exact .refl s
  | playout _ _ => exact .refl s
  | earpiece _ _ => exact .refl s
  | pinned _ => exact .refl s
  | plain => exact .refl s

/-! ## The alarm unit's own work -/

theorem evaluateFallback_levels (s : State) : SameLevels s s.evaluateFallback := by
  unfold State.evaluateFallback
  split
  · exact .refl s
  · exact .quiet

theorem stepWatch_levels (e : ZoneEntry) : e.stepWatch.levels = e.levels := by
  unfold ZoneEntry.stepWatch
  repeat' split
  all_goals rfl

/-- The pattern and the watch (R145, R149). -/
theorem patternAndWatch_levels (s : State) : SameLevels s s.patternStep.watchStep := by
  have pattern : SameLevels s s.patternStep := by
    rw [patternStep_frame]
    exact .quiet
  refine pattern.trans ?_
  rw [watchStep_frame]
  exact (SameLevels.mapZones stepWatch_levels).trans .quiet

end Sys2Proof.Machine
end

section
/-! SUPPORT. The law of levels (R184, R185), zone by zone, and the changes that it stands. -/

namespace Sys2Proof.Machine

/-! ## One zone -/

/-- A mapped THEATRE zone is at its program gain with no ramp (R185). -/
def ZoneEntry.AtHome (e : ZoneEntry) : Prop :=
  e.theatre = true → e.level = e.programGain ∧ e.levelTarget = e.programGain ∧ e.ramp = none

/-- The levels are within range, and the ramp does not pass its target (R184). -/
structure ZoneEntry.LevelFits (e : ZoneEntry) : Prop where
  gain : e.programGain ≤ 4096
  level : e.level ≤ 4096
  target : e.levelTarget ≤ 4096
  ramp : ∀ m, e.ramp = some m → (0 < m.step → e.level + m.ticksLeft * m.step ≤ e.levelTarget)
    ∧ (m.step < 0 → (e.levelTarget : Int) ≤ e.level + m.ticksLeft * m.step)

/-- Both are read from the levels alone. -/
theorem levels_eq_iff (e e' : ZoneEntry) : e'.levels = e.levels ↔ e'.mapped = e.mapped ∧ e'.kind = e.kind
    ∧ e'.programGain = e.programGain ∧ e'.level = e.level ∧ e'.levelTarget = e.levelTarget ∧ e'.ramp = e.ramp := by
  simp only [ZoneEntry.levels, Prod.mk.injEq]

theorem ZoneEntry.AtHome.same {e e' : ZoneEntry} (h : e.AtHome) (same : e'.levels = e.levels) : e'.AtHome := by
  obtain ⟨mapped, kind, gain, level, target, ramp⟩ := (levels_eq_iff e e').mp same
  unfold AtHome ZoneEntry.theatre at *
  rwa [mapped, kind, gain, level, target, ramp]

theorem ZoneEntry.LevelFits.same {e e' : ZoneEntry} (h : e.LevelFits) (same : e'.levels = e.levels) : e'.LevelFits := by
  obtain ⟨-, -, gain, level, target, ramp⟩ := (levels_eq_iff e e').mp same
  exact ⟨gain ▸ h.gain, level ▸ h.level, target ▸ h.target, by rw [level, target, ramp]; exact h.ramp⟩

theorem startRamp_of_pos (e : ZoneEntry) (target : Nat) {r : Nat} (positive : 0 < r) : e.startRamp target r = { e with
    levelTarget := target, ramp := some { step := ((target : Int) - (e.level : Int)).tdiv (r : Int), ticksLeft := r } } :=
  if_neg (by omega)

/-- The step of a ramp leads toward its target, and all of its steps come to no more than the way there (R184). -/
theorem tdiv_toward (d : Int) (r : Nat) : (0 ≤ d ∧ 0 ≤ d.tdiv r ∧ r * d.tdiv r ≤ d) ∨ (d < 0 ∧ d.tdiv r ≤ 0 ∧ d ≤ r * d.tdiv r) := by
  obtain up | down := le_or_gt 0 d
  · exact .inl ⟨up, Int.tdiv_nonneg up (Int.natCast_nonneg r), Int.mul_tdiv_self_le up⟩
  · have back : 0 ≤ -d := by omega
    have whole := Int.mul_tdiv_self_le (k := r) back
    have step := Int.tdiv_nonneg back (Int.natCast_nonneg r)
    rw [Int.neg_tdiv, mul_neg] at whole
    rw [Int.neg_tdiv] at step
    exact .inr ⟨down, by omega, by omega⟩

/-- A ramp starts within range (R184). -/
theorem startRamp_fits {e : ZoneEntry} (h : e.LevelFits) {target : Nat} (r : Nat) (within : target ≤ 4096) :
    (e.startRamp target r).LevelFits := by
  by_cases zero : r = 0
  · rw [ZoneEntry.startRamp, if_pos zero]
    exact ⟨h.gain, within, within, nofun⟩
  · rw [startRamp_of_pos e target (by omega)]
    refine ⟨h.gain, h.level, within, fun m ramp => ?_⟩
    cases ramp
    have toward := tdiv_toward ((target : Int) - e.level) r
    dsimp only
    omega

theorem holdRamp_fits (e : ZoneEntry) (h : e.LevelFits) : e.holdRamp.LevelFits := by
  unfold ZoneEntry.holdRamp
  split
  · exact startRamp_fits h 24 (by decide)
  · exact h

theorem stepRamp_of_none {e : ZoneEntry} (still : e.ramp = none) : e.stepRamp = e := by
  unfold ZoneEntry.stepRamp
  rw [still]

theorem stepRamp_last {e : ZoneEntry} {m : Ramp} (ramp : e.ramp = some m) (last : m.ticksLeft ≤ 1) :
    e.stepRamp = { e with level := e.levelTarget, ramp := none } := by
  unfold ZoneEntry.stepRamp
  rw [ramp]
  exact if_pos last

theorem stepRamp_more {e : ZoneEntry} {m : Ramp} (ramp : e.ramp = some m) (more : 1 < m.ticksLeft) :
    e.stepRamp = { e with
      level := ((e.level : Int) + m.step).toNat, ramp := some { m with ticksLeft := m.ticksLeft - 1 } } := by
  unfold ZoneEntry.stepRamp
  rw [ramp]
  exact if_neg (by omega)

/-- A step of a ramp stays within range (R184). -/
theorem stepRamp_fits (e : ZoneEntry) (h : e.LevelFits) : e.stepRamp.LevelFits := by
  cases ramp : e.ramp with
  | none => rwa [stepRamp_of_none ramp]
  | some m =>
    obtain last | more := Nat.lt_or_ge 1 m.ticksLeft |>.symm
    · rw [stepRamp_last ramp last]
      exact ⟨h.gain, h.target, h.target, nofun⟩
    · obtain ⟨rises, falls⟩ := h.ramp m ramp
      have level := h.level
      have target := h.target
      have split : (m.ticksLeft : Int) * m.step = ((m.ticksLeft - 1 : Nat) : Int) * m.step + m.step := by
        rw [Nat.cast_sub (by omega)]
        ring
      have rest (up : 0 ≤ m.step) : 0 ≤ ((m.ticksLeft - 1 : Nat) : Int) * m.step := mul_nonneg (Int.natCast_nonneg _) up
      have rest' (down : m.step ≤ 0) : ((m.ticksLeft - 1 : Nat) : Int) * m.step ≤ 0 :=
        mul_nonpos_of_nonneg_of_nonpos (Int.natCast_nonneg _) down
      rw [stepRamp_more ramp more]
      refine ⟨h.gain, ?_, target, fun m' ramp' => ?_⟩
      · dsimp only
        omega
      · cases ramp'
        dsimp only
        omega

theorem houseLevel_fits (e : ZoneEntry) (h : e.LevelFits) : e.houseLevel.LevelFits := by
  unfold ZoneEntry.houseLevel
  split
  · exact ⟨h.gain, h.gain, h.gain, nofun⟩
  · exact h

theorem houseLevel_atHome (e : ZoneEntry) : e.houseLevel.AtHome := by
  unfold ZoneEntry.houseLevel
  split
  · exact fun _ => ⟨rfl, rfl, rfl⟩
  · next other => exact fun theatre => absurd theatre other

/-- A zone at home has no ramp to step. -/
theorem stepRamp_atHome {e : ZoneEntry} (h : e.AtHome) : e.stepRamp.AtHome := by
  intro theatre
  have was : e.theatre = true := by
    unfold ZoneEntry.stepRamp at theatre
    repeat' split at theatre
    all_goals exact theatre
  rw [stepRamp_of_none (h was).2.2]
  exact h was

/-! ## The state -/

/-- The levels that a hold's snapshot keeps are within range (R188). -/
def HoldSnapshot.Fits (h : HoldSnapshot) : Prop := ∀ z < 64, ∀ l, h.levels.get z = some l → l ≤ 4096

/-- The law, zone by zone. -/
theorem levelLaw_iff (s : State) : LevelLaw s ↔ (s.theatre.state.settled = true → ∀ z < 64, (s.zone z).AtHome)
    ∧ (∀ z < 64, (s.zone z).LevelFits) ∧ ∀ h, s.theatre.snapshot = some h → h.Fits := by
  rw [settled_iff]
  constructor
  · intro law
    exact ⟨fun settled z hz theatre => law.house settled z hz ((theatre_iff _).mp theatre).1 ((theatre_iff _).mp theatre).2,
      fun z hz => ⟨law.gain z hz, law.level z hz, law.target z hz, law.ramp z hz⟩, law.snapshot⟩
  · rintro ⟨home, fits, snapshot⟩
    exact
      { house := fun settled z hz mapped kind => home settled z hz ((theatre_iff _).mpr ⟨mapped, kind⟩)
        gain := fun z hz => (fits z hz).gain
        level := fun z hz => (fits z hz).level
        target := fun z hz => (fits z hz).target
        ramp := fun z hz => (fits z hz).ramp
        snapshot := snapshot }

section acts

variable {s : State} (law : LevelLaw s)
include law

theorem LevelLaw.home (settled : s.theatre.state.settled = true) {z : Nat} (hz : z < 64) : (s.zone z).AtHome :=
  ((levelLaw_iff s).mp law).1 settled z hz

theorem LevelLaw.fits {z : Nat} (hz : z < 64) : (s.zone z).LevelFits := ((levelLaw_iff s).mp law).2.1 z hz

/-- An act that leaves the levels and the show. -/
theorem LevelLaw.same {t : State} (h : SameLevels s t) : LevelLaw t := by
  refine (levelLaw_iff t).mpr ⟨fun settled z hz => ?_, fun z hz => (law.fits hz).same (h.zone z hz), ?_⟩
  · exact (law.home (h.theatre ▸ settled) hz).same (h.zone z hz)
  · rw [h.theatre]
    exact law.snapshot

/-- An act on the parts that the law does not read. -/
theorem LevelLaw.quiet {t : State} (zones : t.zones = s.zones := by rfl) (theatre : t.theatre = s.theatre := by rfl) :
    LevelLaw t := law.same (.quiet zones theatre)

theorem LevelLaw.post (k : NoticeKind) : LevelLaw (s.post k) := law.quiet

theorem LevelLaw.clock (c : ClockUnit) : LevelLaw { s with clock := c } := law.quiet

theorem LevelLaw.control (c : ControlUnit) : LevelLaw { s with control := c } := law.quiet

theorem LevelLaw.alarm (a : AlarmUnit) : LevelLaw { s with alarm := a } := law.quiet

/-- A change of the zones, with each at home where the show asks it. -/
theorem LevelLaw.zones {zones : Bank 64 ZoneEntry} (fits : ∀ z < 64, (zones.get z).LevelFits)
    (home : s.theatre.state.settled = true → ∀ z < 64, (zones.get z).AtHome) : LevelLaw { s with zones := zones } :=
  (levelLaw_iff _).mpr ⟨home, fits, law.snapshot⟩

theorem LevelLaw.mapZones {f : ZoneEntry → ZoneEntry} (fits : ∀ e : ZoneEntry, e.LevelFits → (f e).LevelFits)
    (home : s.theatre.state.settled = true → ∀ e : ZoneEntry, e.AtHome → (f e).AtHome) :
    LevelLaw { s with zones := s.zones.map f } :=
  law.zones (fun z hz => by rw [Bank.get_map f _ z hz]; exact fits _ (law.fits hz))
    fun settled z hz => by rw [Bank.get_map f _ z hz]; exact home settled _ (law.home settled hz)

theorem LevelLaw.setZone {z : Nat} {e : ZoneEntry} (fits : z < 64 → e.LevelFits)
    (home : z < 64 → s.theatre.state.settled = true → e.AtHome) : LevelLaw (s.setZone z e) :=
  law.zones (fun y hy => by
      rw [Bank.get_set _ _ _ _ hy]
      split
      · next here => exact fits (here ▸ hy)
      · exact law.fits hy)
    fun settled y hy => by
      rw [Bank.get_set _ _ _ _ hy]
      split
      · next here => exact home (here ▸ hy) settled
      · exact law.home settled hy

/-- A show record that does not come to rest, with a snapshot within range. -/
theorem LevelLaw.setShow {r : ShowRecord} (state : r.state.settled = true → s.theatre.state.settled = true)
    (snapshot : ∀ h, r.snapshot = some h → h.Fits) : LevelLaw (s.setShow r) :=
  (levelLaw_iff _).mpr ⟨fun settled _ hz => law.home (state settled) hz, fun _ hz => law.fits hz, snapshot⟩

/-- A show record that does not come to rest, its snapshot as it was. -/
theorem LevelLaw.setShow_kept {r : ShowRecord} (state : r.state.settled = true → s.theatre.state.settled = true)
    (snapshot : r.snapshot = s.theatre.snapshot := by rfl) : LevelLaw (s.setShow r) :=
  law.setShow state (by rw [snapshot]; exact law.snapshot)

/-- The house levels, whatever the show comes to (R173, R183). -/
theorem LevelLaw.housed {r : ShowRecord} (snapshot : ∀ h, r.snapshot = some h → h.Fits) : LevelLaw (s.houseLevels.setShow r) := by
  have zone {z : Nat} (hz : z < 64) : (s.houseLevels.setShow r).zone z = (s.zone z).houseLevel := Bank.get_map _ s.zones z hz
  refine (levelLaw_iff _).mpr ⟨fun _ z hz => ?_, fun z hz => ?_, snapshot⟩
  · rw [zone hz]
    exact houseLevel_atHome _
  · rw [zone hz]
    exact houseLevel_fits _ (law.fits hz)

end acts

end Sys2Proof.Machine
end

section
/-! SUPPORT. The law of levels (R184, R185) through the acts of the show engine. -/

namespace Sys2Proof.Machine

/-! ## What the acts leave of the show record -/

/-- An action leaves the show record (R180 to R182). -/
theorem cueAction_theatre (s : State) (n : Nat) (c : Cue) : (s.cueAction n c).1.theatre = s.theatre := by
  unfold State.cueAction
  cases c.action with
  | note => rfl
  | endShow => rfl
  | halt =>
    dsimp only
    exact (endCueStream_same s _).theatre
  | fade =>
    dsimp only [State.fade]
    split
    · rfl
    · exact forEach_same State.theatre (fun z _ t => setZone_theatre t z _) s
  | play =>
    dsimp only [State.play]
    repeat' split
    · rfl
    · rfl
    · rfl
    · next t started =>
      obtain ⟨m, -, -, rfl⟩ := startRequest_some started
      exact (startStream_levels s m _ _ _ _).theatre

/-- What passing a cue makes of the show record (R176, R177, R179). -/
def State.passed (s : State) (n : Nat) (notify : Bool) (st : CueState) : ShowRecord :=
  { (s.theatre.setCueState n st).pointAt (n + 1) with
    lastFired := if notify then some { cue := n, state := st, mark := s.markNumber % 65536 } else s.theatre.lastFired }

/-- Passing a cue changes the show record, and posts CUE for a notifying one (R176, R179). -/
theorem passCue_eq (s : State) (n : Nat) (notify : Bool) (st : CueState) : s.passCue n notify st
    = { s with theatre := s.passed n notify st, control := if notify then s.control.post .cue else s.control } := by
  unfold State.passCue
  cases notify <;> rfl

/-- The pointer cue's action taken and the cue passed, before what END does besides (R179). -/
def State.cuePassed (s : State) : State :=
  let c := s.theatre.cue s.theatre.pointer
  (s.cueAction s.theatre.pointer c).1.passCue s.theatre.pointer c.notify (s.cueAction s.theatre.pointer c).2

theorem fireCue_eq (s : State) : s.fireCue
    = if (s.theatre.cue s.theatre.pointer).action = .endShow then s.cuePassed.endShow else s.cuePassed := rfl

theorem cuePassed_theatre (s : State) : s.cuePassed.theatre
    = (s.cueAction s.theatre.pointer (s.theatre.cue s.theatre.pointer)).1.passed s.theatre.pointer
      (s.theatre.cue s.theatre.pointer).notify (s.cueAction s.theatre.pointer (s.theatre.cue s.theatre.pointer)).2 := by
  unfold State.cuePassed
  rw [passCue_eq]

/-! ## The cue chain (R174, R179 to R183) -/

/-- What firing and skipping the pointer cue of a RUNNING show keep, considering it keeps (R174). -/
theorem consider_keeps_running {P : State → Prop} (fires : ∀ s, s.theatre.state = .running → P s → P s.fireCue)
    (skips : ∀ s, P s → P s.skipCue) {s : State} (hs : P s) : P s.consider := by
  have chain (fuel : Nat) : ∀ {s : State}, P s → P (considerChain fuel s) := by
    induction fuel with
    | zero => exact id
    | succ fuel ih =>
      intro s hs
      unfold considerChain
      split
      · next live =>
        split
        · exact hs
        · exact ih (fires s live.1 hs)
        · exact ih (skips s hs)
      · exact hs
  exact chain 257 hs

section acts

variable {s : State} (law : LevelLaw s)
include law

theorem LevelLaw.passCue (n : Nat) (notify : Bool) (st : CueState) : LevelLaw (s.passCue n notify st) := by
  have passed : LevelLaw (s.setShow (s.passed n notify st)) := law.setShow_kept (by exact id)
  rw [passCue_eq]
  exact passed.quiet

/-- A ramp of one zone, while the levels need not be at home (R180, R189). -/
theorem LevelLaw.rampZone (z r : Nat) {target : Nat} (within : target ≤ 4096) (moves : s.theatre.state.settled = false) :
    LevelLaw (s.setZone z ((s.zone z).startRamp target r)) :=
  law.setZone (fun hz => startRamp_fits (law.fits hz) r within) fun _ settled => nomatch moves.symm.trans settled

theorem LevelLaw.cueAction (running : s.theatre.state = .running) (n : Nat) (c : Cue) : LevelLaw (s.cueAction n c).1 := by
  unfold State.cueAction
  cases c.action with
  | note => exact law
  | endShow => exact law
  | halt =>
    dsimp only
    exact law.same (endCueStream_same s _).levels
  | fade =>
    dsimp only [State.fade]
    split
    · exact law
    · next within =>
      refine And.left (forEach_keeps (P := fun t => LevelLaw t ∧ t.theatre.state = .running) (fun z _ t ht => ?_) ⟨law, running⟩)
      exact ⟨ht.1.rampZone z _ (by omega) (by rw [ht.2]; rfl), ht.2⟩
  | play =>
    dsimp only [State.play]
    repeat' split
    · exact law
    · exact law
    · exact law
    · next t started =>
      obtain ⟨m, -, -, rfl⟩ := startRequest_some started
      dsimp only
      exact law.same (startStream_levels s m _ _ _ _)

/-- END takes the levels home (R183). -/
theorem LevelLaw.endShow : LevelLaw s.endShow := by
  have ended : LevelLaw s.endShowStreams := law.same (endShowStreams_same s).levels
  have stops {u : State} (law : LevelLaw u) : LevelLaw (u.houseLevels.setShow
      { u.houseLevels.theatre with follow := 0, state := .stopped }) := law.housed (by exact law.snapshot)
  exact (stops ended).post .showNotice

theorem LevelLaw.fireCue (running : s.theatre.state = .running) : LevelLaw s.fireCue := by
  have passed : LevelLaw s.cuePassed := (law.cueAction running _ _).passCue _ _ _
  rw [fireCue_eq]
  split
  · exact passed.endShow
  · exact passed

theorem LevelLaw.consider : LevelLaw s.consider :=
  consider_keeps_running (fun _ running law => law.fireCue running) (fun _ law => law.passCue _ _ _) law

/-! ## Hold, stop and resume (R173, R186 to R189) -/

/-- A hold keeps the level targets, which are within range (R188). -/
theorem LevelLaw.holdSnapshot : s.holdSnapshot.Fits := by
  intro z hz l entry
  have kept : s.holdSnapshot.levels.get z = if (s.zone z).theatre then some (s.zone z).levelTarget else none :=
    Bank.get_map _ s.zones z hz
  rw [kept] at entry
  split at entry
  · cases entry
    exact (law.fits hz).target
  · cases entry

theorem LevelLaw.hold (cause : HoldCause) (moves : s.theatre.state.settled = false) : LevelLaw (s.hold cause) := by
  have ramped : LevelLaw { s with zones := s.zones.map ZoneEntry.holdRamp } :=
    law.mapZones holdRamp_fits fun settled => nomatch moves.symm.trans settled
  have held : LevelLaw (State.setShow { s with zones := s.zones.map ZoneEntry.holdRamp }
      { s.theatre with state := .held, holdCause := some cause, snapshot := some s.holdSnapshot }) :=
    ramped.setShow nofun fun h kept => by cases kept; exact law.holdSnapshot
  exact held.post _

theorem LevelLaw.alarmHold : LevelLaw s.alarmHold := by
  unfold State.alarmHold
  split
  · next running => exact law.hold _ (by rw [running]; rfl)
  · exact LevelLaw.post (law.setShow_kept (by exact id)) _
  · exact law
  · exact law
  · exact law

theorem LevelLaw.clearShow : LevelLaw s.clearShow :=
  (law.housed (r := s.theatre.cleared) nofun).quiet (clearShow_zones s) (clearShow_theatre s)

theorem LevelLaw.resumeZone {snap : HoldSnapshot} (fits : snap.Fits) (moves : s.theatre.state.settled = false) {z : Nat}
    (hz : z < 64) : LevelLaw (State.resumeZone snap z s) := by
  unfold State.resumeZone
  split
  · next target entry =>
    split
    · exact law.rampZone z 48 (fits z hz target entry) moves
    · exact law
  · exact law

/-- A held show runs again within range (R189). -/
theorem LevelLaw.resumeShow (held : s.theatre.state = .held) : LevelLaw s.resumeShow := by
  have zoneTheatre (snap : HoldSnapshot) (z : Nat) (t : State) : (State.resumeZone snap z t).theatre = t.theatre := by
    unfold State.resumeZone
    repeat' split
    all_goals rfl
  have runs {t : State} (law : LevelLaw t) : LevelLaw (State.post
      (t.resumeShowStreams.setShow { t.resumeShowStreams.theatre with state := .running, holdCause := none }) .showNotice) := by
    have resumed : LevelLaw t.resumeShowStreams := law.quiet
    exact LevelLaw.post (resumed.setShow_kept (by exact nofun)) _
  unfold State.resumeShow
  dsimp only
  split
  · next snap kept =>
    have ramped := forEach_keeps (P := fun t => LevelLaw t ∧ t.theatre = s.theatre) (ns := List.range 64)
      (f := State.resumeZone snap) (fun z hz t ht => ⟨ht.1.resumeZone (law.snapshot snap kept) (by rw [ht.2, held]; rfl)
        (List.mem_range.mp hz), (zoneTheatre snap z t).trans ht.2⟩) ⟨law, rfl⟩
    exact runs (ramped.1.setShow id nofun)
  · exact runs law

/-- The tick's steps keep what is at home there (R178, R184). -/
theorem LevelLaw.showTick : LevelLaw s.showTick := by
  have counted : s.theatre.countFollow.state = s.theatre.state ∧ s.theatre.countFollow.snapshot = s.theatre.snapshot := by
    unfold ShowRecord.countFollow
    split <;> exact ⟨rfl, rfl⟩
  have stepped : LevelLaw { s with zones := s.zones.map ZoneEntry.stepRamp } :=
    law.mapZones stepRamp_fits fun _ _ => stepRamp_atHome
  exact (stepped.setShow (r := s.theatre.countFollow) (by rw [counted.1]; exact id)
    (by rw [counted.2]; exact law.snapshot)).consider

/-! ## The commands (R172, R173, R186, R189) -/

theorem LevelLaw.takeShg {t : State} {value : Nat} (taken : s.takeShg = .ok (value, t)) : LevelLaw t := by
  unfold State.takeShg at taken
  repeat' split at taken
  all_goals cases taken
  · refine LevelLaw.consider (LevelLaw.post ?_ _)
    exact law.setShow_kept (by exact nofun)
  · next running _ => exact (law.fireCue running).consider

theorem LevelLaw.takeShh {t : State} {value : Nat} (taken : s.takeShh = .ok (value, t)) : LevelLaw t := by
  unfold State.takeShh at taken
  split at taken
  · next running =>
    cases taken
    exact (law.hold .command (by rw [running]; rfl)).quiet
  · cases taken

theorem LevelLaw.takeShr {t : State} {value : Nat} (taken : s.takeShr = .ok (value, t)) : LevelLaw t := by
  unfold State.takeShr at taken
  repeat' split at taken
  all_goals cases taken
  next held _ => exact (law.resumeShow (not_not.mp held)).consider

theorem LevelLaw.takeShs {t : State} {value : Nat} (taken : s.takeShs = .ok (value, t)) : LevelLaw t := by
  unfold State.takeShs at taken
  split at taken
  · cases taken
  · cases taken
    exact law.clearShow

end acts

end Sys2Proof.Machine
end

section
/-! SUPPORT. The law of levels (R184, R185) through the alarm unit, the events in time, the commands, the table writes and the two
ports. -/

namespace Sys2Proof.Machine

section acts

variable {s : State} (law : LevelLaw s)
include law

/-! ## The alarm unit (R131, R137 to R142, R187) -/

theorem LevelLaw.enterSounding (source : AlarmSource) : LevelLaw (s.enterSounding source) := by
  have raised : LevelLaw (s.alarmRaised source) := by
    rw [alarmRaised_eq]
    exact law.quiet
  rw [enterSounding_eq]
  exact (raised.same (endAll_same _ _).levels).alarmHold

theorem LevelLaw.soundRequest : LevelLaw s.soundRequest := by
  unfold State.soundRequest
  dsimp only
  split
  · exact law.alarm _
  · exact (law.alarm _).enterSounding _

theorem LevelLaw.silenceRequest : LevelLaw s.silenceRequest := by
  rw [silenceRequest_eq]
  exact law.alarm _

theorem LevelLaw.setDecoder (d : DecoderState) (window : Nat) : LevelLaw (s.setDecoder d window) := law.alarm _

theorem LevelLaw.abortPanel : LevelLaw s.abortPanel := law.alarm _

theorem LevelLaw.seeLine : LevelLaw s.seeLine := by
  cases decoder : s.alarm.decoder with
  | idle =>
    obtain ⟨attention, silence, other⟩ := seeLine_idle decoder
    cases line : s.lineState with
    | attention => rw [attention line]; exact law.setDecoder _ _
    | silence => rw [silence line]; exact law.silenceRequest
    | sound => rw [other (.inl line)]; exact law
    | rest => rw [other (.inr line)]; exact law
  | attended =>
    obtain ⟨sound, rest, silence, attention⟩ := seeLine_attended decoder
    cases line : s.lineState with
    | sound => rw [sound line]; exact (law.setDecoder _ _).soundRequest
    | rest => rw [rest line]; exact (law.setDecoder _ _).abortPanel
    | silence => rw [silence line]; exact law.silenceRequest
    | attention => rw [attention line]; exact law
  | latched =>
    obtain ⟨rest, silence, other⟩ := seeLine_latched decoder
    cases line : s.lineState with
    | rest => rw [rest line]; exact law.setDecoder _ _
    | silence => rw [silence line]; exact law.silenceRequest
    | sound => rw [other (.inl line)]; exact law
    | attention => rw [other (.inr line)]; exact law

theorem LevelLaw.alarmTick : LevelLaw s.alarmTick := by
  have watched : LevelLaw s.patternStep.watchStep := law.same (patternAndWatch_levels s)
  have held : LevelLaw s.patternStep.watchStep.countHold := by
    unfold State.countHold
    dsimp only
    repeat' split
    · exact LevelLaw.seeLine (watched.alarm _)
    · exact watched.alarm _
    · exact watched
  unfold State.alarmTick
  obtain same | counted := decoderStep_alarm_cases s.patternStep.watchStep
  · rw [same]; exact held
  · rw [counted]; exact held.alarm _

/-! ## The events in time (R69 to R79) -/

theorem LevelLaw.makeTick (order : TickOrder) : LevelLaw (s.makeTick order) :=
  makeTick_keeps (fun before t b law => by
    cases b with
    | stream => exact law.same (streamTick_levels before t)
    | intercom => exact law.same (intercomTick_levels t)
    | alarm => exact law.alarmTick
    | showEngine => exact law.showTick) (law.clock _)

theorem LevelLaw.setLock (lock : LockState) : LevelLaw (s.setLock lock) := (law.clock _).post _

theorem LevelLaw.markEvent : LevelLaw s.markEvent := (law.clock _).consider

theorem LevelLaw.measureStep : LevelLaw s.measureStep := by
  have counted : LevelLaw { s with clock := s.clock.countStep } := law.clock _
  unfold State.measureStep State.closeWindow
  dsimp only
  repeat' split
  · exact counted
  · exact counted
  · exact ((counted.setLock _).clock _).markEvent
  · exact counted
  · exact ((counted.setLock _).clock _).markEvent
  · exact (counted.clock _).markEvent
  · exact counted

theorem LevelLaw.realMark : LevelLaw s.realMark := by
  have acquired : LevelLaw s.acquireMark := by
    unfold State.acquireMark
    dsimp only
    split
    · exact LevelLaw.setLock (law.clock _) _
    · exact law.clock _
  unfold State.realMark
  dsimp only
  repeat' split
  · exact ((law.setLock _).clock _).markEvent
  · exact (acquired.clock _).markEvent
  · exact ((law.setLock _).clock _).markEvent
  · exact (law.clock _).markEvent
  · exact law
  · exact ((law.setLock _).clock _).markEvent

theorem LevelLaw.creditSteps (n : Nat) (order : Interleave) : LevelLaw (s.creditSteps n order) :=
  creditSteps_keeps (fun _ law => law.measureStep) (fun _ o law => law.makeTick o) (law.clock _)

theorem LevelLaw.loseLine : LevelLaw s.loseLine := (law.clock _).post _

theorem LevelLaw.clockEdge (gap : Nat) (order : Interleave) : LevelLaw (s.clockEdge gap order) := by
  have credited := law.creditSteps 1 order
  unfold State.clockEdge State.monitorLine State.monitorReference State.takeLine
  repeat' split
  · exact law
  · exact credited.clock _
  · exact credited.loseLine
  · exact credited.clock _
  · exact LevelLaw.post (law.clock _) _
  · exact law.clock _
  · exact law.clock _

theorem LevelLaw.referenceStep (order : Interleave) : LevelLaw (s.referenceStep order) := by
  unfold State.referenceStep
  split
  · exact law
  · exact law.creditSteps 1 order

theorem LevelLaw.expireGap (order : Interleave) : LevelLaw (s.expireGap order) := by
  unfold State.expireGap
  split
  · exact law
  · exact (law.creditSteps 3 order).loseLine

theorem LevelLaw.showPulse : LevelLaw s.showPulse := by
  unfold State.showPulse
  split
  · exact law
  · exact law.realMark

theorem LevelLaw.changePanel (a b : Bool) : LevelLaw (s.changePanel a b) := by
  unfold State.changePanel
  split
  · exact law
  · exact law.quiet

/-! ## The commands (R27) -/

theorem LevelLaw.takeAns {t : State} {priority value : Nat} {source : StartSource} {zs : ZoneSet}
    (started : s.takeAns priority source zs = .ok (value, t)) : LevelLaw t := by
  obtain ⟨n, -, -, -, rfl⟩ := takeAns_ok started
  exact law.same (startStream_levels s n _ _ _ _)

theorem LevelLaw.takeRst {t : State} {scope value : Nat} (taken : s.takeRst scope = .ok (value, t)) : LevelLaw t := by
  have busy (stream intercom show' : Bool) : LevelLaw (s.setBusy stream intercom show') := law.quiet
  have intercom {t : State} (law : LevelLaw t) : LevelLaw t.clearIntercom := law.quiet
  have released {t : State} (law : LevelLaw t) : LevelLaw t.releaseBusy := law.quiet
  unfold State.takeRst at taken
  repeat' split at taken
  all_goals cases taken
  · exact released (intercom ((busy _ _ _).same (endAll_same _ _).levels)).clearShow
  · exact intercom ((busy _ _ _).same (endGroupStreams_same _).levels)
  · exact released (busy _ _ _).clearShow

theorem LevelLaw.takeSvr {t : State} {zs : ZoneSet} {value : Nat} (taken : s.takeSvr zs = .ok (value, t)) : LevelLaw t := by
  unfold State.takeSvr at taken
  split at taken
  · cases taken
  · cases taken
    refine law.same (.forEach (fun z t => ?_) s)
    exact .setZone (by rfl)

theorem LevelLaw.takeCnc {t : State} {zones : ZoneSet} {stations : Word} {page value : Nat}
    (taken : s.takeCnc zones stations page = .ok (value, t)) : LevelLaw t := by
  unfold State.takeCnc at taken
  split at taken
  · cases taken
  · cases taken
    refine law.same ⟨rfl, fun z hz => ?_⟩
    have cleared : (clearMembers s.zones (zoneIn zones) ZoneEntry.clearCounters).get z
        = if zoneIn zones z then (s.zone z).clearCounters else s.zone z := Bank.get_ofFn _ z hz
    refine (congrArg ZoneEntry.levels cleared).trans ?_
    split <;> rfl

theorem LevelLaw.ownRule {t : State} {cmd : Command} {value : Nat} (rule : s.ownRule cmd = .ok (value, t)) : LevelLaw t := by
  cases cmd with
  | ansClip priority zones base periods repeats => exact law.takeAns rule
  | ansLive priority zones => exact law.takeAns rule
  | ansGroup priority zones group => exact law.takeAns rule
  | ansNone => cases rule
  | anx index =>
    simp only [State.ownRule, State.takeAnx] at rule
    repeat' split at rule
    all_goals cases rule
    exact law.same (endStream_levels _ _ _)
  | pgc =>
    simp only [State.ownRule, State.takePgc] at rule
    split at rule
    · cases rule
    · cases rule
      exact law.quiet
  | ict station group =>
    simp only [State.ownRule, State.takeIct] at rule
    split at rule
    · cases rule
    · cases rule
      unfold State.moveTalk
      dsimp only
      repeat' split
      all_goals exact law.quiet
  | icl station groups =>
    simp only [State.ownRule, State.takeIcl] at rule
    split at rule
    · cases rule
    · cases rule
      exact law.quiet
  | als =>
    simp only [State.ownRule, State.takeAls] at rule
    split at rule
    · cases rule
    · cases rule
      exact law.enterSounding _
  | asi =>
    simp only [State.ownRule, State.takeAsi] at rule
    split at rule
    · cases rule
      exact law.alarm _
    · cases rule
  | aen =>
    simp only [State.ownRule, State.takeAen] at rule
    split at rule
    · cases rule
    · cases rule
      exact (law.alarm _).post _
  | svr zones => exact law.takeSvr rule
  | shg => exact law.takeShg rule
  | shh => exact law.takeShh rule
  | shr => exact law.takeShr rule
  | shs => exact law.takeShs rule
  | pin base length =>
    simp only [State.ownRule, State.takePin] at rule
    repeat' split at rule
    all_goals cases rule
    exact law.quiet
  | unp entry =>
    simp only [State.ownRule, State.takeUnp] at rule
    repeat' split at rule
    all_goals cases rule
    exact law.quiet
  | rst scope => exact law.takeRst rule
  | cnc zones stations page => exact law.takeCnc rule

/-! ## Table writes (R35) -/

/-- A zone's place in the snapshot is set within range (R52, R56). -/
theorem LevelLaw.setSnapshot {z : Nat} {level : Option Nat} (within : z < 64 → ∀ l, level = some l → l ≤ 4096) :
    LevelLaw (s.setShow (s.theatre.setSnapshot z level)) := by
  refine law.setShow (by exact id) fun h set => ?_
  obtain ⟨old, kept, rfl⟩ := Option.map_eq_some_iff.mp set
  intro y hy l entry
  dsimp only at entry
  rw [Bank.get_set _ _ _ _ hy] at entry
  split at entry
  · next here => exact within (here ▸ hy) l entry
  · exact law.snapshot old kept y hy l entry

/-- A mapping takes a THEATRE zone to its program gain unless the show is HELD (R52). -/
theorem LevelLaw.mapZone {t : State} {z : Nat} {shape : ZoneShape} (mapped : s.mapZone z shape = some t) : LevelLaw t := by
  let e := (s.zone z).withShape shape
  have gain (hz : z < 64) : e.programGain ≤ 4096 := (law.fits hz).gain
  have start (hz : z < 64) : s.startLevel e ≤ 4096 := by
    unfold State.startLevel
    split
    · exact gain hz
    · exact Nat.zero_le _
  have stored : LevelLaw (s.setZone z (s.mapped e)) := by
    refine law.setZone (fun hz => ⟨gain hz, start hz, start hz, nofun⟩) fun _ settled theatre => ?_
    have moves : e.kind = .theatreZone ∧ s.theatre.state ≠ .held :=
      ⟨((theatre_iff _).mp theatre).2, fun held => by rw [held] at settled; cases settled⟩
    have level : s.startLevel e = e.programGain := if_pos moves
    exact ⟨level, level, rfl⟩
  unfold State.mapZone at mapped
  dsimp only at mapped
  split at mapped
  · cases mapped
    refine stored.setSnapshot fun hz l entry => ?_
    unfold State.snapshotAtMapping at entry
    split at entry
    · cases entry
      exact gain hz
    · cases entry
  · cases mapped

theorem LevelLaw.unmapZone {t : State} {z : Nat} {shape : ZoneShape} (unmapped : s.unmapZone z shape = some t) : LevelLaw t := by
  have stored : LevelLaw (s.setZone z ((s.zone z).withShape shape).unmapped) :=
    law.setZone (fun hz => ⟨(law.fits hz).gain, Nat.zero_le _, Nat.zero_le _, nofun⟩) fun _ _ => nofun
  unfold State.unmapZone at unmapped
  dsimp only at unmapped
  split at unmapped
  · cases unmapped
    exact stored.setSnapshot fun _ => nofun
  · cases unmapped

/-- A new program gain is the level of a zone that has to be at home (R54). -/
theorem LevelLaw.writeProgram {t : State} {z : Nat} {data : Word} (written : s.writeProgram z data = some t) : LevelLaw t := by
  unfold State.writeProgram at written
  split at written
  · next gains =>
    cases written
    have gain : field data 0 13 ≤ 4096 := by
      unfold gainsOk at gains
      rw [Bool.and_eq_true, decide_eq_true_eq] at gains
      exact gains.1
    refine law.setZone (fun hz => ?_) fun hz settled => ?_
    · have fits := law.fits hz
      unfold ZoneEntry.followProgram
      split
      · next follows =>
        obtain ⟨settled, theatre⟩ := (Bool.and_eq_true _ _).mp follows
        have still : (s.zone z).ramp = none := (law.home settled hz theatre).2.2
        exact ⟨gain, gain, gain, fun m ramp => nomatch still.symm.trans ramp⟩
      · exact ⟨gain, fits.level, fits.target, fits.ramp⟩
    · unfold ZoneEntry.followProgram
      rw [settled, Bool.true_and]
      split
      · next theatre => exact fun _ => ⟨rfl, rfl, (law.home settled hz theatre).2.2⟩
      · next other => exact fun theatre => absurd theatre other
  · cases written

theorem LevelLaw.writeZone {t : State} {z w : Nat} {data : Word} (written : s.writeZone z w data = some t) : LevelLaw t := by
  unfold State.writeZone State.writeZoneShape State.writeOverlay State.writePriority State.writePilot at written
  dsimp only at written
  split at written
  · split at written
    · next unmapped _ =>
      split at written
      · cases written
        refine law.setZone (fun hz => ?_) fun _ _ theatre => ?_
        · exact ⟨(law.fits hz).gain, (law.fits hz).level, (law.fits hz).target, (law.fits hz).ramp⟩
        · exact nomatch unmapped.symm.trans ((theatre_iff _).mp theatre).1
      · cases written
    · exact law.mapZone written
    · cases written
    · exact law.unmapZone written
  · split at written
    · cases written
      exact law.same (.setZone rfl)
    · cases written
  · split at written
    · cases written
      exact law.same (.setZone rfl)
    · cases written
  · exact law.writeProgram written
  · split at written
    · cases written
      exact law.same (.setZone rfl)
    · cases written
  · split at written
    · cases written
      exact (law.same (.setZone (by rfl))).same (evaluateFallback_levels _)
    · cases written
  · cases written
    exact law.same (.setZone rfl)
  · cases written

/-- The list length takes a resting show to IDLE or STOPPED (R171). -/
theorem LevelLaw.writeLength {t : State} {data : Word} (written : s.writeLength data = some t) : LevelLaw t := by
  unfold State.writeLength at written
  dsimp only at written
  repeat' split at written
  all_goals cases written
  · exact law.setShow_kept (by exact id)
  · next idle _ => exact LevelLaw.post (law.setShow_kept fun _ => by rw [idle]; rfl) _
  · next stopped _ => exact LevelLaw.post (law.setShow_kept fun _ => by rw [stopped]; rfl) _
  · exact law.setShow_kept (by exact id)

theorem LevelLaw.writeTable {t : State} {table : PortTable} {i : Nat} {data : Word}
    (written : s.writeTable table i data = some t) : LevelLaw t := by
  cases table with
  | config =>
    simp only [State.writeTable, State.writeConfig] at written
    repeat' split at written
    all_goals cases written
    all_goals exact law.control _
  | zone => exact law.writeZone written
  | station =>
    simp only [State.writeTable, State.writeStation, State.writeStationShape, State.activateStation,
      State.deactivateStation] at written
    repeat' split at written
    all_goals cases written
    all_goals exact law.quiet
  | group =>
    simp only [State.writeTable, State.writeGroup, State.writeGroupFlags, State.undefineGroup] at written
    repeat' split at written
    all_goals cases written
    all_goals exact law.quiet
  | cue =>
    simp only [State.writeTable] at written
    split at written
    · exact law.writeLength written
    · unfold State.writeCue at written
      split at written
      · obtain ⟨c, -, rfl⟩ := Option.map_eq_some_iff.mp written
        exact law.setShow_kept (by exact id)
      · cases written
  | pattern =>
    simp only [State.writeTable, State.writePattern] at written
    repeat' split at written
    all_goals cases written
    all_goals exact law.alarm _
  | pin => cases written
  | stream => cases written
  | counter => cases written

/-! ## The control window (R22) -/

theorem LevelLaw.take : LevelLaw s.take := by
  have stale : LevelLaw s.stale := law.control _
  rw [take_eq]
  refine LevelLaw.control ?_ _
  obtain same | ⟨cmd, value, rule⟩ := judgeTake_after s.stale s.control.freshHeader
  · rw [same]; exact stale
  · exact stale.ownRule rule

theorem LevelLaw.writePort (w : WriteWord) : LevelLaw (s.writePort w) := by
  unfold State.writePort State.advancePort
  refine LevelLaw.control ?_ _
  cases offered : s.offerTable w with
  | none => exact law.control _
  | some t =>
    unfold State.offerTable at offered
    split at offered
    · cases offered
    · exact law.writeTable offered

theorem LevelLaw.writeWindow (k : Nat) (w : WriteWord) : LevelLaw (s.writeWindow k w) := by
  unfold State.writeWindow State.writeSlot
  dsimp only
  repeat' split
  · exact law.control _
  · exact law.control _
  · exact law.writePort w
  · exact LevelLaw.take (law.control _)
  · exact law.control _
  · exact law

/-! ## The two ports -/

theorem LevelLaw.offerWord (p : Region × WriteWord) : LevelLaw (s.offerWord p) := by
  obtain ⟨r, w⟩ := p
  by_cases window : ∃ k, r = .window k
  · obtain ⟨k, rfl⟩ := window
    exact law.writeWindow k w
  · exact law.same (offerWord_levels s r w fun k h => window ⟨k, h⟩)

theorem LevelLaw.passWrite (tag addr : Nat) (words : List WriteWord) : LevelLaw (s.passWrite tag addr words) := by
  have offered : LevelLaw (s.offerBurst addr words) := by
    unfold State.offerBurst State.examineAnchor
    split
    · split <;> exact law.quiet
    · exact foldl_offerWord_keeps (fun p _ _ law => law.offerWord p) law
  unfold State.passWrite
  repeat' split
  · exact law
  · exact law.quiet
  · exact law.quiet
  · exact offered.quiet

theorem LevelLaw.memoryReturns (tag : Nat) (a : MemAnswer) : LevelLaw (s.memoryReturns tag a) := by
  have cleared : LevelLaw (s.clearTag tag) := law.quiet
  have answered (t : State) (a : HostAnswer) (law : LevelLaw t) : LevelLaw (t.answer a) := law.quiet
  have effects (rs : List Region) : LevelLaw ((s.clearTag tag).readEffects rs) := by
    have reloaded : LevelLaw ((s.clearTag tag).forEach ((List.range 64).filter (holdsPlayout rs)) State.reloadWatch) :=
      cleared.same (.forEach (fun z t => .setZone (by rfl)) _)
    unfold State.readEffects
    dsimp only
    split
    · exact reloaded.control _
    · exact reloaded
  unfold State.memoryReturns State.ownAnswer State.hostResponse State.hostData
  dsimp only
  repeat' split
  · exact law.quiet
  · exact law.same (ownResponse_levels s _ _ _ _)
  · exact law
  · exact answered _ _ cleared
  · exact answered _ _ cleared
  · exact answered _ _ (effects _)
  · exact answered _ _ cleared
  · exact law

theorem LevelLaw.arbitrate : LevelLaw s.arbitrate := by
  obtain ⟨-, -, idle⟩ | ⟨f, rest, -, forwards⟩ | ⟨o, rest, -, owns⟩ := arbitrate_cases s
  · rw [idle]; exact law
  · rw [forwards]; exact law.quiet
  · rw [owns]
    unfold State.issueOwn
    split
    · exact law
    · exact law.quiet

theorem LevelLaw.passRead (tag addr count : Nat) : LevelLaw (s.passRead tag addr count) := by
  unfold State.passRead
  repeat' split
  all_goals exact law.quiet

/-! ## Every work -/

theorem LevelLaw.work (w : Laws.Work) : LevelLaw (w.act s) := by
  cases w with
  | passRead tag addr count => exact law.passRead tag addr count
  | passWrite tag addr words => exact law.passWrite tag addr words
  | arbitrate => exact law.arbitrate
  | memoryReturns tag answer => exact law.memoryReturns tag answer
  | fullReset cause => exact levelLaw_reset.quiet
  | releaseReset => exact law.quiet
  | clockEdge gap order => exact law.clockEdge gap order
  | referenceStep order => exact law.referenceStep order
  | expireGap order => exact law.expireGap order
  | changePanel a b => exact law.changePanel a b
  | showPulse => exact law.showPulse

end acts

end Sys2Proof.Machine
end

section
/-! PROOFS. The levels at every step. -/

namespace Sys2Proof.Machine

/-- Settles O35: every work keeps the law. Levels move by ramps, which start and step within range; a show comes to rest by END or a
clearing alone, which take the levels home; and at rest only a mapping or a program gain touches them. -/
theorem levelLawHoldsAtEveryStep : Obligations.LevelLawHoldsAtEveryStep := fun _ _ law stepped =>
  Laws.step_keeps (fun _ _ law => law.quiet) (fun _ law => law.quiet) (fun _ law => law.control _)
    (fun w _ law => law.work w) law stepped

end Sys2Proof.Machine
end

section
/-! SUPPORT. The cue chain with fuel enough goes on from the next cue (R174). -/

namespace Sys2Proof.Machine

/-! ## How far a link goes (R176, R179, R183) -/

theorem passed_advances (s : State) (n : Nat) (notify : Bool) (st : CueState) :
    (s.passed n notify st).pointer = n + 1 ∧ (s.passed n notify st).length = s.theatre.length := ⟨rfl, rfl⟩

theorem skipCue_advances (s : State) : s.skipCue.theatre.pointer = s.theatre.pointer + 1
    ∧ s.skipCue.theatre.length = s.theatre.length := by
  unfold State.skipCue
  rw [passCue_eq]
  exact passed_advances s _ _ _

theorem cuePassed_advances (s : State) : s.cuePassed.theatre.pointer = s.theatre.pointer + 1
    ∧ s.cuePassed.theatre.length = s.theatre.length := by
  rw [cuePassed_theatre, (passed_advances _ _ _ _).2, cueAction_theatre]
  exact ⟨rfl, rfl⟩

theorem endShow_advances (s : State) : s.endShow.theatre.pointer = s.theatre.pointer
    ∧ s.endShow.theatre.length = s.theatre.length := by
  have kept : s.endShow.theatre = { s.theatre with follow := 0, state := .stopped } := by
    rw [endShow_eq]
  rw [kept]
  exact ⟨rfl, rfl⟩

theorem fireCue_advances (s : State) : s.fireCue.theatre.pointer = s.theatre.pointer + 1
    ∧ s.fireCue.theatre.length = s.theatre.length := by
  rw [fireCue_eq]
  split
  · rw [(endShow_advances _).1, (endShow_advances _).2]
    exact cuePassed_advances s
  · exact cuePassed_advances s

/-! ## The chain and its fuel -/

/-- Every link raises the pointer, so fuel above the cues left is not used up: more makes no difference. -/
theorem considerChain_enough (f : Nat) : ∀ {g : Nat} {s : State}, s.theatre.length - s.theatre.pointer < f →
    s.theatre.length - s.theatre.pointer < g → considerChain f s = considerChain g s := by
  induction f with
  | zero => exact fun short => nomatch short
  | succ f ih =>
    intro g s hf hg
    obtain _ | g := g
    · exact nomatch hg
    have link {t : State} (advances : t.theatre.pointer = s.theatre.pointer + 1 ∧ t.theatre.length = s.theatre.length)
        (within : s.theatre.pointer < s.theatre.length) : considerChain f t = considerChain g t :=
      ih (by omega) (by omega)
    unfold considerChain
    split
    · next live =>
      split
      · rfl
      · exact link (fireCue_advances s) live.2
      · exact link (skipCue_advances s) live.2
    · rfl

section verdicts

variable {s : State} (live : s.theatre.state = .running ∧ s.theatre.pointer < s.theatre.length)
include live

/-- A pointer cue that waits is left as it is (R175 to R177). -/
theorem consider_waits (verdict : s.cueVerdict (s.theatre.cue s.theatre.pointer) = .wait) : s.consider = s := by
  unfold State.consider considerChain
  rw [if_pos live, verdict]

/-- Considering goes on from where a link left the show, with the fuel of a fresh chain. -/
theorem chain_goes_on {t : State} (short : s.theatre.length ≤ 256)
    (advances : t.theatre.pointer = s.theatre.pointer + 1 ∧ t.theatre.length = s.theatre.length) :
    considerChain 256 t = t.consider :=
  considerChain_enough 256 (by omega) (by omega)

theorem consider_fires (short : s.theatre.length ≤ 256)
    (verdict : s.cueVerdict (s.theatre.cue s.theatre.pointer) = .fire) : s.consider = s.fireCue.consider := by
  rw [← chain_goes_on live short (fireCue_advances s)]
  conv_lhs => unfold State.consider considerChain
  rw [if_pos live, verdict]

theorem consider_skips (short : s.theatre.length ≤ 256)
    (verdict : s.cueVerdict (s.theatre.cue s.theatre.pointer) = .skip) : s.consider = s.skipCue.consider := by
  rw [← chain_goes_on live short (skipCue_advances s)]
  conv_lhs => unfold State.consider considerChain
  rw [if_pos live, verdict]

end verdicts

/-! ## The triggers (R175 to R177) -/

theorem cueVerdict_go {s : State} {c : Cue} (go : c.trigger = .go) : s.cueVerdict c = .wait := by
  unfold State.cueVerdict
  rw [go]

theorem cueVerdict_mark {s : State} {c : Cue} (mark : c.trigger = .mark) :
    s.cueVerdict c = markVerdict s.clock.lock s.markNumber c.value := by
  unfold State.cueVerdict
  rw [mark]

theorem cueVerdict_follow {s : State} {c : Cue} (follow : c.trigger = .follow) :
    s.cueVerdict c = if s.theatre.follow = 0 then .fire else .wait := by
  unfold State.cueVerdict
  rw [follow]

/-- A MARK cue waits in FREE and ACQUIRING, and where the mark number is below its number (R176). -/
theorem markVerdict_waits {lock : LockState} {d n : Nat} (early : ¬ (lock = .locked ∨ lock = .holdover) ∨ d < n) :
    markVerdict lock d n = .wait := by
  cases lock with
  | free => rfl
  | acquiring => rfl
  | locked => exact if_pos (early.resolve_left fun h => h (.inl rfl))
  | holdover => exact if_pos (early.resolve_left fun h => h (.inr rfl))

theorem markVerdict_locked {lock : LockState} {d n : Nat} (locked : lock = .locked ∨ lock = .holdover) (reached : n ≤ d) :
    markVerdict lock d n = if d ≤ n + 2 then .fire else .skip := by
  obtain rfl | rfl := locked <;> exact if_neg (Nat.not_lt.mpr reached)

end Sys2Proof.Machine
end

section
/-! PROOFS. Considering the pointer cue (R174 to R177). -/

namespace Sys2Proof.Machine

/-- Settles O37: each trigger's verdict, and the chain from the cue after the one passed. -/
theorem considerChainsThroughTheList : Obligations.ConsiderChainsThroughTheList := by
  intro s short r c live d locked
  refine ⟨fun idle => ?_, fun live go => ?_, fun live mark early => ?_, fun live mark locked reached near => ?_,
    fun live mark locked late => ?_, fun live follow done => ?_, fun live follow left => ?_⟩
  · unfold State.consider considerChain
    exact if_neg idle
  · exact consider_waits live (cueVerdict_go go)
  · exact consider_waits live ((cueVerdict_mark mark).trans (markVerdict_waits early))
  · refine consider_fires live short ((cueVerdict_mark mark).trans ?_)
    exact (markVerdict_locked locked reached).trans (if_pos near)
  · refine consider_skips live short ((cueVerdict_mark mark).trans ?_)
    have reached : c.value ≤ d := Nat.le_trans (Nat.le_add_right _ 2) (Nat.le_of_lt late)
    exact (markVerdict_locked locked reached).trans (if_neg (Nat.not_le.mpr late))
  · exact consider_fires live short ((cueVerdict_follow follow).trans (if_pos done))
  · exact consider_waits live ((cueVerdict_follow follow).trans (if_neg (Nat.ne_of_gt left)))

end Sys2Proof.Machine
end

section
/-! SUPPORT. What a cue's action does (R179 to R183), and what passing it leaves of the list (R177). -/

namespace Sys2Proof.Machine

/-! ## A zone set limited (R181) -/

/-- The bits of a set's number are its flags. -/
theorem testBit_sum_flags (p : Nat → Bool) {count j : Nat} (hj : j < count) :
    ((List.range count).map fun i => if p i then 2 ^ i else 0).sum.testBit j = p j := by
  induction count with
  | zero => exact absurd hj (Nat.not_lt_zero j)
  | succ n ih =>
    have below := sum_flags_lt n p
    rw [List.range_succ, List.map_append, List.sum_append, List.map_singleton, List.sum_singleton]
    obtain last | earlier := Nat.eq_or_lt_of_le (Nat.lt_succ_iff.mp hj)
    · subst last
      cases p j with
      | false => exact Nat.testBit_lt_two_pow below
      | true => rw [if_pos rfl, Nat.add_comm, Nat.testBit_two_pow_add_eq, Nat.testBit_lt_two_pow below]; rfl
    · cases p n with
      | false => exact ih earlier
      | true => rw [if_pos rfl, Nat.add_comm, Nat.testBit_two_pow_add_gt earlier]; exact ih earlier

theorem flag_flagsWord (p : Nat → Bool) {i : Nat} (hi : i < 32) : flag (flagsWord p) i = p i := by
  unfold flag
  rw [BitVec.getLsbD, toNat_flagsWord]
  exact testBit_sum_flags p hi

theorem zoneIn_limitZones (zs : ZoneSet) (p : Nat → Bool) {z : Nat} (hz : z < 64) :
    zoneIn (limitZones zs p) z = (zoneIn zs z && p z) := by
  unfold zoneIn limitZones
  split
  · next low => exact flag_flagsWord _ low
  · next high =>
    rw [flag_flagsWord _ (by omega), show 32 + (z - 32) = z by omega]

/-! ## The zones of a cue (R180, R181) -/

theorem mem_theatreZones (s : State) (zs : ZoneSet) (z : Nat) : z ∈ s.theatreZones zs
    ↔ (z < 64 ∧ zoneIn zs z = true) ∧ (s.zone z).mapped = true ∧ (s.zone z).kind = .theatreZone := by
  unfold State.theatreZones zonesOf
  rw [List.mem_filter, List.mem_filter, List.mem_range, ZoneEntry.theatre, Bool.and_eq_true, beq_iff_eq]

theorem theatreZones_eq_nil (s : State) (zs : ZoneSet) : s.theatreZones zs = []
    ↔ ∀ z, z < 64 ∧ zoneIn zs z = true → ¬ ((s.zone z).mapped = true ∧ (s.zone z).kind = .theatreZone) := by
  rw [List.eq_nil_iff_forall_not_mem]
  exact forall_congr' fun z => (not_congr (mem_theatreZones s zs z)).trans not_and

theorem theatreZones_nodup (s : State) (zs : ZoneSet) : (s.theatreZones zs).Nodup :=
  (List.nodup_range.filter _).filter _

/-! ## FADE (R180) -/

/-- Changing zones changes nothing besides. -/
theorem forEach_zones {ns : List Nat} {f : Nat → State → State} (turn : ∀ z s, ∃ zones, f z s = { s with zones := zones })
    (s : State) : ∃ zones, s.forEach ns f = { s with zones := zones } := by
  refine forEach_keeps (P := fun t => ∃ zones, t = { s with zones := zones }) (fun z _ t ht => ?_) ⟨s.zones, rfl⟩
  obtain ⟨zones, rfl⟩ := ht
  exact turn z _

/-- A FADE within range ramps the mapped THEATRE zones of its set (R180). -/
theorem fade_within {s : State} {c : Cue} (within : field c.word3 0 13 ≤ 4096) :
    ∃ zones, s.fade c = ({ s with zones := zones }, .fired) ∧ ∀ z < 64, zones.get z
      = if z ∈ s.theatreZones c.zones then (s.zone z).startRamp (field c.word3 0 13) (field c.word3 16 12) else s.zone z := by
  obtain ⟨zones, faded⟩ := forEach_zones (ns := s.theatreZones c.zones) (f := fun z s => s.setZone z
    ((s.zone z).startRamp (field c.word3 0 13) (field c.word3 16 12))) (fun z s => ⟨_, rfl⟩) s
  refine ⟨zones, ?_, fun z hz => ?_⟩
  · unfold State.fade
    rw [if_neg (Nat.not_lt.mpr within), faded]
  · have ramped := forEach_setZone (fun _ e => e.startRamp (field c.word3 0 13) (field c.word3 16 12))
      (theatreZones_nodup s c.zones) (fun z hz => ((mem_theatreZones s c.zones z).mp hz).1.1) s hz
    rw [faded] at ramped
    exact ramped

/-! ## PLAY (R103, R181) -/

theorem startRequest_none {s : State} {cue base periods repeats : Nat} {zs : ZoneSet}
    (refused : s.control.busyStream = true ∨ (∀ m < 8, (s.stream m).state ≠ .free) ∨ s.zonesTaken 2 zs = []) :
    s.startRequest cue base periods repeats zs = none := by
  unfold State.startRequest
  obtain busy | full | none := refused
  · exact if_pos busy
  · rw [freeRecord_eq_none full, ite_self]
  · rw [none]
    cases s.freeRecord with
    | none => exact ite_self _
    | some m => exact ite_self _

theorem startRequest_starts {s : State} {cue base periods repeats m : Nat} {zs : ZoneSet}
    (idle : s.control.busyStream = false) (some : s.zonesTaken 2 zs ≠ []) (record : s.freeRecord = .some m) :
    s.startRequest cue base periods repeats zs
      = .some (s.startStream m (.showCue cue) 2 (.clip base periods repeats) (s.zonesTaken 2 zs)) := by
  unfold State.startRequest
  rw [if_neg (by rw [idle]; exact Bool.false_ne_true), record]
  cases taken : s.zonesTaken 2 zs with
  | nil => exact absurd taken some
  | cons z rest => rfl

/-- The zones a PLAY cue asks for (R181). -/
def State.playZones (s : State) (c : Cue) : ZoneSet := limitZones c.zones fun z => (s.zone z).theatre

theorem zoneIn_playZones (s : State) (c : Cue) {z : Nat} (hz : z < 64) : zoneIn (s.playZones c) z = true
    ↔ (z < 64 ∧ zoneIn c.zones z = true) ∧ (s.zone z).mapped = true ∧ (s.zone z).kind = .theatreZone := by
  unfold State.playZones
  rw [zoneIn_limitZones _ _ hz, Bool.and_eq_true, ZoneEntry.theatre, Bool.and_eq_true, beq_iff_eq, and_iff_right hz]

/-- The clip of a PLAY cue is none, or its set has no mapped THEATRE zone (R181). -/
def State.unplayable (s : State) (c : Cue) : Prop :=
  (field c.word3 16 16 = 0 ∨ topAddress < clipLast (field c.word3 0 16 * 4096) (field c.word3 16 16))
    ∨ s.theatreZones c.zones = []

theorem play_unplayable {s : State} {n : Nat} {c : Cue} (bad : s.unplayable c) : s.play n c = (s, .faulted) := by
  unfold State.play
  obtain clip | zones := bad
  · exact if_pos clip
  · rw [zones]
    exact (congrArg (ite _ _) (if_pos rfl)).trans (ite_self _)

theorem play_requests {s : State} {n : Nat} {c : Cue} (playable : ¬ s.unplayable c) : s.play n c
    = match s.startRequest n (field c.word3 0 16 * 4096) (field c.word3 16 16) c.repeats (s.playZones c) with
      | none => (s, .faulted)
      | some t => (t, .fired) := by
  obtain ⟨clip, zones⟩ := not_or.mp playable
  unfold State.play
  exact (if_neg clip).trans (if_neg zones)

/-! ## The cue fired and passed (R177, R179) -/

section actions

variable {s : State} {n : Nat} {c : Cue}

theorem cueAction_note (note : c.action = .note) : s.cueAction n c = (s, .fired) := by
  unfold State.cueAction
  rw [note]

theorem cueAction_fade (fade : c.action = .fade) : s.cueAction n c = s.fade c := by
  unfold State.cueAction
  rw [fade]

theorem cueAction_play (play : c.action = .play) : s.cueAction n c = s.play n c := by
  unfold State.cueAction
  rw [play]

theorem cueAction_halt (halt : c.action = .halt) :
    s.cueAction n c = (s.endCueStream (field c.word3 0 8), .fired) := by
  unfold State.cueAction
  rw [halt]

end actions

theorem fireCue_of_action {s t : State} {st : CueState} (goesOn : (s.theatre.cue s.theatre.pointer).action ≠ .endShow)
    (acted : s.cueAction s.theatre.pointer (s.theatre.cue s.theatre.pointer) = (t, st)) :
    s.fireCue = t.passCue s.theatre.pointer (s.theatre.cue s.theatre.pointer).notify st := by
  rw [fireCue_eq, if_neg goesOn]
  unfold State.cuePassed
  dsimp only
  rw [acted]

theorem fireCue_ends {s : State} (ends : (s.theatre.cue s.theatre.pointer).action = .endShow) :
    s.fireCue = (s.passCue s.theatre.pointer (s.theatre.cue s.theatre.pointer).notify .fired).endShow := by
  rw [fireCue_eq, if_pos ends]
  unfold State.cuePassed State.cueAction
  dsimp only
  rw [ends]

/-- A cue's trigger and value do not follow its state; past the list the bank answers with its cell 0, whose trigger and value
stand as well. -/
theorem setCueState_cue (r : ShowRecord) {n : Nat} (hn : n < 256) (st : CueState) :
    ((r.setCueState n st).cue (n + 1)).trigger = (r.cue (n + 1)).trigger
      ∧ ((r.setCueState n st).cue (n + 1)).value = (r.cue (n + 1)).value := by
  have stands : (r.setCueState n st).cue (n + 1) = r.cue (n + 1) := by
    unfold ShowRecord.cue ShowRecord.setCueState
    obtain last | earlier := Nat.eq_or_lt_of_le hn
    · have first (b : Bank 256 Cue) : b.get (n + 1) = b.get 0 := by
        rw [Bank.get_eq_getElem b 0 (by decide)]
        exact (List.getD_eq_default _ _ (Nat.le_of_eq (b.size.trans last.symm))).trans (List.head_eq_getElem _)
      rw [first, first, Bank.get_set_ne _ _ _ _ (by decide) (by omega)]
    · exact Bank.get_set_ne _ _ _ _ earlier (by omega)
  exact ⟨congrArg Cue.trigger stands, congrArg Cue.value stands⟩

theorem setCueState_pointAt (r : ShowRecord) {n : Nat} (hn : n < 256) (st : CueState) :
    (r.setCueState n st).pointAt (n + 1) = { r with
      cues := r.cues.set n { r.cue n with state := st }, pointer := n + 1,
      follow := if n + 1 < r.length ∧ (r.cue (n + 1)).trigger = .follow then (r.cue (n + 1)).value else r.follow } := by
  obtain ⟨trigger, value⟩ := setCueState_cue r hn st
  unfold ShowRecord.pointAt
  rw [trigger, value]
  rfl

end Sys2Proof.Machine
end

section
/-! PROOFS. A fired cue acts and is passed (R177, R179 to R183). -/

namespace Sys2Proof.Machine

/-- Settles O38, by the cue's action; a PLAY by its start request. -/
theorem firedCueActsAndIsPassed : Obligations.FiredCueActsAndIsPassed := by
  intro s hn n c theatre inSet target base periods unplayable
  have acts {a : CueAction} {t : State} {st : CueState} (action : c.action = a) (goesOn : a ≠ .endShow)
      (acted : s.cueAction n c = (t, st)) : s.fireCue = t.passCue n c.notify st :=
    fireCue_of_action (fun ends => goesOn (action.symm.trans ends)) acted
  have empty := theatreZones_eq_nil s c.zones
  have judged : unplayable ↔ s.unplayable c := (or_congr_right (or_congr_right empty.symm)).trans or_assoc.symm
  refine ⟨fun note => ?_, fun fade far => ?_, fun fade within => ?_, fun halt => ?_, fun ends => ?_, fun play bad => ?_,
    fun play playable => ?_, fun t st same => ?_⟩
  · exact acts note nofun (cueAction_note note)
  · exact acts fade nofun ((cueAction_fade fade).trans (if_pos far))
  · obtain ⟨zones, faded, levels⟩ := fade_within (s := s) (c := c) within
    refine ⟨zones, acts fade nofun ((cueAction_fade fade).trans faded), fun z hz => ⟨fun zone => ?_, fun other => ?_⟩⟩
    · exact (levels z hz).trans (if_pos ((mem_theatreZones s c.zones z).mpr zone))
    · exact (levels z hz).trans (if_neg fun zone => other ((mem_theatreZones s c.zones z).mp zone))
  · exact acts halt nofun (cueAction_halt halt)
  · exact fireCue_ends ends
  · exact acts play nofun ((cueAction_play play).trans (play_unplayable (judged.mp bad)))
  · have requested := (cueAction_play play).trans (play_requests (n := n) (c := c) fun bad => playable (judged.mpr bad))
    refine ⟨s.playZones c, fun z hz => zoneIn_playZones s c hz, fun refused => ?_, fun idle some m hm free first => ?_⟩
    · rw [startRequest_none refused] at requested
      exact acts play nofun requested
    · rw [startRequest_starts idle some (freeRecord_eq_some hm free first)] at requested
      exact acts play nofun requested
  · intro next r
    have passed (notify : Bool) : t.passed n notify st
        = { r with lastFired := if notify then some { cue := n, state := st, mark := t.markNumber % 65536 } else r.lastFired } := by
      unfold State.passed
      rw [same, setCueState_pointAt s.theatre hn st]
    rw [passCue_eq, passCue_eq, passed, passed]
    exact ⟨rfl, rfl⟩

end Sys2Proof.Machine
end

section
/-! SUPPORT. SHH and SHR, part by part: the levels, the streams and the show record (R104, R186, R188, R189). -/

namespace Sys2Proof.Machine

/-! ## The show-owned streams (R104) -/

theorem showOwned_iff (r : StreamRecord) : r.showOwned = true ↔ r.owner ≠ .announce := by
  unfold StreamRecord.showOwned
  cases r.owner <;> simp

theorem pause_eq : (fun q : StreamRecord => if q.owner ≠ .announce ∧ (q.state = .starting ∨ q.state = .playing) then
    { q with state := .paused } else q) = StreamRecord.pause :=
  funext fun q => (if_congr (and_congr (showOwned_iff q) (sounding_iff q)) rfl rfl).symm

theorem resume_eq : (fun q : StreamRecord => if q.owner ≠ .announce ∧ q.state = .paused then
    { q with state := if q.current then .playing else .starting } else q) = StreamRecord.resume :=
  funext fun q => (if_congr (and_congr_left' (showOwned_iff q)) rfl rfl).symm

/-! ## The levels of a hold and of a resume (R188, R189) -/

/-- A zone at the resume: with a snapshot entry it ramps to it over 48 ticks (R189). -/
def ZoneEntry.resumed (snap : HoldSnapshot) (z : Nat) (e : ZoneEntry) : ZoneEntry :=
  match snap.levels.get z with
  | some level => if e.theatre then e.startRamp level 48 else e
  | none => e

theorem resumeZone_eq (snap : HoldSnapshot) (z : Nat) (s : State) :
    State.resumeZone snap z s = s.setZone z ((s.zone z).resumed snap z) := by
  have stays : s.setZone z (s.zone z) = s :=
    congrArg (fun zones => ({ s with zones := zones } : State)) (Bank.set_get s.zones z)
  unfold State.resumeZone ZoneEntry.resumed
  cases snap.levels.get z with
  | none => exact stays.symm
  | some level =>
    dsimp only
    split
    · rfl
    · exact stays.symm

/-- The loop over the zones (R189). -/
theorem resumeZones_eq (snap : HoldSnapshot) (s : State) : s.forEach (List.range 64) (State.resumeZone snap)
    = { s with zones := Bank.ofFn 64 fun z => (s.zone z).resumed snap z } := by
  obtain ⟨zones, looped⟩ := forEach_zones (ns := List.range 64) (fun z s => ⟨_, resumeZone_eq snap z s⟩) s
  have turn : State.resumeZone snap = fun z t => t.setZone z ((t.zone z).resumed snap z) :=
    funext fun z => funext fun t => resumeZone_eq snap z t
  rw [looped]
  congr 1
  refine Bank.ext_get fun z hz => ?_
  have ramped := forEach_setZone (fun z e => e.resumed snap z) List.nodup_range (fun z hz => List.mem_range.mp hz) s hz
  rw [← turn, looped, if_pos (List.mem_range.mpr hz)] at ramped
  rw [Bank.get_ofFn _ _ hz]
  exact ramped

theorem resumeShow_eq {s : State} {snap : HoldSnapshot} (kept : s.theatre.snapshot = some snap) : s.resumeShow
    = State.post { s with
        zones := Bank.ofFn 64 fun z => (s.zone z).resumed snap z
        streams := s.streams.map StreamRecord.resume
        theatre := { s.theatre with state := .running, holdCause := none, follow := snap.follow, snapshot := none } }
      .showNotice := by
  unfold State.resumeShow
  rw [kept]
  dsimp only
  rw [resumeZones_eq]
  rfl

/-! ## The show from its first cue (R172) -/

theorem allWaiting_pointAt (r : ShowRecord) (base : Nat) :
    ShowRecord.pointAt { r.allWaiting with follow := 0, markBase := base, state := .running } 0 = { r with
      cues := r.cues.map fun c => { c with state := .waiting }, pointer := 0, markBase := base, state := .running,
      follow := if 0 < r.length ∧ (r.cue 0).trigger = .follow then (r.cue 0).value else 0 } := by
  have first : (r.cues.map fun c : Cue => { c with state := .waiting }).get 0 = { r.cue 0 with state := .waiting } :=
    Bank.get_map _ _ _ (by decide)
  have trigger := congrArg Cue.trigger first
  have value := congrArg Cue.value first
  unfold ShowRecord.pointAt ShowRecord.allWaiting
  dsimp only
  congr 1
  exact if_congr (and_congr_right' (by exact Eq.congr_left trigger)) value rfl

section shg

variable {s : State}

theorem takeShg_refused (rests : s.theatre.state = .idle ∨ s.theatre.state = .held) : s.takeShg = .error .state := by
  unfold State.takeShg
  obtain idle | held := rests
  · rw [idle]
  · rw [held]

theorem takeShg_alarm (stopped : s.theatre.state = .stopped) (alarmed : s.alarm.state ≠ .quiet) :
    s.takeShg = .error .alarm := by
  unfold State.takeShg
  rw [stopped]
  exact if_pos alarmed

/-- The state in which SHG considers the first cue of a STOPPED show (R172). -/
def State.startedShow (s : State) : State :=
  State.post { s with theatre := { s.theatre with
    cues := s.theatre.cues.map fun c => { c with state := .waiting }, pointer := 0, markBase := s.clock.markCount,
    state := .running,
    follow := if 0 < s.theatre.length ∧ (s.theatre.cue 0).trigger = .follow then (s.theatre.cue 0).value else 0 } } .showNotice

theorem takeShg_starts (stopped : s.theatre.state = .stopped) (quiet : s.alarm.state = .quiet) :
    s.takeShg = .ok (s.startedShow.consider.theatre.pointer, s.startedShow.consider) := by
  unfold State.takeShg State.startedShow
  rw [stopped, ← allWaiting_pointAt]
  exact if_neg (not_not.mpr quiet)

theorem takeShg_fires (running : s.theatre.state = .running)
    (go : s.theatre.pointer < s.theatre.length ∧ (s.theatre.cue s.theatre.pointer).trigger = .go) :
    s.takeShg = .ok (s.fireCue.consider.theatre.pointer, s.fireCue.consider) := by
  unfold State.takeShg
  rw [running]
  exact if_pos go

theorem takeShg_waits (running : s.theatre.state = .running)
    (waits : s.theatre.length ≤ s.theatre.pointer ∨ (s.theatre.cue s.theatre.pointer).trigger ≠ .go) :
    s.takeShg = .error .state := by
  unfold State.takeShg
  rw [running]
  exact if_neg fun go => waits.elim (Nat.not_le.mpr go.1) fun other => other go.2

end shg

end Sys2Proof.Machine
end

section
/-! PROOFS. SHG, SHH, SHR and SHS by show and alarm state. -/

namespace Sys2Proof.Machine

/-- Settles O36, command by command. -/
theorem showCommandsByState : Obligations.ShowCommandsByState := by
  intro s h heard idle r state
  have shg : Taken s h .shg := taken_of_fits heard rfl idle
  have shh : Taken s h .shh := taken_of_fits heard rfl idle
  have shr : Taken s h .shr := taken_of_fits heard rfl idle
  have shs : Taken s h .shs := taken_of_fits heard rfl idle
  refine ⟨fun rests => shg.refused (takeShg_refused rests), fun stopped alarmed => shg.refused (takeShg_alarm stopped alarmed),
    fun stopped quiet => shg.accepted (takeShg_starts stopped quiet),
    fun running _ within go => shg.accepted (takeShg_fires running ⟨within, go⟩),
    fun running waits => shg.refused (takeShg_waits running waits), fun other => shh.refused (if_neg other),
    fun running => ?_, fun other => shr.refused (if_pos other),
    fun held alarmed => shr.refused ((if_neg (not_not.mpr held)).trans (if_pos alarmed)), fun snap held quiet kept => ?_,
    fun idle => shs.refused (if_pos idle), fun shows => shs.accepted (if_neg shows)⟩
  · refine (shh.accepted (if_pos running)).trans ?_
    rw [pause_eq]
    rfl
  · refine (shr.accepted ((if_neg (not_not.mpr held)).trans (if_neg (not_not.mpr quiet)))).trans ?_
    rw [resume_eq, resumeShow_eq (s := s.atTake h .shr) kept]
    rfl

end Sys2Proof.Machine
end

section
/-! SUPPORT. A ramp from its start to its target, step by step (R184). -/

namespace Sys2Proof.Machine

/-- Up to its last tick a ramp stays between where it started and its target (R184). -/
theorem ramp_within {level target r k : Nat} (fits : level ≤ 4096) (within : target ≤ 4096) (hk : k ≤ r) :
    0 ≤ (level : Int) + k * ((target : Int) - level).tdiv r ∧ (level : Int) + k * ((target : Int) - level).tdiv r ≤ 4096 := by
  have fewer : (k : Int) ≤ r := Int.ofNat_le.mpr hk
  have some : (0 : Int) ≤ k := Int.natCast_nonneg k
  obtain ⟨up, step, whole⟩ | ⟨down, step, whole⟩ := tdiv_toward ((target : Int) - level) r
  · have part := mul_le_mul_of_nonneg_right fewer step
    have rises := mul_nonneg some step
    omega
  · have part := mul_le_mul_of_nonpos_right fewer step
    have falls := mul_nonpos_of_nonneg_of_nonpos some step
    omega

section ramp

variable {e : ZoneEntry} {target r : Nat} (fits : e.level ≤ 4096) (within : target ≤ 4096) (positive : 0 < r)
include fits within positive

/-- A ramp before its last tick (R184). -/
theorem iterate_stepRamp {k : Nat} (early : k < r) : Nat.iterate ZoneEntry.stepRamp k (e.startRamp target r) = { e with
    level := ((e.level : Int) + k * ((target : Int) - e.level).tdiv r).toNat, levelTarget := target
    ramp := some { step := ((target : Int) - e.level).tdiv r, ticksLeft := r - k } } := by
  induction k with
  | zero =>
    rw [Function.iterate_zero_apply, startRamp_of_pos e target positive]
    congr 1
    omega
  | succ k ih =>
    have stands := (ramp_within fits within (Nat.le_of_lt (Nat.lt_of_succ_lt early))).1
    have next (level step : Int) : level + k * step + step = level + (k + 1 : Nat) * step := by
      push_cast
      ring
    rw [Function.iterate_succ_apply', ih (Nat.lt_of_succ_lt early), stepRamp_more rfl (Nat.lt_sub_of_add_lt (by omega))]
    dsimp only
    rw [Int.toNat_of_nonneg stands, next]
    rfl

/-- At the last tick the level is the target exactly (R184). -/
theorem iterate_stepRamp_all : Nat.iterate ZoneEntry.stepRamp r (e.startRamp target r)
    = { e with level := target, levelTarget := target, ramp := none } := by
  obtain ⟨k, rfl⟩ : ∃ k, r = k + 1 := ⟨r - 1, by omega⟩
  rw [Function.iterate_succ_apply', iterate_stepRamp fits within positive (Nat.lt_succ_self k),
    stepRamp_last rfl (by dsimp only; omega)]

theorem iterate_stepRamp_le {k : Nat} (hk : k ≤ r) :
    (Nat.iterate ZoneEntry.stepRamp k (e.startRamp target r)).level ≤ 4096 := by
  obtain early | rfl := Nat.lt_or_eq_of_le hk
  · rw [iterate_stepRamp fits within positive early]
    exact Int.toNat_le.mpr (ramp_within fits within hk).2
  · rw [iterate_stepRamp_all fits within positive]
    exact within

end ramp

/-- A step of a ramp is read from the levels. -/
theorem stepRamp_levels_congr {e e' : ZoneEntry} (same : e'.levels = e.levels) : e'.stepRamp.levels = e.stepRamp.levels := by
  obtain ⟨mapped, kind, gain, level, target, ramp⟩ := (levels_eq_iff e e').mp same
  cases m : e.ramp with
  | none =>
    rw [stepRamp_of_none m, stepRamp_of_none (ramp.trans m)]
    exact same
  | some m' =>
    obtain last | more := Nat.lt_or_ge 1 m'.ticksLeft |>.symm
    · rw [stepRamp_last m last, stepRamp_last (ramp.trans m) last]
      exact (levels_eq_iff _ _).mpr ⟨mapped, kind, gain, target, target, rfl⟩
    · rw [stepRamp_more m more, stepRamp_more (ramp.trans m) more]
      exact (levels_eq_iff _ _).mpr ⟨mapped, kind, gain, by dsimp only; rw [level], target, rfl⟩

end Sys2Proof.Machine
end

section
/-! SUPPORT. The pointer cue that waits through the steps of an event (R75 to R79, R174 to R178). -/

namespace Sys2Proof.Machine

/-! ## A cue that waits -/

/-- The show mark number at a mark count (R167). -/
def ShowRecord.markAt (r : ShowRecord) (markCount : Nat) : Nat := (markCount + 16777216 - r.markBase) % 16777216

/-- A MARK cue is not due, and is not made due by a mark within `k` steps: no window closes in them, or at most one, whose mark does
not reach the cue's number (R176 to R178). -/
def ShowRecord.NotDue (r : ShowRecord) (c : ClockUnit) (k : Nat) : Prop :=
  (c.lock = .free ∨ c.lock = .acquiring)
    ∨ (r.markAt c.markCount < (r.cue r.pointer).value ∧ (c.stepCount + k < c.lockedInterval + 16
      ∨ (800 ≤ c.lockedInterval ∧ r.markAt c.markMade.markCount < (r.cue r.pointer).value)))

/-- No cue fires within `k` measured steps: there is no pointer cue of a RUNNING show, or it is one that waits (R174 to R177). -/
def ShowRecord.Waits (r : ShowRecord) (c : ClockUnit) (k : Nat) : Prop :=
  r.state = .running → r.pointer < r.length →
    ((r.cue r.pointer).trigger = .mark → r.NotDue c k) ∧ ((r.cue r.pointer).trigger = .follow → 0 < r.follow)

theorem consider_of_waits {s : State} {k : Nat} (waits : s.theatre.Waits s.clock k) : s.consider = s := by
  by_cases live : s.theatre.state = .running ∧ s.theatre.pointer < s.theatre.length
  · obtain ⟨mark, follow⟩ := waits live.1 live.2
    refine consider_waits live ?_
    cases trigger : (s.theatre.cue s.theatre.pointer).trigger with
    | go => exact cueVerdict_go trigger
    | mark =>
      refine (cueVerdict_mark trigger).trans (markVerdict_waits ?_)
      obtain (free | acquiring) | ⟨early, -⟩ := mark trigger
      · exact .inl (by rw [free]; decide)
      · exact .inl (by rw [acquiring]; decide)
      · exact .inr early
    | follow => exact (cueVerdict_follow trigger).trans (if_neg (Nat.ne_of_gt (follow trigger)))
  · unfold State.consider considerChain
    exact if_neg live

/-! ## A measured step (R75, R77, R78) -/

theorem notDue_countStep {r : ShowRecord} {c : ClockUnit} {k : Nat} (notDue : r.NotDue c (k + 1)) : r.NotDue c.countStep k := by
  have counted : c.countStep.stepCount ≤ c.stepCount + 1 := by
    unfold ClockUnit.countStep
    dsimp only
    split <;> omega
  obtain seeks | ⟨early, opens | far⟩ := notDue
  · exact .inl seeks
  · have interval : c.countStep.lockedInterval = c.lockedInterval := rfl
    exact .inr ⟨early, .inl (by omega)⟩
  · exact .inr ⟨early, .inr far⟩

/-- A window that closes makes one mark, and the next is a whole interval away. -/
theorem notDue_expired {r : ShowRecord} {c : ClockUnit} {k : Nat} (few : k ≤ 2) (closed : c.windowClosed = true)
    (notDue : r.NotDue c k) : r.NotDue c.expired k := by
  obtain seeks | ⟨early, next⟩ := notDue
  · rw [expired_of_seeking seeks]
    exact .inl seeks
  · obtain ⟨interval, reached⟩ : 800 ≤ c.lockedInterval ∧ r.markAt c.markMade.markCount < (r.cue r.pointer).value := by
      refine next.resolve_left fun opens => ?_
      have closes : c.lockedInterval + 16 ≤ c.stepCount := of_decide_eq_true closed
      omega
    have restarts (d : ClockUnit) (count : d.stepCount = 16) (same : d.lockedInterval = c.lockedInterval)
        (marks : d.markCount = c.markMade.markCount) : r.NotDue d k :=
      .inr ⟨by rw [marks]; exact reached, .inl (by omega)⟩
    cases lock : c.lock with
    | free =>
      rw [expired_of_seeking (.inl lock)]
      exact .inl (.inl lock)
    | acquiring =>
      rw [expired_of_seeking (.inr lock)]
      exact .inl (.inr lock)
    | locked =>
      rw [expired_of_locked lock]
      exact restarts _ rfl rfl rfl
    | holdover =>
      by_cases last : c.synthesized + 1 = 24
      · rw [expired_of_last lock last]
        exact .inl (.inl rfl)
      · rw [expired_of_more lock last]
        exact restarts _ rfl rfl rfl

theorem waits_measured {r : ShowRecord} {c : ClockUnit} {k : Nat} (few : k ≤ 2) (waits : r.Waits c (k + 1)) :
    r.Waits c.measured k := by
  intro running within
  obtain ⟨mark, follow⟩ := waits running within
  refine ⟨fun trigger => ?_, follow⟩
  have counted := notDue_countStep (mark trigger)
  unfold ClockUnit.measured
  split
  · next closed => exact notDue_expired few closed counted
  · exact counted

/-- A measured step makes its mark, if any, and the show considers its cue there (R79). -/
theorem measureStep_considers (s : State) : ∃ v, SameLevels s v ∧ v.clock = s.clock.measured
    ∧ (s.measureStep = v ∨ s.measureStep = v.consider) := by
  let u : State := { s with clock := s.clock.countStep }
  have counted : SameLevels s u := .quiet
  have seeks (lock : s.clock.lock = .free ∨ s.clock.lock = .acquiring) : s.clock.measured = u.clock := by
    unfold ClockUnit.measured
    rw [expired_of_seeking (c := s.clock.countStep) lock, ite_self]
  have opens (opens : ¬ u.clock.windowClosed = true) : s.clock.measured = u.clock := if_neg opens
  have closes (closed : u.clock.windowClosed = true) : s.clock.measured = u.clock.expired := if_pos closed
  rw [measureStep_eq]
  dsimp only
  split
  · next lock => exact ⟨u, counted, (seeks (.inl lock)).symm, .inl rfl⟩
  · next lock => exact ⟨u, counted, (seeks (.inr lock)).symm, .inl rfl⟩
  · next lock =>
    split
    · next closed =>
      refine ⟨{ State.post { u with clock := { u.clock with lock := .holdover } } .showNotice with
        clock := u.clock.expired }, .quiet, (closes closed).symm, .inr ?_⟩
      rw [expired_of_locked (c := u.clock) lock]
      rfl
    · next still => exact ⟨u, counted, (opens still).symm, .inl rfl⟩
  · next lock =>
    split
    · next closed =>
      by_cases last : u.clock.synthesized + 1 = 24
      · refine ⟨{ State.post { u with clock := { u.clock with lock := .free } } .showNotice with
          clock := u.clock.expired }, .quiet, (closes closed).symm, .inr ?_⟩
        rw [expired_of_last (c := u.clock) lock last]
        exact if_pos last
      · refine ⟨{ u with clock := u.clock.expired }, .quiet, (closes closed).symm, .inr ?_⟩
        rw [expired_of_more (c := u.clock) lock last]
        exact if_neg last
    · next still => exact ⟨u, counted, (opens still).symm, .inl rfl⟩

end Sys2Proof.Machine
end

section
/-! SUPPORT. The event of a tick, as the show engine sees it: the works of the other blocks and of the measurement, and its own among
them (R69 to R72, R178, R194). -/

namespace Sys2Proof.Machine

/-! ## What the other works carry -/

/-- The registers by which a MARK cue is judged now and at the steps to come (R75 to R78). -/
structure ClockUnit.SameMarks (c d : ClockUnit) : Prop where
  lock : d.lock = c.lock
  stepCount : d.stepCount = c.stepCount
  interval : d.lockedInterval = c.lockedInterval
  markCount : d.markCount = c.markCount

theorem ClockUnit.SameMarks.of_eq {c d : ClockUnit} (same : d = c) : c.SameMarks d := by
  subst same
  exact ⟨rfl, rfl, rfl, rfl⟩

/-- What a property of the state with `k` steps still to be measured needs, to come through the works of an event that are not the
show engine's stages at the tick. -/
structure Carried (P : Nat → State → Prop) : Prop where
  quiet : ∀ {k s t}, SameLevels s t → s.clock.SameMarks t.clock → P k s → P k t
  measured : ∀ {k s}, k ≤ 2 → P (k + 1) s → P k s.measureStep

section

variable {P : Nat → State → Prop} (carried : Carried P)
include carried

/-- The steps credited at one event (R69, R70, R72). -/
theorem Carried.measure {n k : Nat} (few : k + n ≤ 3) {s : State} (h : P (k + n) s) : P k (s.measure n) := by
  induction n generalizing k with
  | zero => exact h
  | succ n ih =>
    have step : s.measure (n + 1) = (s.measure n).measureStep := forEach_range_succ s n _
    rw [step]
    refine carried.measured (by omega) (ih (k := k + 1) (by omega) ?_)
    rwa [Nat.add_right_comm]

/-- A change of the clock unit that leaves the marks. -/
theorem Carried.clock {k : Nat} {s : State} {c : ClockUnit} (same : s.clock.SameMarks c) (h : P k s) : P k { s with clock := c } :=
  carried.quiet .quiet same h

end

/-! ## The other blocks at a tick at which the panel does not act -/

theorem alarmTick_levels {s : State} (panel : s.panelRests = true) : SameLevels s s.alarmTick := by
  have watched := patternAndWatch_levels s
  obtain ⟨-, hold, -⟩ := (atDecoder (.refl s)).fields
  unfold State.alarmTick
  generalize s.patternStep.watchStep = w at watched hold ⊢
  have due : w.alarm.holdCount ≠ 19 := by
    rw [hold]
    exact bne_iff_ne.mp panel
  have held : SameLevels s w.countHold := by
    rw [countHold_of_rests due]
    split
    · exact watched.trans .quiet
    · exact watched
  obtain same | counted := decoderStep_alarm_cases w
  · rw [same]
    exact held
  · rw [counted]
    exact held.trans .quiet

/-- A run of blocks without the show engine's leaves the show and the levels. -/
theorem foldl_blockTick_levels (before : State) {bs : List TickBlock} (once : bs.Nodup) (others : .showEngine ∉ bs) {s : State}
    (panel : .alarm ∈ bs → s.panelRests = true) :
    SameLevels s (bs.foldl (State.blockTick before) s) ∧ (bs.foldl (State.blockTick before) s).clock = s.clock := by
  induction bs generalizing s with
  | nil => exact ⟨.refl s, rfl⟩
  | cons b bs ih =>
    obtain ⟨fresh, once⟩ := List.nodup_cons.mp once
    obtain ⟨other, others⟩ := not_or.mp (mt List.mem_cons.mpr others)
    have first : SameLevels s (State.blockTick before s b) ∧ (State.blockTick before s b).clock = s.clock := by
      cases b with
      | stream => exact ⟨streamTick_levels before s, (streamTick_apart before s).clock⟩
      | intercom => exact ⟨intercomTick_levels s, (intercomTick_still s).clock⟩
      | alarm => exact ⟨alarmTick_levels (panel List.mem_cons_self), (alarmTick_still s).clock⟩
      | showEngine => exact absurd rfl other
    have rest := ih once others fun later => by
      have same := (blockTick_unheeded before s fun e : b = .alarm => fresh (e ▸ later)).alarm
      unfold State.panelRests
      rw [same]
      exact panel (List.mem_cons_of_mem _ later)
    exact ⟨first.1.trans rest.1, rest.2.trans first.2⟩

/-- Every order takes the show engine once, and no block twice (R71, R194). -/
theorem tickBlocks_show (o : TickOrder) : ∃ earlier later, tickBlocks o = earlier ++ .showEngine :: later
    ∧ .showEngine ∉ earlier ∧ .showEngine ∉ later ∧ (earlier ++ later).Nodup := by
  refine ⟨(tickBlocks o).takeWhile (· != .showEngine), ((tickBlocks o).dropWhile (· != .showEngine)).tail, ?_⟩
  cases o <;> decide

/-! ## The tick and the event -/

/-- The steps that an event in time credits (R69, R70, R72). -/
def stepsCredited (e : TimeEvent) : Nat :=
  match e with
  | .nextStep _ _ => 1
  | .gapExpiry _ => 3

section

variable {Before After : Nat → State → Prop} (arrives : Carried Before) (leaves : Carried After)
  (shows : ∀ {k s}, Before k s → After k s.showTick)
include arrives leaves shows

/-- The show engine's stages among the works of a tick at which the panel does not act. -/
theorem makeTick_carries {s : State} {k : Nat} (order : TickOrder) (panel : s.panelRests = true) (h : Before k s) :
    After k (s.makeTick order) := by
  obtain ⟨earlier, later, blocks, early, late, once⟩ := tickBlocks_show order
  obtain ⟨onceE, onceL, apart⟩ := List.nodup_append.mp once
  let c := s.tickCounted
  have whole : s.makeTick order = later.foldl (State.blockTick c) (earlier.foldl (State.blockTick c) c).showTick := by
    have taken : s.makeTick order = (tickBlocks order).foldl (State.blockTick c) c := rfl
    rw [taken, blocks, List.foldl_append, List.foldl_cons]
    rfl
  have found := foldl_blockTick_levels c onceE early (s := c) fun _ => panel
  have heeds : .alarm ∈ later → .alarm ∉ earlier := fun mem mem' => apart _ mem' _ mem rfl
  have unheeded (mem : .alarm ∈ later) := (foldl_blockTick_unheeded c (heeds mem) c).trans (showTick_unheeded _)
  rw [whole]
  generalize earlier.foldl (State.blockTick c) c = u at found unheeded ⊢
  have counted : Before k c := arrives.clock ⟨rfl, rfl, rfl, rfl⟩ h
  have stages : After k u.showTick := shows (arrives.quiet found.1 (.of_eq found.2) counted)
  have left := foldl_blockTick_levels c onceL late (s := u.showTick) fun mem => by
    unfold State.panelRests
    rw [(unheeded mem).alarm]
    exact panel
  exact leaves.quiet left.1 (.of_eq left.2) stages

theorem creditSteps_carries {s : State} {n : Nat} (order : Interleave) (few : n ≤ 3) (due : s.clock.tickDue n = true)
    (panel : s.panelRests = true) (h : Before n s) : After 0 (s.creditSteps n order) := by
  have phased := arrives.clock (c := s.clock.advancePhase n) ⟨rfl, rfl, rfl, rfl⟩ h
  obtain ⟨early, -⟩ | ⟨-, credited | credited⟩ := creditSteps_cases s n order
  · rw [due] at early
    cases early
  · rw [credited]
    refine makeTick_carries arrives leaves shows order.blocks ?_ (arrives.measure (by omega) (by rwa [Nat.zero_add]))
    unfold State.panelRests
    rw [(measure_unheeded _ n).alarm]
    exact panel
  · rw [credited]
    refine leaves.measure (by omega) ?_
    rw [Nat.zero_add]
    exact makeTick_carries arrives leaves shows order.blocks panel phased

omit arrives shows in
theorem loseLine_carries {s : State} (h : After 0 s) : After 0 s.loseLine :=
  leaves.quiet (s := s) .quiet ⟨rfl, rfl, rfl, rfl⟩ h

omit arrives shows in
theorem monitorLine_carries {s : State} (gap : Nat) (h : After 0 s) : After 0 (s.monitorLine gap) := by
  obtain ⟨-, monitored⟩ | ⟨-, -, lost⟩ | ⟨-, -, monitored⟩ := monitorLine_cases s gap
  · rw [monitored]
    exact leaves.clock ⟨rfl, rfl, rfl, rfl⟩ h
  · rw [lost]
    exact loseLine_carries leaves h
  · rw [monitored]
    exact leaves.clock ⟨rfl, rfl, rfl, rfl⟩ h

theorem passTime_carries {s : State} {e : TimeEvent} (ticks : s.ticksAt e = true) (panel : s.panelRests = true)
    (h : Before (stepsCredited e) s) : After 0 (s.passTime e) := by
  cases e with
  | nextStep gap order =>
    unfold State.ticksAt at ticks
    rw [Bool.and_eq_true, Bool.not_eq_true', beq_iff_eq] at ticks
    obtain ⟨released, phase⟩ := ticks
    have credited := creditSteps_carries arrives leaves shows (n := 1) order (by decide)
      (by simp [ClockUnit.tickDue, phase]) panel h
    unfold State.passTime
    cases source : s.clock.source with
    | line =>
      dsimp only
      rw [clockEdge_of_line released gap order source]
      exact monitorLine_carries leaves gap credited
    | reference =>
      dsimp only
      rw [referenceStep_of_reference released order source]
      exact credited
  | gapExpiry order =>
    unfold State.ticksAt at ticks
    rw [Bool.and_eq_true, Bool.and_eq_true, Bool.not_eq_true', beq_iff_eq] at ticks
    obtain ⟨⟨released, line⟩, due⟩ := ticks
    rw [State.passTime, expireGap_of_line released order line]
    exact loseLine_carries leaves (creditSteps_carries arrives leaves shows (n := 3) order (by decide) due panel h)

/-- The event of a tick at which the panel does not act. -/
theorem run_carries {s : State} {e : TimeEvent} (ticks : s.ticksAt e = true) (panel : s.panelRests = true)
    (h : Before (stepsCredited e) s) : After 0 (s.run fun s => s.passTime e) := by
  have begun : Before (stepsCredited e) s.begun := arrives.quiet (s := s) .quiet ⟨rfl, rfl, rfl, rfl⟩ h
  have passed := passTime_carries arrives leaves shows (s := s.begun) ticks panel begun
  exact leaves.quiet (s := s.begun.passTime e) .quiet ⟨rfl, rfl, rfl, rfl⟩ passed

end

/-! ## A show whose cue waits -/

/-- The show record is `r`, the zones' levels are those of `zone`, and the pointer cue waits. -/
structure Poised (r : ShowRecord) (zone : Nat → ZoneEntry) (k : Nat) (s : State) : Prop where
  theatre : s.theatre = r
  zone : ∀ z < 64, (s.zone z).levels = (zone z).levels
  waits : r.Waits s.clock k

theorem Poised.same {r : ShowRecord} {zone : Nat → ZoneEntry} {k k' : Nat} {s t : State} (h : Poised r zone k s)
    (same : SameLevels s t) (waits : r.Waits t.clock k') : Poised r zone k' t where
  theatre := same.theatre.trans h.theatre
  zone z hz := (same.zone z hz).trans (h.zone z hz)
  waits := waits

theorem waits_same {r : ShowRecord} {c d : ClockUnit} {k : Nat} (same : c.SameMarks d) (waits : r.Waits c k) : r.Waits d k := by
  intro running within
  obtain ⟨mark, follow⟩ := waits running within
  refine ⟨fun trigger => ?_, follow⟩
  have notDue := mark trigger
  unfold ShowRecord.NotDue ClockUnit.markMade at *
  rwa [same.lock, same.stepCount, same.interval, same.markCount]

theorem poised_carried (r : ShowRecord) (zone : Nat → ZoneEntry) : Carried (Poised r zone) where
  quiet same marks h := h.same same (waits_same marks h.waits)
  measured {k s} few h := by
    obtain ⟨v, same, clock, considers⟩ := measureStep_considers s
    have poised : Poised r zone k v := h.same same (clock ▸ waits_measured few h.waits)
    obtain step | step := considers
    · rwa [step]
    · rwa [step, consider_of_waits (k := k) (by rw [poised.theatre]; exact poised.waits)]

/-- The stages of a tick at which the cue waits: the ramps step and the follow remaining counts (R178). -/
theorem Poised.showTick {r : ShowRecord} {zone : Nat → ZoneEntry} {k : Nat} {s : State} (h : Poised r zone k s)
    (waits : r.countFollow.Waits s.clock k) : Poised r.countFollow (fun z => (zone z).stepRamp) k s.showTick := by
  let t : State := State.setShow { s with zones := s.zones.map ZoneEntry.stepRamp } s.theatre.countFollow
  have counted : t.theatre = r.countFollow := congrArg ShowRecord.countFollow h.theatre
  have stays : s.showTick = t := consider_of_waits (s := t) (k := k) (by rw [counted]; exact waits)
  rw [stays]
  refine ⟨counted, fun z hz => ?_, waits⟩
  have stepped : t.zone z = (s.zone z).stepRamp := Bank.get_map _ s.zones z hz
  rw [stepped]
  exact stepRamp_levels_congr (h.zone z hz)

end Sys2Proof.Machine
end

section
/-! SUPPORT. A cue that has fired stays fired through the rest of the event (R174, R177, R179). -/

namespace Sys2Proof.Machine

/-! ## A cue passed -/

/-- The pointer has gone past cue `n`, which has fired or faulted (R179). -/
def ShowRecord.Fired (r : ShowRecord) (n : Nat) : Prop :=
  n < r.pointer ∧ ((r.cue n).state = .fired ∨ (r.cue n).state = .faulted)

theorem passed_cue (s : State) (m : Nat) (notify : Bool) (st : CueState) {n : Nat} (hn : n < 256) :
    (s.passed m notify st).cue n = if m = n then { s.theatre.cue m with state := st } else s.theatre.cue n :=
  Bank.get_set _ _ _ _ hn

theorem cueAction_state (s : State) (n : Nat) (c : Cue) : (s.cueAction n c).2 = .fired ∨ (s.cueAction n c).2 = .faulted := by
  unfold State.cueAction
  cases c.action with
  | note => exact .inl rfl
  | endShow => exact .inl rfl
  | halt => exact .inl rfl
  | fade =>
    dsimp only [State.fade]
    split
    · exact .inr rfl
    · exact .inl rfl
  | play =>
    dsimp only [State.play]
    repeat' split
    · exact .inr rfl
    · exact .inr rfl
    · exact .inr rfl
    · exact .inl rfl

section

variable {s : State} {n : Nat} (hn : n < 256)
include hn

/-- Passing the pointer cue leaves the cues before it. -/
theorem fired_passed {u : State} (same : u.theatre = s.theatre) (h : s.theatre.Fired n) (notify : Bool) (st : CueState) :
    (u.passed s.theatre.pointer notify st).Fired n := by
  obtain ⟨past, state⟩ := h
  refine ⟨Nat.lt_succ_of_lt past, ?_⟩
  rw [passed_cue u _ notify st hn, if_neg (Nat.ne_of_gt past), same]
  exact state

omit hn in
theorem fired_endShow (h : s.theatre.Fired n) : s.endShow.theatre.Fired n := by
  rw [endShow_eq]
  exact h

omit hn in
/-- Firing comes to what holds of the show record with the cue passed, and of what END makes of it. -/
theorem fireCue_of_cuePassed {P : ShowRecord → Prop} (passed : P s.cuePassed.theatre)
    (ends : P s.cuePassed.theatre → P s.cuePassed.endShow.theatre) : P s.fireCue.theatre := by
  rw [fireCue_eq]
  split
  · exact ends passed
  · exact passed

theorem fired_consider (h : s.theatre.Fired n) : s.consider.theatre.Fired n := by
  refine consider_keeps (P := fun t => t.theatre.Fired n) (fun t h => ?_) (fun t h => ?_) h
  · refine fireCue_of_cuePassed (P := (·.Fired n)) ?_ fired_endShow
    rw [cuePassed_theatre]
    exact fired_passed hn (cueAction_theatre t _ _) h _ _
  · unfold State.skipCue
    rw [passCue_eq]
    exact fired_passed hn rfl h _ _

theorem fired_fireCue (pointer : s.theatre.pointer = n) : s.fireCue.theatre.Fired n := by
  refine fireCue_of_cuePassed (P := (·.Fired n)) ?_ fired_endShow
  rw [cuePassed_theatre, pointer]
  refine ⟨Nat.lt_succ_self n, ?_⟩
  rw [passed_cue _ _ _ _ hn, if_pos rfl]
  exact cueAction_state s n _

theorem fired_carried : Carried fun _ s => s.theatre.Fired n where
  quiet same _ h := by rwa [same.theatre]
  measured {k s} _ h := by
    obtain ⟨v, same, -, step | step⟩ := measureStep_considers s
    · rwa [step, same.theatre]
    · rw [step]
      exact fired_consider hn (by rwa [same.theatre])

end

/-- A show whose pointer cue is a FOLLOW cue with one tick left (R177). -/
structure ShowRecord.FollowsNext (r : ShowRecord) : Prop where
  running : r.state = .running
  within : r.pointer < r.length
  short : r.length ≤ 256
  trigger : (r.cue r.pointer).trigger = .follow
  last : r.follow = 1

theorem countFollow_of_follow {r : ShowRecord} (running : r.state = .running) (within : r.pointer < r.length)
    (trigger : (r.cue r.pointer).trigger = .follow) (some : 0 < r.follow) :
    r.countFollow = { r with follow := r.follow - 1 } := if_pos ⟨running, within, trigger, some⟩

/-- At the tick that takes the follow remaining to 0 the cue fires (R177, R178). -/
theorem Poised.fires {r : ShowRecord} {zone : Nat → ZoneEntry} {k : Nat} {s : State} (h : Poised r zone k s)
    (next : r.FollowsNext) : s.showTick.theatre.Fired r.pointer := by
  let t : State := State.setShow { s with zones := s.zones.map ZoneEntry.stepRamp } s.theatre.countFollow
  have theatre : t.theatre = { r with follow := 0 } := by
    have counted : t.theatre = r.countFollow := congrArg ShowRecord.countFollow h.theatre
    rw [counted, countFollow_of_follow next.running next.within next.trigger (by rw [next.last]; decide), next.last]
  have hn : r.pointer < 256 := Nat.lt_of_lt_of_le next.within next.short
  have fires : t.consider = t.fireCue.consider := by
    refine consider_fires ?_ (by rw [theatre]; exact next.short) ?_
    · rw [theatre]
      exact ⟨next.running, next.within⟩
    · rw [cueVerdict_follow (by rw [theatre]; exact next.trigger), theatre]
      exact if_pos rfl
  have ticked : s.showTick = t.consider := rfl
  rw [ticked, fires]
  exact fired_consider hn (fired_fireCue hn (by rw [theatre]))

end Sys2Proof.Machine
end

section
/-! SUPPORT. The rows of a tick at which the show's cue waits, or fires as its follow remaining reaches 0 (R177, R178, R184). -/

namespace Sys2Proof.Machine

/-! ## The event of a tick -/

section

variable {s : State} {e : TimeEvent} (ticks : s.ticksAt e = true) (panel : s.panelRests = true)
include ticks panel

/-- At an event at which no cue fires every ramp takes one step, and the follow remaining counts (R178). -/
theorem run_waits (waits : s.theatre.Waits s.clock (stepsCredited e))
    (counts : ∀ (c : ClockUnit) (k : Nat), s.theatre.Waits c k → s.theatre.countFollow.Waits c k) :
    Poised s.theatre.countFollow (fun z => (s.zone z).stepRamp) 0 (s.run fun s => s.passTime e) :=
  run_carries (poised_carried s.theatre s.zone) (poised_carried _ _) (fun h => h.showTick (counts _ _ h.waits)) ticks panel
    ⟨rfl, fun _ _ => rfl, waits⟩

/-- The event at which the follow remaining reaches 0 (R177). -/
theorem run_fires (next : s.theatre.FollowsNext) : (s.run fun s => s.passTime e).theatre.Fired s.theatre.pointer := by
  refine run_carries (poised_carried s.theatre s.zone) (fired_carried (Nat.lt_of_lt_of_le next.within next.short))
    (fun h => h.fires next) ticks panel ⟨rfl, fun _ _ => rfl, fun _ _ => ⟨fun mark => ?_, fun _ => ?_⟩⟩
  · exact nomatch mark.symm.trans next.trigger
  · rw [next.last]
    decide

end

/-! ## The cues that wait -/

/-- Without a FOLLOW cue to count the show record stands (R177). -/
theorem countFollow_of_other {r : ShowRecord} (other : r.state = .running → r.pointer < r.length →
    (r.cue r.pointer).trigger ≠ .follow) : r.countFollow = r :=
  if_neg fun h => other h.1 h.2.1 h.2.2.1

theorem not_live_of_rests {s : State} (rests : s.showRests = true) (running : s.theatre.state = .running) :
    ¬ s.theatre.pointer < s.theatre.length := by
  unfold State.showRests at rests
  rw [Bool.or_eq_true, bne_iff_ne, decide_eq_true_eq] at rests
  exact Nat.not_lt.mpr (rests.resolve_left fun stopped => stopped running)

theorem waits_of_rests {s : State} (rests : s.showRests = true) (c : ClockUnit) (k : Nat) : s.theatre.Waits c k :=
  fun running within => absurd within (not_live_of_rests rests running)

theorem exec_tick_of_ticks {s : State} {e : TimeEvent} (ticks : s.ticksAt e = true) :
    exec (.tick e) s = .next (s.run fun s => s.passTime e) := congrArg Host.Outcome.next (runIf_of_due (tickMade_of_ticks ticks))

/-- A row of a tick at which no cue fires and none counts. -/
theorem tick_stands {s : State} {e : TimeEvent} (ticks : s.ticksAt e = true) (panel : s.panelRests = true)
    (waits : s.theatre.Waits s.clock (stepsCredited e))
    (other : s.theatre.state = .running → s.theatre.pointer < s.theatre.length →
      (s.theatre.cue s.theatre.pointer).trigger ≠ .follow) :
    Poised s.theatre (fun z => (s.zone z).stepRamp) 0 (s.run fun s => s.passTime e) := by
  have stands := countFollow_of_other other
  have ticked := run_waits ticks panel waits fun c k h => by rwa [stands]
  rwa [stands] at ticked

/-- The row of a follow remaining that reaches 0 is the event (R177, log 5). -/
theorem exec_followExpiry {s : State} {e : TimeEvent} (ticks : s.ticksAt e = true) (panel : s.panelRests = true)
    (next : s.theatre.FollowsNext) : exec (.followExpiry e) s = .next (s.run fun s => s.passTime e) := by
  have fired : ((s.run fun s => s.passTime e).theatre.cue s.theatre.pointer).state ≠ .waiting := by
    obtain ⟨-, fired | faulted⟩ := run_fires ticks panel next
    · rw [fired]; decide
    · rw [faulted]; decide
  refine congrArg Host.Outcome.next (runIf_of_due ?_)
  unfold followExpired
  simp [next.running, next.within, next.trigger, next.last, tickMade_of_ticks ticks, fired]

/-- The row of a ramp's last step is the event (R184, log 5). -/
theorem exec_levelRampEnd {s : State} {e : TimeEvent} {z : Nat} {m : Ramp} (ticks : s.ticksAt e = true)
    (ramp : (s.zone z).ramp = some m) (last : m.ticksLeft = 1) :
    exec (.levelRampEnd z e) s = .next (s.run fun s => s.passTime e) := by
  refine congrArg Host.Outcome.next (runIf_of_due ?_)
  unfold rampEnded
  simp [ramp, last, tickMade_of_ticks ticks]

/-! ## One zone at the tick -/

/-- What one step of a ramp makes of a level, its target and the ramp (R184). -/
theorem stepped_levels {e t : ZoneEntry} (stepped : t.levels = e.stepRamp.levels) : t.levelTarget = e.levelTarget
    ∧ (∀ m, e.ramp = some m → 1 < m.ticksLeft → t.level = ((e.level : Int) + m.step).toNat
      ∧ t.ramp = some { step := m.step, ticksLeft := m.ticksLeft - 1 })
    ∧ (e.ramp = none → t.level = e.level ∧ t.ramp = none)
    ∧ (∀ m, e.ramp = some m → m.ticksLeft = 1 → t.level = e.levelTarget ∧ t.ramp = none) := by
  obtain ⟨-, -, -, level, target, ramp⟩ := (levels_eq_iff _ _).mp stepped
  rw [level, target, ramp]
  refine ⟨?_, fun m some more => ?_, fun none => ?_, fun m some last => ?_⟩
  · unfold ZoneEntry.stepRamp
    repeat' split
    all_goals rfl
  · rw [stepRamp_more some more]
    exact ⟨rfl, rfl⟩
  · rw [stepRamp_of_none none]
    exact ⟨rfl, none⟩
  · rw [stepRamp_last some (Nat.le_of_eq last)]
    exact ⟨rfl, rfl⟩

end Sys2Proof.Machine
end

section
/-! PROOFS. FOLLOW cues and ramps at a tick. -/

namespace Sys2Proof.Machine

/-- Settles O48: the ramp by its iterated step; the rows by the event as the show engine sees it. -/
theorem followsAndRamps : Obligations.FollowsAndRamps := by
  refine ⟨fun e target r => ⟨fun none => if_pos none, startRamp_of_pos e target, fun fits within positive _ => ?_⟩,
    fun s e ticks panel => ?_, fun s e ticks panel => ?_⟩
  · refine ⟨fun k early => ?_, fun k hk => iterate_stepRamp_le fits within positive hk, iterate_stepRamp_all fits within positive⟩
    rw [iterate_stepRamp fits within positive early]
  · refine ⟨fun running within short trigger last => ?_, fun z hz m ramp last rests => ?_⟩
    · have next : s.theatre.FollowsNext := ⟨running, within, short, trigger, last⟩
      exact ⟨_, exec_followExpiry ticks panel next, run_fires ticks panel next⟩
    · have stands := tick_stands ticks panel (waits_of_rests rests _ _) fun running within =>
        absurd within (not_live_of_rests rests running)
      obtain ⟨target, -, -, ends⟩ := stepped_levels (stands.zone z hz)
      obtain ⟨level, done⟩ := ends m ramp last
      exact ⟨_, exec_levelRampEnd ticks ramp last, done, level, target⟩
  · intro n ramped c unlocked steps number value notDue
    have rampedOf {r : ShowRecord} {t : State} (h : Poised r (fun z => (s.zone z).stepRamp) 0 t) : ramped t := fun z hz => by
      obtain ⟨target, more, none, -⟩ := stepped_levels (h.zone z hz)
      exact ⟨target, more, none⟩
    refine ⟨fun rests => ?_, fun running within waits => ?_, fun running within trigger more => ?_⟩
    · have stands := tick_stands ticks panel (waits_of_rests rests _ _) fun running within =>
        absurd within (not_live_of_rests rests running)
      exact ⟨_, exec_tick_of_ticks ticks, rampedOf stands, stands.theatre⟩
    · have other : (s.theatre.cue n).trigger ≠ .follow := fun follow => by
        obtain go | ⟨mark, -⟩ := waits
        · exact nomatch go.symm.trans follow
        · exact nomatch mark.symm.trans follow
      have stands := tick_stands ticks panel (fun _ _ => ⟨fun mark => ?_, fun follow => absurd follow other⟩) fun _ _ => other
      · exact ⟨_, exec_tick_of_ticks ticks, rampedOf stands, stands.theatre⟩
      · obtain go | ⟨-, notDue⟩ := waits
        · exact nomatch go.symm.trans mark
        · cases e <;> exact notDue
    · have counted := countFollow_of_follow running within trigger (Nat.lt_of_succ_lt more)
      have ticked := run_waits ticks panel (fun _ _ => ⟨fun mark => (nomatch mark.symm.trans trigger), fun _ => Nat.lt_of_succ_lt more⟩)
        fun k c waits _ _ => by
          rw [counted]
          exact ⟨fun mark => (nomatch mark.symm.trans trigger), fun _ => Nat.sub_pos_of_lt more⟩
      rw [counted] at ticked
      exact ⟨_, exec_tick_of_ticks ticks, rampedOf ticked, ticked.theatre⟩

end Sys2Proof.Machine
end
